-- ==== Sys2Proof/Word.lean ====
section
/-! DEFINITION. The byte, the one machine word of the TC-46's serial lines (R176: eight data bits). -/

namespace Sys2Proof

/-- One character of a request line or a printer line: eight data bits (R176, R177). -/
abbrev Byte := BitVec 8

/-- The sum of a run of bytes, modulo 256 (R177: "the sum ... is 0 modulo 256"). -/
def byteSum (bytes : List Byte) : Byte := bytes.foldl (· + ·) 0

end Sys2Proof
end

