-- ==== Sys2Proof/Syntax.lean ====
section
/-! DEFINITION. The commands of the TC-46: one constructor of `Instr` for each row of spec/opcode_table.json.

A request row carries the line it is sent on and the fields of its frame (R203), as the numbers the frame carries: a
field may be out of its range, and the owning rule then refuses it. An answer row carries the answer the printer
gives (R104, R204). A timer row is the expiry of that timer; an input row is the input's change. -/

namespace Sys2Proof

/-- A request line, numbered from 0: 0-5 are W1-W6, 6 is OF (section 2 of the scope, R44). -/
abbrev Line := Fin 7

/-- A till session, numbered from 0: 0-5 are sessions 1-6, 6 is session 7, the office's (R44). -/
abbrev SessionId := Fin 7

/-- A printer, numbered from 0: printer 1 is 0. -/
abbrev PrinterId := Fin 4

/-- A stock kind, numbered from 0: kind 1 is 0 (R1). -/
abbrev Kind := Fin 8

/-- A pack slot, numbered from 0: slot 1 is 0 (R3). -/
abbrev Slot := Fin 64

/-- The office line OF. -/
abbrev officeLine : Line := 6

/-- A sensor set (R106): each field is the sensor's good reading. -/
structure Sensors where
  coverClosed : Bool
  formsPresent : Bool
  headGood : Bool
  deriving DecidableEq, Repr

/-- The four kinds of refusal of a printer operation (R104). -/
inductive RefusalKind where
  | jam
  | noForms
  | coverOpen
  | headFault
  deriving DecidableEq, Repr

/-- An answer to an operation other than READ STRIP (R104). -/
inductive Answer where
  /-- OK, with its sensor set. -/
  | ok (set : Sensors)
  /-- One of the four refusals; it carries no sensor set. -/
  | refused (why : RefusalKind)
  deriving DecidableEq, Repr

/-- An answer to READ STRIP (R104, R204). -/
inductive StripAnswer where
  /-- OK, "no form". -/
  | noForm (set : Sensors)
  /-- OK, a form: strip check good or bad, the two prefix characters and the serial read. -/
  | strip (good : Bool) (letter1 letter2 : Byte) (serial : Nat) (set : Sensors)
  /-- One of the four refusals. -/
  | refused (why : RefusalKind)
  deriving DecidableEq, Repr

/-- What a set-aside printer frame carries (R105, R124, R144, R205). -/
inductive FrameContent where
  /-- An OK answer's sensor set. -/
  | sensors (set : Sensors)
  /-- A refusal. -/
  | refusal (why : RefusalKind)
  /-- Neither: the frame is no answer and no SENSOR CHANGE. -/
  | other
  deriving DecidableEq, Repr

/-- The stages of start-up (R197, R198, R199), in their order. -/
inductive StartStage where
  /-- Straps and signature examined, line state set (R190, R197). -/
  | first
  /-- The job-in-progress record of one printer recovered (R198); nothing on the store-loss path. -/
  | recover (p : PrinterId)
  /-- The retained store settled: pending figures and open entries (R198), or the store-loss values (R197). -/
  | retained
  /-- Volatile state of every block set and the printers' enquiries begun (R199). -/
  | volatile
  /-- The lines open (R199). -/
  | opened
  deriving DecidableEq, Repr

/-- How the backup supply's loss makes the signature word bad (R196). -/
inductive SupplyLoss where
  /-- The backup supply falls below its holding range. -/
  | belowRange
  /-- The supply collapses during a retained update. -/
  | cutShort
  deriving DecidableEq, Repr

/-- The two rate straps, `true` for closed (R176). -/
structure Straps where
  aClosed : Bool
  bClosed : Bool
  deriving DecidableEq, Repr

/-- The commands, in the order of spec/opcode_table.json. -/
inductive Instr where
  | readNotices (l : Line)
  | setNoticeMask (l : Line) (mask : BitVec 16)
  | readOutcomes (l : Line)
  | abort (l : Line)
  | readClock (l : Line)
  | setClock (l : Line) (stamp day rollHour : Nat)
  | signOn (l : Line) (clerk float : Nat)
  | void (l : Line) (issue : Nat)
  | lift (l : Line) (session amount : Nat)
  | setThresholds (l : Line) (high low : Nat)
  | readTill (l : Line) (session : Nat)
  | readJournal (l : Line) (session position : Nat)
  | writeBody (l : Line) (bytes : List Byte)
  | issue (l : Line) (kind passengers base index tender coupons : Nat) (named : Option Nat) (text : List Byte)
  | cancel (l : Line) (issue : Nat)
  | abortJob (l : Line) (issue : Nat)
  | divert (l : Line) (printerA printerB : Nat)
  | setWindowMap (l : Line) (session : Nat) (entries : Vector (Nat × Nat) 8)
  | setDiscount (l : Line) (index rate floor step : Nat)
  | setStockKind (l : Line) (kind : Nat) (letter1 letter2 : Byte) (threshold : Nat)
  | receivePack (l : Line) (kind first count : Nat)
  | loadPack (l : Line) (slot printer : Nat)
  | unloadPack (l : Line) (printer : Nat)
  | closePack (l : Line) (slot : Nat)
  | purgePack (l : Line) (slot : Nat)
  | readPack (l : Line) (slot : Nat)
  | readException (l : Line)
  | auditSet (l : Line) (slot serial : Nat)
  | auditNext (l : Line)
  | setPrinter (l : Line) (printer kind feed settle : Nat)
  | release (l : Line) (printer : Nat)
  | takeOffline (l : Line) (printer : Nat)
  | bringOnline (l : Line) (printer : Nat)
  | printerReset (l : Line) (printer : Nat)
  | readPrinters (l : Line)
  | readFaults (l : Line) (start : Nat)
  | acknowledge (l : Line) (entry : Nat)
  | cashupBegin (l : Line) (session : Nat)
  | declareCash (l : Line) (session index count : Nat)
  | declareCard (l : Line) (session total : Nat)
  | declareWarrants (l : Line) (session count total : Nat)
  | cashupCommit (l : Line) (session : Nat)
  | cashupAbandon (l : Line) (session : Nat)
  | setDenomination (l : Line) (index face : Nat)
  | setTolerance (l : Line) (tolerance : Nat)
  | readCashup (l : Line)
  | review (l : Line) (record : Nat)
  /-- A well-checked frame whose first body byte `code` names no request. -/
  | unknownRequest (l : Line) (code : Byte)
  /-- A frame with a bad length (`none`: no body byte was received) or a bad check (`some` of its first body byte). -/
  | rejected (l : Line) (first : Option Byte)
  | gapTimer (l : Line)
  | frameSent (l : Line)
  | engageAnswer (p : PrinterId) (answer : Answer)
  | liftAnswer (p : PrinterId) (answer : Answer)
  | advanceAnswer (p : PrinterId) (answer : Answer)
  | readStripAnswer (p : PrinterId) (answer : StripAnswer)
  | printLineAnswer (p : PrinterId) (answer : Answer)
  | ejectAnswer (p : PrinterId) (answer : Answer)
  | enquireAnswer (p : PrinterId) (answer : Answer)
  | sensorChange (p : PrinterId) (set : Sensors)
  | printerFrameSetAside (p : PrinterId) (content : FrameContent)
  | printerFrameDiscarded (p : PrinterId)
  | printerLineGap (p : PrinterId)
  | operationDeadline (p : PrinterId)
  | settleTime (p : PrinterId)
  | idleLiftTimer (p : PrinterId)
  | enquiryTimer (p : PrinterId)
  /-- During a reset wait: a 250 ms enquiry deadline passes (`false`), or the 2 s wait ends (`true`). -/
  | printerResetWait (p : PrinterId) (waitEnds : Bool)
  | drawerPulseEnd (n : SessionId)
  | lampFlash (p : PrinterId)
  | clockTick
  | dayRoll
  | pfailAsserted
  | rstAsserted
  /-- Start-up runs on, with the straps as wired, to the end of the stage named; `opened` is the whole of it. -/
  | startUp (straps : Straps) (stage : StartStage)
  | requestLineByteArrives (l : Line) (byte : Byte)
  | printerLineByteArrives (p : PrinterId) (byte : Byte)
  | backupSupplyLost (how : SupplyLoss)
  deriving DecidableEq, Repr

end Sys2Proof
end

