-- ==== Sys2Proof/Decode.lean ====
section
/-! DEFINITION. The table of the TC-46 gives no row bits: its commands are frames and events, not words. No word spells a
command. The layouts of the request frames are in Sys2Proof/Machine/Operands.lean (R203). -/

namespace Sys2Proof

/-- The command a word of the table spells: none, since no row of the table has bits. -/
def decodeTableWord (_nbits _w : Nat) : Option Instr := none

end Sys2Proof
end

