-- ==== Sys2Proof/Config.lean ====
section
/-! DEFINITION. The free values of the model: values and orders the manual leaves open. Each is an opaque
constant without a body, so that nothing can be proved of the value it has (log entries 2, 3 and 4). -/

namespace Sys2Proof

/-- DESIGN CHOICE (log entry 2), safe. The bytes of a READ PRINTERS reply for which the manual states neither a
value nor an absent value: the pack state of a printer with no loaded pack, and the issue number, job state, coupon
count and failure count of a printer with no job (R131, R201). The first argument is the model's draw counter
(`State.draws`), the second the place of the byte in the reply. -/
opaque Config.unstatedByte : Nat → Nat → Byte

/-- DESIGN CHOICE (log entry 3), safe. The byte by which an ABORT JOB reply says "ended" (`true`) or "ending"
(`false`): R100 names the two replies, R201 gives them no code. -/
opaque Config.abortJobByte : Bool → Byte

/-- DESIGN CHOICE (log entry 4), safe. The order in which the arbiters of several printers reach the exception
table when one event lets more than one of them claim and the records do not suffice for all: R20 and R91 say only
that each claim is judged on the count the other left. The argument is the model's draw counter; the number picks a
permutation of the four printers (`arbiterOrder`). -/
opaque Config.arbiterChoice : Nat → Nat

end Sys2Proof
end

