-- ==== Sys2Proof/Machine/State.lean ====
section
/-! DEFINITION. The state of the TC-46, block by block (section 3 of the scope), as plain data, and the state after
reset. Every record is the record its rule lists; the marks say where a value is the model's. -/

namespace Sys2Proof.Machine

/-! ## The clock (R191) -/

/-- A calendar date (R191). -/
structure Date where
  year : Nat
  month : Nat
  day : Nat
  deriving DecidableEq, Repr

/-- A time of day (R191). -/
structure TimeOfDay where
  hour : Nat
  minute : Nat
  second : Nat
  deriving DecidableEq, Repr

/-- A date and a time of day, as records keep them (R18, R45, R135, R166). -/
structure DateTime where
  date : Date
  time : TimeOfDay
  deriving DecidableEq, Repr

/-- A time stamp with its booking day number. -/
structure Stamp where
  at_ : DateTime
  day : Nat
  deriving DecidableEq, Repr

/-- The clock's five retained items (R191). -/
structure Clock where
  now : DateTime
  /-- Booking day number, 1-9,999. -/
  day : Nat
  /-- Roll hour, 0-23. -/
  rollHour : Nat
  /-- Clock-set flag. -/
  isSet : Bool
  deriving DecidableEq, Repr

/-! ## Stock table (R1-R27) -/

/-- A stock kind record (R1): the two prefix characters and the low-stock threshold. -/
structure StockKind where
  letter1 : Byte
  letter2 : Byte
  threshold : Nat
  deriving DecidableEq, Repr

/-- The five pack states (R6). -/
inductive PackState where
  | received
  | loaded
  | unloaded
  | spent
  | closed
  deriving DecidableEq, Repr

/-- A pack record (R3); its slot is its place in the table. `location` is `none` for the office. -/
structure Pack where
  kind : Kind
  first : Nat
  count : Nat
  cursor : Nat
  state : PackState
  location : Option PrinterId
  dayReceived : Nat
  lowFlag : Bool
  deriving DecidableEq, Repr

/-- The reasons of an exception record (R18). -/
inductive Reason where
  | spoiled
  | unreadable
  | skipped
  | voided
  | incomplete
  | lost
  | returned
  deriving DecidableEq, Repr

/-- An exception record (R18). -/
structure ExceptionRecord where
  slot : Slot
  first : Nat
  span : Nat
  reason : Reason
  session : Option SessionId
  clerk : Option Nat
  made : Stamp
  isRead : Bool
  deriving DecidableEq, Repr

/-- The retained stock table (R1, R3, R7, R18, R20, R22). -/
structure Stock where
  kinds : Vector StockKind 8
  packs : Vector (Option Pack) 64
  /-- The loaded pack of each printer (R7). -/
  loaded : Vector (Option Slot) 4
  /-- Exception records, oldest first. -/
  exceptions : List ExceptionRecord
  /-- The reservation count. -/
  reservation : Nat
  /-- The records-low condition. -/
  recordsLow : Bool
  deriving DecidableEq, Repr

/-! ## Fare unit (R28) -/

/-- A discount entry (R28). -/
structure Discount where
  rate : Nat
  floor : Nat
  step : Nat
  deriving DecidableEq, Repr

/-! ## Till unit (R45-R66, R155-R175) -/

/-- The three tenders. -/
inductive Tender where
  | cash
  | card
  | warrant
  deriving DecidableEq, Repr

/-- The session states (R45). -/
inductive SessionState where
  | closed
  | opened
  | cashup
  deriving DecidableEq, Repr

/-- The drawer states (R62). -/
inductive DrawerState where
  | normal
  | high
  | low
  deriving DecidableEq, Repr

/-- The three tallies of one tender (R48). -/
structure Tally where
  settledTotal : Nat
  settledCount : Nat
  voidedTotal : Nat
  voidedCount : Nat
  pendingTotal : Nat
  pendingCount : Nat
  deriving DecidableEq, Repr

/-- The four counters of one stock kind (R52). -/
structure KindCounters where
  issued : Nat
  voided : Nat
  incomplete : Nat
  failed : Nat
  deriving DecidableEq, Repr

/-- A coupon printed: its pack's slot and its serial. -/
structure Coupon where
  slot : Slot
  serial : Nat
  deriving DecidableEq, Repr

/-- A journal entry (R53). -/
structure JournalEntry where
  issue : Nat
  kind : Kind
  tender : Tender
  total : Nat
  passengers : Nat
  index : Fin 16
  coupons : List Coupon
  /-- Warrant reference (WARRANT), approval code or nothing (CARD), nothing (CASH). -/
  reference : List Byte
  settled : Stamp
  /-- `true` for VOIDED, `false` for ISSUED. -/
  isVoided : Bool
  deriving DecidableEq, Repr

/-- The declarations of a session (R161). -/
structure Declarations where
  cash : Vector Nat 12
  card : Nat
  warrantCount : Nat
  warrantTotal : Nat
  deriving DecidableEq, Repr

/-- A session's record (R45). -/
structure Session where
  state : SessionState
  clerk : Option Nat
  float : Nat
  signOn : Option Stamp
  cash : Tally
  card : Tally
  warrant : Tally
  liftsTotal : Nat
  liftsCount : Nat
  counters : Vector KindCounters 8
  /-- Newest first. -/
  journal : List JournalEntry
  nextIssue : Nat
  estimate : Nat
  drawer : DrawerState
  declared : Declarations
  owner : Option Line
  deriving DecidableEq, Repr

/-- The computed figures of a cash-up (R164), in its order. -/
structure Figures where
  counted : Int
  expected : Int
  takings : Int
  cashVariance : Int
  cardTakings : Int
  cardVariance : Int
  warrantCountTakings : Int
  warrantCountVariance : Int
  warrantValueTakings : Int
  warrantValueVariance : Int
  deriving DecidableEq, Repr

/-- The classes of a tender at cash-up (R165). -/
inductive CashupClass where
  | balanced
  | over
  | short
  | mismatch
  deriving DecidableEq, Repr

/-- Review states of a cash-up record (R165, R166). -/
inductive ReviewState where
  | notNeeded
  | needed
  | done
  deriving DecidableEq, Repr

/-- A cash-up record (R166). -/
structure CashupRecord where
  number : Nat
  session : SessionId
  clerk : Option Nat
  owner : Line
  signOn : Option Stamp
  commit : Stamp
  float : Nat
  cash : Tally
  card : Tally
  warrant : Tally
  liftsTotal : Nat
  liftsCount : Nat
  /-- Twelve pairs of face and declared count. -/
  denominations : List (Nat × Nat)
  cardDeclared : Nat
  warrantCountDeclared : Nat
  warrantTotalDeclared : Nat
  figures : Figures
  tolerance : Nat
  cashClass : CashupClass
  cardClass : CashupClass
  warrantClass : CashupClass
  /-- `true` for BALANCED, `false` for EXCEPTION. -/
  isBalanced : Bool
  counters : Vector KindCounters 8
  isRead : Bool
  review : ReviewState
  deriving DecidableEq, Repr

/-- The retained till unit: sessions (R45), thresholds (R61), denominations (R159), tolerance (R160), cash-up store
(R167). -/
structure Till where
  sessions : Vector Session 7
  high : Nat
  low : Nat
  /-- Face values; 0 is an unused entry. -/
  denominations : Vector Nat 12
  tolerance : Nat
  /-- Oldest first. -/
  cashups : List CashupRecord
  nextCashup : Nat
  deriving DecidableEq, Repr

/-! ## Print queue unit (R80-R103) -/

/-- The job states (R81). -/
inductive JobState where
  | queued
  | printing
  | suspended
  deriving DecidableEq, Repr

/-- A job record (R80). -/
structure Job where
  session : SessionId
  issue : Nat
  kind : Kind
  tender : Tender
  passengers : Nat
  index : Fin 16
  /-- Per-passenger charge c. -/
  charge : Nat
  /-- Charged total T. -/
  total : Nat
  requested : Nat
  printed : List Coupon
  failures : Nat
  /-- Warrant reference (WARRANT) or approval code (CARD); empty when absent. -/
  reference : List Byte
  body : List Byte
  state : JobState
  printer : PrinterId
  reservation : Nat
  abortMark : Bool
  substituted : Bool
  truncated : Bool
  deriving DecidableEq, Repr

/-- A printer's retained job-in-progress record: the job and the form-in-hand mark (R107, R115). -/
structure Progress where
  job : Job
  formInHand : Bool
  deriving DecidableEq, Repr

/-- The two lanes of a printer, each head first (R89). -/
structure Lanes where
  office : List Job
  window : List Job
  deriving DecidableEq, Repr

/-- An entry of a window printer map (R82). -/
structure MapEntry where
  primary : Option PrinterId
  alternate : Option PrinterId
  deriving DecidableEq, Repr

/-- How a job ended, as its outcome reports it (R96). -/
inductive JobResult where
  | done
  | failures
  | aborted
  | printerReset
  | power
  deriving DecidableEq, Repr

/-- An outcome (R96, R188). -/
structure Outcome where
  session : SessionId
  issue : Nat
  result : JobResult
  coupons : List Coupon
  substituted : Bool
  truncated : Bool
  deriving DecidableEq, Repr

/-! ## Receivers (R178, R205) -/

/-- A receiver of frames: WAIT LEAD, LENGTH, BODY and CHECK of R178, with what it has taken of the frame in hand. The
gap timer runs in every state but WAIT LEAD. -/
inductive Receiver where
  | waitLead
  | length (leadByte : Byte)
  | body (leadByte : Byte) (len : Nat) (got : List Byte)
  | check (leadByte : Byte) (len : Nat) (got : List Byte)
  deriving DecidableEq, Repr

/-! ## Printer controllers (R104-R133) -/

/-- The ten printer states (R107). -/
inductive PrinterState where
  | absent
  | idle
  | engaging
  | feeding
  | reading
  | printing
  | ejecting
  | fault
  | held
  | offline
  deriving DecidableEq, Repr

/-- The head states (R107). -/
inductive Head where
  | lifted
  | engaged
  deriving DecidableEq, Repr

/-- The form positions (R108). -/
inductive FormPosition where
  | none
  | verified
  | unknown
  deriving DecidableEq, Repr

/-- The lamp indications (R132). -/
inductive Lamp where
  | off
  | slowFlash
  | fastFlash
  | steady
  deriving DecidableEq, Repr

/-- A printer's configuration (R107, R110): kind 1-8 or none, feed class 0-3, settle class 0-3. -/
structure PrinterConfig where
  kind : Option Kind
  feedClass : Nat
  settleClass : Nat
  deriving DecidableEq, Repr

/-- The operations of the printer line (R104). -/
inductive Operation where
  | engage
  | lift
  | advance
  | readStrip
  | printLine (chars : List Byte)
  | eject
  | enquire
  deriving DecidableEq, Repr

/-- The work an operation was sent for (R104: the coupon loop, a waste eject, a LOAD PACK, the idle lift, TAKE
OFFLINE, the enquiry timer or PRINTER RESET), or none left: the work was stopped by a fault (R106), or its load ended by
ABORT (R10). -/
inductive Purpose where
  | loop
  | waste
  | load
  | idleLift
  | offlineLift
  | enquiry
  | stopped
  deriving DecidableEq, Repr

/-- The operation outstanding on a printer line (R104). `once` marks an ENQUIRE that is sent once (R105). -/
structure Outstanding where
  op : Operation
  purpose : Purpose
  once : Bool
  deriving DecidableEq, Repr

/-- What waits behind the outstanding operation, in the order it became due (R104): the coupon loop or a load about
to begin, or a single operation. -/
inductive Waiting where
  | loopStart
  | loadStep
  | op (op : Operation) (purpose : Purpose)
  deriving DecidableEq, Repr

/-- How the form being read came to the head: brought up by ADVANCE as a new form (R113), or read as a head form
(R114). -/
inductive FormKind where
  | newForm
  | headForm
  deriving DecidableEq, Repr

/-- A LOAD PACK in hand on a printer (R8, R9): its slot, the failed reads so far, and the state it was taken in. -/
structure Load where
  slot : Slot
  badReads : Nat
  takenIn : PrinterState
  deriving DecidableEq, Repr

/-- The volatile state of a printer controller (R107). -/
structure Controller where
  state : PrinterState
  head : Head
  position : FormPosition
  held : Bool
  /-- Missed-answer count, 0-1 (R105). -/
  missed : Nat
  /-- Last sensor set kept, if any (R106). -/
  sensors : Option Sensors
  /-- Used-form advances, 0-2 (R114). -/
  usedAdvances : Nat
  outstanding : Option Outstanding
  /-- The bytes of the operation frame that the controller has put on its line last, `none` before the first since start-up
  and in a halted part (R104, R105, R190, R204). The table has no row for the end of such a frame (log entry 38). -/
  sending : Option (List Byte)
  waiting : List Waiting
  /-- The form being read, and the bad reads made of it (R113, R114). -/
  formKind : FormKind
  badReads : Nat
  /-- The expansion held for the form being printed (R70), and how many of its lines have been sent (R116). -/
  expansion : List (List Byte)
  linesSent : Nat
  /-- The settle time is running (R111). -/
  settling : Bool
  /-- The idle-lift timer is running (R122). -/
  idleLift : Bool
  /-- The wait of PRINTER RESET is running (R130). -/
  resetWait : Bool
  /-- A physical fault is open on the printer (R125, R128). -/
  faultOpen : Bool
  /-- A LINK LOST fault is open: no frame has been received since the loss (R105, R125). -/
  linkLost : Bool
  load : Option Load
  lamp : Lamp
  /-- The lamp output as driven now. -/
  lampOn : Bool
  receiver : Receiver
  deriving DecidableEq, Repr

/-! ## Fault log (R134-R154) -/

/-- The fault kinds (R134). -/
inductive FaultKind where
  | coverOpen
  | jam
  | noForms
  | headFault
  | linkLost
  | stockGap
  | stockDisorder
  | wrongStock
  | noPack
  | storeLost
  deriving DecidableEq, Repr

/-- The states of a fault entry (R135). -/
inductive EntryState where
  | opened
  | cleared
  | acknowledged
  deriving DecidableEq, Repr

/-- What a held cause's entry records of the read that gave it (R135). -/
structure StripRead where
  expected : Nat
  letter1 : Byte
  letter2 : Byte
  serial : Nat
  deriving DecidableEq, Repr

/-- A fault entry (R135). `source` is `none` for PART; `laterKinds` has one bit per kind, numbered as R201 says. -/
structure FaultEntry where
  number : Nat
  source : Option PrinterId
  kind : FaultKind
  laterKinds : BitVec 16
  repeats : Nat
  state : EntryState
  openedAt : Stamp
  clearedAt : Option DateTime
  strip : Option StripRead
  session : Option SessionId
  deriving DecidableEq, Repr

/-- The retained fault log (R136, R150): its entries, oldest first, and the next entry number. -/
structure FaultLog where
  entries : List FaultEntry
  next : Nat
  deriving DecidableEq, Repr

/-! ## Request line interface (R176-R190) -/

/-- A reply waiting for the transmitter: its body, and the body of a second frame for READ CASHUP (R179, R203). -/
structure Reply where
  body : List Byte
  second : Option (List Byte)
  deriving DecidableEq, Repr

/-- What the transmitter is sending: the bytes of the frame, and the second frame of the same reply (R203). -/
structure Sending where
  frame : List Byte
  second : Option (List Byte)
  deriving DecidableEq, Repr

/-- A deferred request (R182). -/
inductive Deferred where
  | loadPack (p : PrinterId)
  | printerReset (p : PrinterId)
  deriving DecidableEq, Repr

/-- The state of one request line (section 9, R67, R178, R179, R182, R186, R188). -/
structure LineState where
  receiver : Receiver
  /-- Waiting replies, oldest first. -/
  replies : List Reply
  /-- A waiting notice is queued. -/
  notice : Bool
  sending : Option Sending
  deferred : Option Deferred
  /-- Notice mask: one enable per class. -/
  mask : BitVec 16
  /-- Pending notice set: one bit per class. -/
  pendingSet : BitVec 16
  /-- Outcome list, oldest first; the office line's stays empty. -/
  outcomes : List Outcome
  /-- Body buffer. -/
  body : List Byte
  deriving DecidableEq, Repr

/-! ## The part -/

/-- Whether the part is halted (R195), starting up, with the number of start-up's stages taken so far (R197-R199), or
running with its lines open. -/
inductive Phase where
  | halted
  | starting (stagesTaken : Nat)
  | running
  deriving DecidableEq, Repr

/-- The signature word (R196): VALID, UPDATING, or another value. -/
inductive Signature where
  | valid
  | updating
  | other
  deriving DecidableEq, Repr

/-- The start-up result (R200). -/
inductive StartResult where
  | storeKept
  | storeLost
  deriving DecidableEq, Repr

/-- The whole state of the TC-46. Two fields are the model's own: the queue of waiting commands, and `draws`, the
counter the free values are applied to. -/
structure State where
  /-- Commands waiting, first in, first out. -/
  pending : List Instr
  /-- The model's own counter of free values drawn (log entries 2 and 4). -/
  draws : Nat
  phase : Phase
  /-- PFAIL is asserted (R195). -/
  pfail : Bool
  /-- RST is asserted (R195). -/
  rst : Bool
  signature : Signature
  startResult : StartResult
  /-- The rate straps as read at the last start-up (R176). -/
  straps : Straps
  /-- Outcomes set aside by start-up recovery (R198). They belong to the retained updates of the recovery, and stand until
  the lines open with them in their lists (R98, R199, log entry 34). -/
  setAside : List Outcome
  clock : Clock
  stock : Stock
  /-- The audit cursor (R24), volatile. -/
  audit : Option (Slot × Nat)
  discounts : Vector Discount 16
  till : Till
  /-- The drawer-release outputs, `true` while active (R63). -/
  drawers : Vector Bool 7
  /-- The window printer maps of sessions 1-6 (R82). -/
  maps : Vector (Vector MapEntry 8) 6
  lanes : Vector Lanes 4
  configs : Vector PrinterConfig 4
  progress : Vector (Option Progress) 4
  controllers : Vector Controller 4
  log : FaultLog
  lines : Vector LineState 7
  deriving DecidableEq, Repr

/-! ## Stops -/

/-- The faults of a step. The TC-46 has none: it answers every request, takes every event of its inputs, and a printer
fault is state of the part (R134), not a stop of it. -/
inductive Fault where
  deriving DecidableEq, Repr

/-- The refusals of a step. -/
inductive Refusal where
  /-- Raised by `exec` alone, for a command that has no meaning yet. Safe: nothing is claimed of it. No arm raises it. -/
  | notModelled (mnemonic : String)
  deriving DecidableEq, Repr

/-! ## Store-loss values (R197) -/

/-- An undefined stock kind (R2, R27). -/
def StockKind.undefined : StockKind := ⟨0x2D, 0x2D, 0⟩

/-- The stock table after store loss (R27). -/
def Stock.storeLoss : Stock :=
  { kinds := Vector.replicate 8 .undefined, packs := Vector.replicate 64 none, loaded := Vector.replicate 4 none,
    exceptions := [], reservation := 0, recordsLow := false }

/-- The full fare, entry 0 of the discount table (R28). -/
def Discount.fullFare : Discount := ⟨0, 0, 1⟩

def Tally.zero : Tally := ⟨0, 0, 0, 0, 0, 0⟩

def KindCounters.zero : KindCounters := ⟨0, 0, 0, 0⟩

def Declarations.zero : Declarations := ⟨Vector.replicate 12 0, 0, 0, 0⟩

/-- A session after store loss (R66). -/
def Session.storeLoss : Session :=
  { state := .closed, clerk := none, float := 0, signOn := none, cash := .zero, card := .zero, warrant := .zero,
    liftsTotal := 0, liftsCount := 0, counters := Vector.replicate 8 .zero, journal := [], nextIssue := 1,
    estimate := 0, drawer := .normal, declared := .zero, owner := none }

/-- The till unit after store loss (R61, R66, R175). -/
def Till.storeLoss : Till :=
  { sessions := Vector.replicate 7 .storeLoss, high := 9999999, low := 0, denominations := Vector.replicate 12 0,
    tolerance := 0, cashups := [], nextCashup := 1 }

/-- The clock after store loss (R191). -/
def Clock.storeLoss : Clock :=
  { now := ⟨⟨2000, 1, 1⟩, ⟨0, 0, 0⟩⟩, day := 1, rollHour := 2, isSet := false }

/-- The STORE LOST entry (R151). -/
def FaultEntry.storeLost : FaultEntry :=
  { number := 1, source := none, kind := .storeLost, laterKinds := 0, repeats := 0, state := .cleared,
    openedAt := ⟨Clock.storeLoss.now, 1⟩, clearedAt := some Clock.storeLoss.now, strip := none, session := none }

/-- The fault log after store loss (R154). -/
def FaultLog.storeLoss : FaultLog := ⟨[.storeLost], 2⟩

/-- A printer's configuration after store loss (R110). -/
def PrinterConfig.storeLoss : PrinterConfig := ⟨none, 1, 1⟩

/-- The window printer maps after store loss (R82). -/
def mapsStoreLoss : Vector (Vector MapEntry 8) 6 := Vector.replicate 6 (Vector.replicate 8 ⟨none, none⟩)

/-! ## Volatile state as start-up sets it (R133, R190, R199) -/

/-- A controller as start-up sets it (R133), its lamp off. -/
def Controller.startUp : Controller :=
  { state := .absent, head := .lifted, position := .unknown, held := false, missed := 0, sensors := none,
    usedAdvances := 0, outstanding := none, sending := none, waiting := [], formKind := .newForm, badReads := 0, expansion := [],
    linesSent := 0, settling := false, idleLift := false, resetWait := false, faultOpen := false, linkLost := false,
    load := none, lamp := .off, lampOn := false, receiver := .waitLead }

/-- The pending set that holds START-UP alone: class bit 15 (R203). -/
def startUpSet : BitVec 16 := 0x8000

/-- A line as the first stage of start-up sets it (R190). -/
def LineState.startUp : LineState :=
  { receiver := .waitLead, replies := [], notice := false, sending := none, deferred := none, mask := 0xFFFF,
    pendingSet := startUpSet, outcomes := [], body := [] }

/-- The notice frame that reports START-UP with the store lost (R186, R202). -/
def startUpNoticeStoreLost : List Byte := [0xA6, 0x03, 0x80, 0x00, 0x01, 0x7C]

/-- The TC-46 right after reset: after the start-up that follows store loss, its lines open and each sending its
START-UP notice (R190, R197, R199). The straps read open (log entry 7, DESIGN CHOICE). -/
def State.reset : State :=
  { pending := [], draws := 0, phase := .running, pfail := false, rst := false, signature := .valid,
    startResult := .storeLost, straps := ⟨false, false⟩, setAside := [], clock := .storeLoss, stock := .storeLoss,
    audit := none, discounts := Vector.replicate 16 .fullFare, till := .storeLoss, drawers := Vector.replicate 7 false,
    maps := mapsStoreLoss, lanes := Vector.replicate 4 ⟨[], []⟩, configs := Vector.replicate 4 .storeLoss,
    progress := Vector.replicate 4 none, controllers := Vector.replicate 4 .startUp, log := .storeLoss,
    lines := Vector.replicate 7 { LineState.startUp with sending := some ⟨startUpNoticeStoreLost, none⟩ } }

/-! ## Reading the blocks -/

def State.kind (s : State) (k : Kind) : StockKind := s.stock.kinds[k]
def State.pack (s : State) (slot : Slot) : Option Pack := s.stock.packs[slot]
def State.loaded (s : State) (p : PrinterId) : Option Slot := s.stock.loaded[p]
def State.session (s : State) (n : SessionId) : Session := s.till.sessions[n]
def State.lane (s : State) (p : PrinterId) : Lanes := s.lanes[p]
def State.config (s : State) (p : PrinterId) : PrinterConfig := s.configs[p]
def State.inProgress (s : State) (p : PrinterId) : Option Progress := s.progress[p]
def State.ctl (s : State) (p : PrinterId) : Controller := s.controllers[p]
def State.line (s : State) (l : Line) : LineState := s.lines[l]

/-! ## Writing the blocks

An update of the retained store is bracketed by the signature word, which is VALID again after its last write (R196):
the writers of retained blocks leave the word VALID. The writers of volatile blocks, and of the volatile items of a
job-in-progress record (R80, R107), do not touch it. -/

def State.putStock (s : State) (x : Stock) : State := { s with stock := x, signature := .valid }
def State.putTill (s : State) (x : Till) : State := { s with till := x, signature := .valid }
def State.putLog (s : State) (x : FaultLog) : State := { s with log := x, signature := .valid }
def State.putDiscount (s : State) (i : Fin 16) (x : Discount) : State :=
  { s with discounts := s.discounts.set i x, signature := .valid }
def State.putMap (s : State) (n : Fin 6) (x : Vector MapEntry 8) : State :=
  { s with maps := s.maps.set n x, signature := .valid }
def State.putConfig (s : State) (p : PrinterId) (x : PrinterConfig) : State :=
  { s with configs := s.configs.set p x, signature := .valid }
def State.putProgress (s : State) (p : PrinterId) (x : Option Progress) : State :=
  { s with progress := s.progress.set p x, signature := .valid }
/-- The volatile items of a job-in-progress record are written: its body copy, abort mark or print flags (R80, R107). -/
def State.markProgress (s : State) (p : PrinterId) (x : Option Progress) : State :=
  { s with progress := s.progress.set p x }
def State.putClock (s : State) (x : Clock) : State := { s with clock := x, signature := .valid }

def State.putPack (s : State) (slot : Slot) (x : Option Pack) : State :=
  s.putStock { s.stock with packs := s.stock.packs.set slot x }
def State.putKind (s : State) (k : Kind) (x : StockKind) : State :=
  s.putStock { s.stock with kinds := s.stock.kinds.set k x }
def State.putLoaded (s : State) (p : PrinterId) (x : Option Slot) : State :=
  s.putStock { s.stock with loaded := s.stock.loaded.set p x }
def State.putSession (s : State) (n : SessionId) (x : Session) : State :=
  s.putTill { s.till with sessions := s.till.sessions.set n x }

def State.putAudit (s : State) (x : Option (Slot × Nat)) : State := { s with audit := x }
def State.putDrawer (s : State) (n : SessionId) (x : Bool) : State := { s with drawers := s.drawers.set n x }
def State.putLane (s : State) (p : PrinterId) (x : Lanes) : State := { s with lanes := s.lanes.set p x }
def State.putCtl (s : State) (p : PrinterId) (x : Controller) : State := { s with controllers := s.controllers.set p x }
def State.putLine (s : State) (l : Line) (x : LineState) : State := { s with lines := s.lines.set l x }
def State.putPending (s : State) (x : List Instr) : State := { s with pending := x }
def State.putDraws (s : State) (x : Nat) : State := { s with draws := x }

end Sys2Proof.Machine
end

