-- ==== Sys2Proof/Machine/Bytes.lean ====
section
/-! DEFINITION. How values and frames are laid out in bytes (R177, R201, R202, R204). -/

namespace Sys2Proof.Machine

/-- An unsigned number in `w` bytes, most significant byte first (R201). -/
def be : Nat → Nat → List Byte
  | 0, _ => []
  | w + 1, n => BitVec.ofNat 8 (n / 256 ^ w) :: be w n

/-- A signed number in `w` bytes, two's complement, most significant byte first (R201). -/
def beSigned (w : Nat) (i : Int) : List Byte := be w (i % (256 ^ w : Int)).toNat

/-- The number a run of bytes carries, most significant byte first (R201). -/
def readBe (bytes : List Byte) : Nat := bytes.foldl (fun n b => n * 256 + b.toNat) 0

/-- A number of one byte. -/
def byteOf (n : Nat) : Byte := BitVec.ofNat 8 n

/-- A flag (R201): 0 clear, 1 set. -/
def flagByte (b : Bool) : Byte := if b then 1 else 0

/-- The check byte of a frame: length byte, body bytes and check byte sum to 0 modulo 256 (R177). -/
def checkByte (body : List Byte) : Byte := 0 - (byteOf body.length + byteSum body)

/-- A frame: lead byte, length byte, body, check byte (R177). -/
def frameOf (leadByte : Byte) (body : List Byte) : List Byte :=
  leadByte :: byteOf body.length :: body ++ [checkByte body]

/-- The lead byte of requests, replies, operations and answers (R177, R204). -/
def leadA5 : Byte := 0xA5

/-- The lead byte of notices and SENSOR CHANGE frames (R177, R204). -/
def leadA6 : Byte := 0xA6

/-- A frame's check is good: the sum is 0 modulo 256 (R177, R178). -/
def checkGood (len : Nat) (body : List Byte) (check : Byte) : Bool := byteOf len + byteSum body + check == 0

/-- The code of an operation (R204). -/
def Operation.code : Operation → Byte
  | .engage => 0x01
  | .lift => 0x02
  | .advance => 0x03
  | .readStrip => 0x04
  | .printLine _ => 0x05
  | .eject => 0x06
  | .enquire => 0x07

/-- The frame the part sends for an operation (R104, R204). -/
def Operation.frame : Operation → List Byte
  | .printLine chars => frameOf leadA5 (0x05 :: chars)
  | op => frameOf leadA5 [op.code]

/-- The sensor byte (R204): bit 0 cover closed, bit 1 forms present, bit 2 head good. The other bits are clear
(log entry 21, DEDUCED). -/
def Sensors.toByte (x : Sensors) : Byte :=
  byteOf ((if x.coverClosed then 1 else 0) + (if x.formsPresent then 2 else 0) + (if x.headGood then 4 else 0))

/-- A sensor byte read (R204): a clear bit is the sensor's bad reading. -/
def Sensors.ofByte (b : Byte) : Sensors := ⟨b.getLsbD 0, b.getLsbD 1, b.getLsbD 2⟩

/-! ## Codes of named values (R201) -/

def Tender.code : Tender → Nat
  | .cash => 1
  | .card => 2
  | .warrant => 3

/-- The tender a code names (R84, R201). -/
def Tender.ofCode : Nat → Option Tender
  | 1 => some .cash
  | 2 => some .card
  | 3 => some .warrant
  | _ => none

def SessionState.code : SessionState → Nat
  | .closed => 1
  | .opened => 2
  | .cashup => 3

def DrawerState.code : DrawerState → Nat
  | .normal => 1
  | .high => 2
  | .low => 3

def Reason.code : Reason → Nat
  | .spoiled => 1
  | .unreadable => 2
  | .skipped => 3
  | .voided => 4
  | .incomplete => 5
  | .lost => 6
  | .returned => 7

def FaultKind.code : FaultKind → Nat
  | .coverOpen => 1
  | .jam => 2
  | .noForms => 3
  | .headFault => 4
  | .linkLost => 5
  | .stockGap => 6
  | .stockDisorder => 7
  | .wrongStock => 8
  | .noPack => 9
  | .storeLost => 10

/-- The kind's bit in a set of kinds: its code less one (R201). -/
def FaultKind.bit (k : FaultKind) : BitVec 16 := BitVec.ofNat 16 (2 ^ (k.code - 1))

def EntryState.code : EntryState → Nat
  | .opened => 1
  | .cleared => 2
  | .acknowledged => 3

def JobResult.code : JobResult → Nat
  | .done => 0
  | .failures => 1
  | .aborted => 2
  | .printerReset => 3
  | .power => 4

def CashupClass.code : CashupClass → Nat
  | .balanced => 1
  | .over => 2
  | .short => 3
  | .mismatch => 4

def ReviewState.code : ReviewState → Nat
  | .notNeeded => 0
  | .needed => 1
  | .done => 2

def StartResult.code : StartResult → Nat
  | .storeKept => 0
  | .storeLost => 1

def PrinterState.code : PrinterState → Nat
  | .absent => 1
  | .idle => 2
  | .engaging => 3
  | .feeding => 4
  | .reading => 5
  | .printing => 6
  | .ejecting => 7
  | .fault => 8
  | .held => 9
  | .offline => 10

def Head.code : Head → Nat
  | .lifted => 1
  | .engaged => 2

def FormPosition.code : FormPosition → Nat
  | .none => 1
  | .verified => 2
  | .unknown => 3

def Lamp.code : Lamp → Nat
  | .off => 0
  | .slowFlash => 1
  | .fastFlash => 2
  | .steady => 3

def JobState.code : JobState → Nat
  | .queued => 1
  | .printing => 2
  | .suspended => 3

def PackState.code : PackState → Nat
  | .received => 1
  | .loaded => 2
  | .unloaded => 3
  | .spent => 4
  | .closed => 5

/-- The statuses of section 9.6. -/
inductive Status where
  | ok
  | rejected
  | unknownRequest
  | badParameter
  | busy
  | starting
  | notPermitted
  | noSession
  | sessionOpen
  | inCashup
  | notOwner
  | pendingJobs
  | queueFull
  | noPrinter
  | recordsFull
  | storeFull
  | notFound
  | tooOld
  | inProgress
  | wrongState
  | overlap
  | inUse
  | drawerShort
  | tallyLimit
  | clockNotSet
  | aborted
  | mismatch
  deriving DecidableEq, Repr

/-- The status codes of R203. -/
def Status.code : Status → Byte
  | .ok => 0x00
  | .rejected => 0x01
  | .unknownRequest => 0x02
  | .badParameter => 0x03
  | .busy => 0x04
  | .starting => 0x05
  | .notPermitted => 0x06
  | .noSession => 0x07
  | .sessionOpen => 0x08
  | .inCashup => 0x09
  | .notOwner => 0x0A
  | .pendingJobs => 0x0B
  | .queueFull => 0x0C
  | .noPrinter => 0x0D
  | .recordsFull => 0x0E
  | .storeFull => 0x0F
  | .notFound => 0x10
  | .tooOld => 0x11
  | .inProgress => 0x12
  | .wrongState => 0x13
  | .overlap => 0x14
  | .inUse => 0x15
  | .drawerShort => 0x16
  | .tallyLimit => 0x17
  | .clockNotSet => 0x18
  | .aborted => 0x19
  | .mismatch => 0x1A

/-- A reply body: the request code with its top bit set, the status, the result fields (R180, R202). -/
def replyBody (code : Byte) (status : Status) (fields : List Byte) : List Byte :=
  (code ||| 0x80) :: status.code :: fields

end Sys2Proof.Machine
end

