-- ==== Sys2Proof/Machine/Calendar.lean ====
section
/-! DEFINITION. The calendar clock: lengths of months and years, stamps, the tick of a second and the roll (R191, R192,
R201). -/

namespace Sys2Proof.Machine

/-- February has 29 days in every year divisible by 4 (R191). -/
def isLeap (year : Nat) : Bool := year % 4 == 0

/-- The calendar length of a month (R191). -/
def monthLength (year month : Nat) : Nat :=
  match month with
  | 2 => if isLeap year then 29 else 28
  | 4 | 6 | 9 | 11 => 30
  | _ => 31

/-- A calendar date from 1 January 2000 to 31 December 2099 (R191). -/
def Date.valid (d : Date) : Bool :=
  2000 ≤ d.year && d.year ≤ 2099 && 1 ≤ d.month && d.month ≤ 12 && 1 ≤ d.day && d.day ≤ monthLength d.year d.month

/-- A time of day from 00:00:00 to 23:59:59 (R191). -/
def TimeOfDay.valid (t : TimeOfDay) : Bool := t.hour < 24 && t.minute < 60 && t.second < 60

/-- The next calendar day; after 31 December 2099 comes 1 January 2000 (R191). -/
def Date.next (d : Date) : Date :=
  if d.day < monthLength d.year d.month then { d with day := d.day + 1 }
  else if d.month < 12 then ⟨d.year, d.month + 1, 1⟩
  else if d.year < 2099 then ⟨d.year + 1, 1, 1⟩
  else ⟨2000, 1, 1⟩

/-- One second later; past 23:59:59 the time is 00:00:00 and the date advances (R191). -/
def DateTime.next (x : DateTime) : DateTime :=
  if x.time.second < 59 then { x with time := { x.time with second := x.time.second + 1 } }
  else if x.time.minute < 59 then { x with time := ⟨x.time.hour, x.time.minute + 1, 0⟩ }
  else if x.time.hour < 23 then { x with time := ⟨x.time.hour + 1, 0, 0⟩ }
  else ⟨x.date.next, ⟨0, 0, 0⟩⟩

/-- The days of a year before a month. -/
def daysBeforeMonth (year : Nat) : Nat → Nat
  | 0 => 0
  | 1 => 0
  | m + 1 => daysBeforeMonth year m + monthLength year m

/-- The days from 1 January 2000 to 1 January of a year of the calendar. -/
def daysBeforeYear (year : Nat) : Nat := 365 * (year - 2000) + (year - 2000 + 3) / 4

/-- A stamp: seconds since 1 January 2000, 00:00:00 (R201). -/
def DateTime.toStamp (x : DateTime) : Nat :=
  (((daysBeforeYear x.date.year + daysBeforeMonth x.date.year x.date.month + (x.date.day - 1)) * 24 + x.time.hour) * 60
    + x.time.minute) * 60 + x.time.second

/-- The number of seconds of the calendar, 1 January 2000 to 31 December 2099: 36,525 days (R191). -/
def calendarSeconds : Nat := 36525 * 86400

/-- The month and day of a day of the year counted from 0, looking at the months from `month` on. -/
def monthAndDay (year : Nat) : Nat → Nat → Nat → Nat × Nat
  | 0, month, days => (month, days + 1)
  | fuel + 1, month, days =>
    if days < monthLength year month then (month, days + 1)
    else monthAndDay year fuel (month + 1) (days - monthLength year month)

/-- The date that lies a number of days after 1 January 2000. -/
def dateOfDays (days : Nat) : Date :=
  let cycle := days % 1461
  let inCycle := if cycle < 366 then 0 else 1 + (cycle - 366) / 365
  let year := 2000 + 4 * (days / 1461) + inCycle
  let (month, day) := monthAndDay year 11 1 (days - daysBeforeYear year)
  ⟨year, month, day⟩

/-- The date and time of a stamp; none beyond 31 December 2099, 23:59:59 (R201). -/
def DateTime.ofStamp (n : Nat) : Option DateTime :=
  if n < calendarSeconds then
    some ⟨dateOfDays (n / 86400), ⟨n / 3600 % 24, n / 60 % 60, n % 60⟩⟩
  else none

/-- The bytes of a stamp that may be absent (R201). -/
def stampBytes (x : Option DateTime) : List Byte :=
  match x with
  | some x => be 4 x.toStamp
  | none => be 4 0xFFFFFFFF

/-- The next second passes into the roll hour (R192). -/
def Clock.passes (c : Clock) : Bool := c.now.next.time == ⟨c.rollHour, 0, 0⟩

/-- The booking day after a roll: from 9,999 to 1, else the next (R192). -/
def dayAfter (day : Nat) : Nat := if day = 9999 then 1 else day + 1

/-- A second passes: date and time move on, and the booking day with them when they pass into the roll hour (R191, R192). -/
def Clock.tick (c : Clock) : Clock := { c with now := c.now.next, day := if c.passes then dayAfter c.day else c.day }

/-- The clock's date, time and booking day as a record stamps them (R191). -/
def State.stampNow (s : State) : Stamp := ⟨s.clock.now, s.clock.day⟩

end Sys2Proof.Machine
end

