-- ==== Sys2Proof/Machine/Fares.lean ====
section
/-! DEFINITION. The fare unit's arithmetic: charge, check code and printed amounts (R31-R35, R37-R39, R41). -/

namespace Sys2Proof.Machine

/-- Stage 1, the discount amount: the whole part of b × r / 1,000 (R31). -/
def discountAmount (base : Nat) (e : Discount) : Nat := base * e.rate / 1000

/-- Stage 2, the reduced fare (R31). -/
def reducedFare (base : Nat) (e : Discount) : Nat := base - discountAmount base e

/-- Stage 3, the reduced fare rounded to the nearest multiple of the step, an exact half upward (R32). -/
def roundedFare (base : Nat) (e : Discount) : Nat := e.step * ((2 * reducedFare base e + e.step) / (2 * e.step))

/-- Stage 4, the base cap: one step is taken off a rounded fare above the base (R33). -/
def cappedFare (base : Nat) (e : Discount) : Nat :=
  if roundedFare base e > base then roundedFare base e - e.step else roundedFare base e

/-- Stage 5, the per-passenger charge c (R34). -/
def perPassenger (base : Nat) (e : Discount) : Nat := max (cappedFare base e) (min e.floor base)

/-- Stage 6, the charged total T (R35). -/
def chargedTotal (base : Nat) (e : Discount) (passengers : Nat) : Nat := perPassenger base e * passengers

/-- The check code value C (R38); `kind` and `coupon` are counted from 1. -/
def checkValue (serial total day kind coupon : Nat) : Nat :=
  (serial * 37 + total * 11 + day * 5 + kind * 3 + coupon) % 17576

/-- The capital letter of a value 0-25 (R39). -/
def capital (n : Nat) : Byte := byteOf (0x41 + n)

/-- The three letters of a check code (R39). -/
def checkLetters (c : Nat) : List Byte := [capital (c / 676), capital (c / 26 % 26), capital (c % 26)]

/-- The lowest `w` decimal digits of a number, leading zeros kept. -/
def decimal : Nat → Nat → List Byte
  | 0, _ => []
  | w + 1, n => byteOf (0x30 + n / 10 ^ w % 10) :: decimal w n

/-- A number below 10^10 in decimal digits without leading zeros; 0 is the single digit 0. -/
def plainDecimal (n : Nat) : List Byte :=
  match (decimal 10 n).dropWhile (· == 0x30) with
  | [] => [0x30]
  | digits => digits

/-- The printed form of an amount: units above the last two digits, a point, the two digits (R41). -/
def printedAmount (n : Nat) : List Byte := plainDecimal (n / 100) ++ 0x2E :: decimal 2 (n % 100)

end Sys2Proof.Machine
end

