-- ==== Sys2Proof/Machine/Body.lean ====
section
/-! DEFINITION. The expansion of a ticket body into printed lines (R70-R76). -/

namespace Sys2Proof.Machine

/-- What the fields of one expansion are taken from (R70, R73). -/
structure BodyFacts where
  letter1 : Byte
  letter2 : Byte
  serial : Nat
  total : Nat
  charge : Nat
  now : DateTime
  /-- Booking day number of the one clock reading. -/
  day : Nat
  session : SessionId
  clerk : Nat
  coupon : Nat
  requested : Nat
  passengers : Nat
  /-- The stock kind, counted from 1. -/
  kind : Nat
  issue : Nat
  deriving DecidableEq, Repr

/-- The printed form of the session: W1-W6, or OF (R73, code 86h). -/
def sessionChars (n : SessionId) : List Byte :=
  if n = officeLine then [0x4F, 0x46] else [0x57, byteOf (0x31 + n)]

/-- The characters a field code places, for the codes 80h-8Bh (R73). -/
def fieldChars (f : BodyFacts) (code : Byte) : Option (List Byte) :=
  match code.toNat with
  | 0x80 => some (f.letter1 :: f.letter2 :: 0x20 :: decimal 6 f.serial)
  | 0x81 => some (printedAmount f.total)
  | 0x82 => some (printedAmount f.charge)
  | 0x83 => some (decimal 2 f.now.date.day ++ 0x2E :: decimal 2 f.now.date.month ++ 0x2E :: decimal 2 (f.now.date.year % 100))
  | 0x84 => some (decimal 4 f.day)
  | 0x85 => some (decimal 2 f.now.time.hour ++ 0x3A :: decimal 2 f.now.time.minute)
  | 0x86 => some (sessionChars f.session)
  | 0x87 => some (decimal 4 f.clerk)
  | 0x88 => some (decimal 1 f.coupon ++ 0x2F :: decimal 1 f.requested)
  | 0x89 => some (decimal 1 f.passengers)
  | 0x8A => some (checkLetters (checkValue f.serial f.total f.day f.kind f.coupon))
  | 0x8B => some (decimal 5 f.issue)
  | _ => none

/-- A printable character, 20h-7Eh (R72). -/
def printable (b : Byte) : Bool := 0x20 ≤ b.toNat && b.toNat ≤ 0x7E

/-- The characters a byte of a line places, and whether the byte is substituted by a question mark (R72). -/
def byteChars (f : BodyFacts) (b : Byte) : List Byte × Bool :=
  if printable b then ([b], false)
  else match fieldChars f b with
    | some chars => (chars, false)
    | none => ([0x3F], true)

/-- A printed line with the flags its expansion sets. -/
structure Expanded where
  chars : List Byte
  substituted : Bool
  truncated : Bool
  deriving DecidableEq, Repr

/-- Expands the bytes of a line behind the characters already placed (R72). A byte that would place a 41st character
ends the line: what fits of its characters is placed, the rest of the line is discarded (R74). -/
def expandLine (f : BodyFacts) : List Byte → List Byte → Bool → Expanded
  | placed, [], sub => ⟨placed, sub, false⟩
  | placed, b :: rest, sub =>
    let (chars, isSub) := byteChars f b
    if placed.length + chars.length ≤ 40 then expandLine f (placed ++ chars) rest (sub || isSub)
    else ⟨placed ++ chars.take (40 - placed.length), sub, true⟩

/-- Divides a body into its lines: each 0Ah ends a line, and bytes after the last 0Ah form a final line (R71). The
first argument is the line gathered so far. -/
def bodyLines : List Byte → List Byte → List (List Byte)
  | [], [] => []
  | got, [] => [got]
  | got, b :: rest => if b = 0x0A then got :: bodyLines [] rest else bodyLines (got ++ [b]) rest

/-- The expansion of a body: at most 12 printed lines (R70, R75), with the flags it sets (R72, R74, R75). -/
def expandBody (f : BodyFacts) (body : List Byte) : List (List Byte) × Bool × Bool :=
  let all := bodyLines [] body
  let lines := (all.take 12).map fun line => expandLine f [] line false
  (lines.map (·.chars), lines.any (·.substituted), lines.any (·.truncated) || decide (12 < all.length))

end Sys2Proof.Machine
end

