-- ==== Sys2Proof/Machine/Timing.lean ====
section
/-! DEFINITION. The durations of the part's timers, in milliseconds, and the rate of its request lines (R63, R104, R107,
R110, R122, R130, R132, R176, R178, R205). No command carries a time (log entry 8): these are the figures the outside
world keeps when it sends the expiry of a timer. -/

namespace Sys2Proof.Machine

/-- The rate of the request lines in baud, by the straps as read at start-up (R176). -/
def lineRate (x : Straps) : Nat :=
  match x.aClosed, x.bClosed with
  | false, false => 9600
  | false, true => 19200
  | true, false => 38400
  | true, true => 57600

/-- The rate of the printer lines in baud, whatever the straps show (R176). -/
def printerLineRate : Nat := 19200

/-- The gap timer of a receiver (R178, R205). -/
def gapTime : Nat := 20

/-- The deadline of an operation; that of ADVANCE is given by the feed class (R104). -/
def Operation.deadlineTime (op : Operation) (feedClass : Nat) : Nat :=
  match op with
  | .engage => 300
  | .lift => 250
  | .advance => 400 * (feedClass + 1)
  | .readStrip => 250
  | .printLine _ => 250
  | .eject => 800
  | .enquire => 250

/-- The settle time after ENGAGE, by the settle class (R110). -/
def settleTime (settleClass : Nat) : Nat :=
  match settleClass with
  | 0 => 0
  | 1 => 50
  | 2 => 100
  | _ => 200

/-- The enquiry interval of a printer state, if it has one (R107, R123). -/
def PrinterState.enquiryInterval : PrinterState → Option Nat
  | .absent => some 2000
  | .idle => some 5000
  | .fault => some 2000
  | .held => some 5000
  | .engaging | .feeding | .reading | .printing | .ejecting | .offline => none

/-- The idle-lift timer (R122). -/
def idleLiftTime : Nat := 15000

/-- The wait of PRINTER RESET (R130). -/
def resetWaitTime : Nat := 2000

/-- A drawer-release pulse (R63). -/
def drawerPulseTime : Nat := 150

/-- The period of a flashing indication, lit for its first half (R132). -/
def Lamp.flashPeriod : Lamp → Option Nat
  | .slowFlash => some 1000
  | .fastFlash => some 500
  | .off | .steady => none

end Sys2Proof.Machine
end

