-- ==== Sys2Proof/Machine/Flags.lean ====
section
/-! DEFINITION. Conditions computed from the state: notice classes and who receives them, drawer states, service
groups, lamp indications, working and waiting printers (R62, R107, R132, R184, R185, section 5.4). -/

namespace Sys2Proof.Machine

/-- The sixteen notice classes (R184), in the order of their bits (R203). -/
inductive NoticeClass where
  | issueDone
  | issueFailed
  | printerChange
  | faultOpened
  | faultCleared
  | stockLow
  | noPack
  | drawerHigh
  | drawerLow
  | recordsLow
  | cashupStored
  | dayRoll
  | jobsDiverted
  | loadDone
  | clockSet
  | startUp
  deriving DecidableEq, Repr

/-- The class's bit number (R203). -/
def NoticeClass.bit : NoticeClass → Nat
  | .issueDone => 0
  | .issueFailed => 1
  | .printerChange => 2
  | .faultOpened => 3
  | .faultCleared => 4
  | .stockLow => 5
  | .noPack => 6
  | .drawerHigh => 7
  | .drawerLow => 8
  | .recordsLow => 9
  | .cashupStored => 10
  | .dayRoll => 11
  | .jobsDiverted => 12
  | .loadDone => 13
  | .clockSet => 14
  | .startUp => 15

/-- The set that holds one class alone. -/
def NoticeClass.set (c : NoticeClass) : BitVec 16 := BitVec.ofNat 16 (2 ^ c.bit)

/-- The subject a class is raised with (section 9.7). -/
inductive Subject where
  | nothing
  | session (n : SessionId)
  | printer (p : PrinterId)
  deriving DecidableEq, Repr

/-- A printer is in a window's map when some entry names it as primary or alternate (R184). -/
def State.inMapOf (s : State) (l : Line) (p : PrinterId) : Bool :=
  if h : l.val < 6 then s.maps[l.val].toList.any fun e => e.primary == some p || e.alternate == some p else false

/-- Whether a window line receives a class (R184). -/
def State.windowReceives (s : State) (l : Line) (c : NoticeClass) (sub : Subject) : Bool :=
  match c with
  | .recordsLow | .loadDone => false
  | .dayRoll | .clockSet | .startUp => true
  | _ =>
    match sub with
    | .session n => l == n
    | .printer p => s.inMapOf l p
    | .nothing => false

/-- Whether the office line receives a class: all but the ISSUE DONE of another session's job (R184). -/
def officeReceives (c : NoticeClass) (sub : Subject) : Bool :=
  match c with
  | .issueDone => sub == .session officeLine
  | _ => true

/-- Whether a line receives a class raised with a subject (R184). -/
def State.receives (s : State) (l : Line) (c : NoticeClass) (sub : Subject) : Bool :=
  if l = officeLine then officeReceives c sub else s.windowReceives l c sub

/-- The drawer state of an estimate (R62). -/
def drawerStateOf (high low estimate : Nat) : DrawerState :=
  if estimate > high then .high else if estimate < low then .low else .normal

/-- The five service groups (R185). -/
inductive ServiceGroup where
  | inService
  | absent
  | fault
  | held
  | offline
  deriving DecidableEq, Repr

def PrinterState.group : PrinterState → ServiceGroup
  | .absent => .absent
  | .fault => .fault
  | .held => .held
  | .offline => .offline
  | _ => .inService

/-- The five states ENGAGING to EJECTING (R107). -/
def PrinterState.busy : PrinterState → Bool
  | .engaging | .feeding | .reading | .printing | .ejecting => true
  | _ => false

/-- The states that have an enquiry interval (R107). -/
def PrinterState.enquires (st : PrinterState) : Bool := st.enquiryInterval.isSome

/-- A printer is mid-form: in one of the five states for its job in progress (R107). -/
def State.midForm (s : State) (p : PrinterId) : Bool :=
  (s.ctl p).state.busy && match s.inProgress p with
    | some g => g.job.state == .printing
    | none => false

/-- The serial one past a pack's last (R3). -/
def Pack.endSerial (k : Pack) : Nat := k.first + k.count

/-- The last serial of a pack (R3). -/
def Pack.last (k : Pack) : Nat := k.first + k.count - 1

/-- The remaining count of a pack (R3). -/
def Pack.remaining (k : Pack) : Nat := k.endSerial - k.cursor

/-- The pack loaded in a printer, with its slot (R7). -/
def State.loadedPack (s : State) (p : PrinterId) : Option (Slot × Pack) :=
  match s.loaded p with
  | none => none
  | some slot => (s.pack slot).map fun k => (slot, k)

/-- The printer's loaded pack is LOADED: usable (R6). -/
def State.usable (s : State) (p : PrinterId) : Bool :=
  match s.loadedPack p with
  | some (_, k) => k.state == .loaded
  | none => false

/-- The lamp indication (R132). -/
def lampOf (state : PrinterState) (low : Bool) : Lamp :=
  match state with
  | .held | .offline => .steady
  | .fault => .fastFlash
  | _ => if low then .slowFlash else .off

/-- The indication a printer's lamp shows now (R132). -/
def State.lampNow (s : State) (p : PrinterId) : Lamp :=
  lampOf (s.ctl p).state (match s.loadedPack p with
    | some (_, k) => k.lowFlag
    | none => false)

/-- Working for a kind: configured for it, and not ABSENT, OFFLINE, FAULT or HELD (section 5.4). -/
def State.working (s : State) (p : PrinterId) (k : Kind) : Bool :=
  (s.config p).kind == some k && (s.ctl p).state.group == .inService

/-- Waiting for a kind: configured for it, and FAULT or HELD (section 5.4). -/
def State.waitingFor (s : State) (p : PrinterId) (k : Kind) : Bool :=
  (s.config p).kind == some k && ((s.ctl p).state == .fault || (s.ctl p).state == .held)

/-- A window lane has room for 8 jobs (section 5.4, R89). -/
def State.windowRoom (s : State) (p : PrinterId) : Bool := (s.lane p).window.length < 8

/-- An office lane has room for 2 jobs (section 5.4, R89). -/
def State.officeRoom (s : State) (p : PrinterId) : Bool := (s.lane p).office.length < 2

/-- A sensor set is all good (R106). -/
def Sensors.allGood (x : Sensors) : Bool := x.coverClosed && x.formsPresent && x.headGood

/-- A sensor was good in the last set kept, or no set is kept (R137). -/
def wasGood (kept : Option Sensors) (sensor : Sensors → Bool) : Bool :=
  match kept with
  | some x => sensor x
  | none => true

/-- The arisings a sensor set gives: each sensor bad in it and good in the last set kept, in the order COVER OPEN, HEAD
FAULT, NO FORMS (R137). -/
def arisings (kept : Option Sensors) (x : Sensors) : List FaultKind :=
  (if !x.coverClosed && wasGood kept (·.coverClosed) then [.coverOpen] else []) ++
  (if !x.headGood && wasGood kept (·.headGood) then [.headFault] else []) ++
  (if !x.formsPresent && wasGood kept (·.formsPresent) then [.noForms] else [])

/-- The fault kind of a refusal (R134). -/
def RefusalKind.fault : RefusalKind → FaultKind
  | .jam => .jam
  | .noForms => .noForms
  | .coverOpen => .coverOpen
  | .headFault => .headFault

/-- The held causes (R126). -/
def FaultKind.isHeldCause : FaultKind → Bool
  | .stockGap | .stockDisorder | .wrongStock | .noPack => true
  | _ => false

end Sys2Proof.Machine
end

