-- ==== Sys2Proof/Machine/Ops.lean ====
section
/-! DEFINITION. The shared operations of the blocks: notices and transmitters, taking a request, exception records and
the reservation, cursor movement, tallies and the drawer estimate, fault entries, and the ends of a job. -/

namespace Sys2Proof.Machine

/-! ## Notices (R184-R186) -/

/-- A line receives a class: a class not yet pending joins the set and, if enabled, adds a waiting notice (R186). -/
def LineState.receive (ln : LineState) (c : NoticeClass) : LineState :=
  if ln.pendingSet.getLsbD c.bit then ln
  else { ln with pendingSet := ln.pendingSet ||| c.set, notice := ln.notice || ln.mask.getLsbD c.bit }

/-- A block raises a class: every line that R184 names receives it. Until the lines open nothing is raised (R199). -/
def State.raise (s : State) (c : NoticeClass) (sub : Subject) : State :=
  if s.phase = .running then
    { s with lines := Vector.ofFn fun l => if s.receives l c sub then (s.line l).receive c else s.line l }
  else s

/-! ## The transmitters (R179, R186) -/

/-- The notice frame of a line: its pending set, high byte first, and the start-up result (R186, R202). -/
def noticeFrame (pendingSet : BitVec 16) (r : StartResult) : List Byte :=
  frameOf leadA6 (be 2 pendingSet.toNat ++ [byteOf r.code])

/-- An idle transmitter takes the oldest waiting reply, else the waiting notice; a waiting notice that finds the pending
set empty is withdrawn (R179). -/
def LineState.pump (ln : LineState) (r : StartResult) : LineState :=
  match ln.sending with
  | some _ => ln
  | none =>
    match ln.replies with
    | first :: rest =>
      { ln with replies := rest, sending := some ⟨frameOf leadA5 first.body, first.second.map (frameOf leadA5)⟩ }
    | [] =>
      if ln.notice then
        if ln.pendingSet = 0 then { ln with notice := false }
        else { ln with notice := false, sending := some ⟨noticeFrame ln.pendingSet r, none⟩ }
      else ln

/-- The transmitter of one line takes what waits for it. -/
def State.pump (s : State) (l : Line) : State := s.putLine l ((s.line l).pump s.startResult)

/-- The transmitters of all lines take what waits for them. -/
def State.pumpAll (s : State) : State :=
  { s with lines := Vector.ofFn fun l => (s.line l).pump s.startResult }

/-! ## Requests and their replies (R179-R183) -/

/-- The request codes of R203, in their order. -/
def requestCodes : List Nat :=
  [0x01, 0x02, 0x03, 0x04, 0x05, 0x06,
   0x10, 0x11, 0x12, 0x13, 0x14, 0x15, 0x16,
   0x20, 0x21, 0x22, 0x23, 0x24, 0x25,
   0x30, 0x31, 0x32, 0x33, 0x34, 0x35, 0x36, 0x37, 0x38, 0x39,
   0x40, 0x41, 0x42, 0x43, 0x44, 0x45, 0x46, 0x47,
   0x50, 0x51, 0x52, 0x53, 0x54, 0x55, 0x56, 0x57, 0x58, 0x59]

/-- The codes of the office requests (R181, R203). -/
def officeCodes : List Nat :=
  [0x06, 0x12, 0x13, 0x23, 0x24, 0x25,
   0x30, 0x31, 0x32, 0x33, 0x34, 0x35, 0x36, 0x37, 0x38, 0x39,
   0x40, 0x41, 0x42, 0x43, 0x44, 0x47,
   0x56, 0x57, 0x58, 0x59]

/-- The request code of ABORT (R203). -/
def abortCode : Byte := 0x04

/-- The tests 1 to 4 of R180 on a request of a line, `none` when all are passed. -/
def State.lineTest (s : State) (l : Line) (code : Byte) : Option Status :=
  if s.phase ≠ .running then some .starting
  else if (s.line l).deferred.isSome ∧ code ≠ abortCode then some .busy
  else if code.toNat ∉ requestCodes then some .unknownRequest
  else if l ≠ officeLine ∧ code.toNat ∈ officeCodes then some .notPermitted
  else none

/-- A block's answer to a request: the status, the result fields, and the result fields of a second frame (R203). -/
structure Answered where
  status : Status
  fields : List Byte
  second : Option (List Byte)
  deriving DecidableEq, Repr

/-- What serving a request leaves: the state, and the answer; none for an accepted deferred request (R182). -/
structure Served where
  state : State
  answer : Option Answered

/-- The owner refuses the request: nothing changes and the reply carries the status alone (R180). -/
def refuse (s : State) (status : Status) : Served := ⟨s, some ⟨status, [], none⟩⟩

/-- The request is carried out and answered OK with its result fields. -/
def accept (s : State) (fields : List Byte) : Served := ⟨s, some ⟨.ok, fields, none⟩⟩

/-- The request has taken effect: it is answered OK, or it became the line's deferred request. -/
def Served.tookEffect (r : Served) : Bool :=
  match r.answer with
  | none => true
  | some a => a.status == .ok

/-- The reply an answer makes, for a request of the given code (R180, R203). -/
def Answered.reply (a : Answered) (code : Byte) : Reply :=
  ⟨replyBody code a.status a.fields, a.second.map (replyBody code a.status)⟩

/-- A reply joins a line's outgoing queue (R179). -/
def State.queueReply (s : State) (l : Line) (r : Reply) : State :=
  s.putLine l { s.line l with replies := (s.line l).replies ++ [r] }

/-- The line's receiver is in WAIT LEAD: its frame is complete or discarded (R178). -/
def State.frameEnded (s : State) (l : Line) : State := s.putLine l { s.line l with receiver := .waitLead }

/-- A request frame completes while 4 or more replies wait: it is discarded unexamined (R179). -/
def State.replyFull (s : State) (l : Line) : Bool := 4 ≤ (s.line l).replies.length

/-- A request is taken on a line (R179, R180): unless the part is halted (R195) or the queue is full, the line's own
tests come first, then `serve`, the owner's checks and effect, and the reply. `close` is what follows an event that
took effect: the arbiters, the lamps and the transmitters. The reply is queued before a transmitter looks, so on an idle one
it goes before a notice raised in the same event (DESIGN CHOICE, log entry 36). -/
def State.request (s : State) (l : Line) (code : Byte) (close : State → State) (serve : State → Served) : State :=
  if s.phase = .halted then s
  else
    let s := s.frameEnded l
    if s.replyFull l then s
    else match s.lineTest l code with
      | some status => (s.queueReply l ⟨replyBody code status [], none⟩).pump l
      | none =>
        let r := serve s
        let s' := match r.answer with
          | none => r.state
          | some a => r.state.queueReply l (a.reply code)
        if r.tookEffect then close s' else s'.pump l

/-- The request code of a deferred request (R203). -/
def Deferred.code : Deferred → Byte
  | .loadPack _ => 0x32
  | .printerReset _ => 0x44

/-- The office line's deferred request ends: its reply joins the queue and the line holds none (R182). -/
def State.endDeferred (s : State) (status : Status) (fields : List Byte) : State :=
  match (s.line officeLine).deferred with
  | none => s
  | some d =>
    (s.putLine officeLine { s.line officeLine with deferred := none }).queueReply officeLine
      ⟨replyBody d.code status fields, none⟩

/-- An accepted deferred request becomes the office line's (R182). -/
def State.holdDeferred (s : State) (d : Deferred) : State :=
  s.putLine officeLine { s.line officeLine with deferred := some d }

/-! ## Exception records and reservations (R18-R22) -/

/-- The capacity of the exception table (R18). -/
def exceptionCapacity : Nat := 256

/-- The records offered to new claims: the free count less the reservation count (R20). -/
def State.unreserved (s : State) : Nat := exceptionCapacity - (s.stock.exceptions.length + s.stock.reservation)

/-- Evaluates the records-low condition; a change from false to true raises RECORDS LOW (R22). -/
def State.noteRecords (s : State) : State :=
  let low := decide (s.unreserved < 32)
  let s' := s.putStock { s.stock with recordsLow := low }
  if low && !s.stock.recordsLow then s'.raise .recordsLow .nothing else s'

/-- A new exception record, unread, with the clock's stamp (R18, R19). -/
def State.newRecord (s : State) (slot : Slot) (first span : Nat) (reason : Reason) (session : Option SessionId)
    (clerk : Option Nat) : ExceptionRecord :=
  { slot := slot, first := first, span := span, reason := reason, session := session, clerk := clerk,
    made := s.stampNow, isRead := false }

/-- A record drawn from the free count is placed after every record of the table (R19). -/
def State.addRecord (s : State) (r : ExceptionRecord) : State :=
  (s.putStock { s.stock with exceptions := s.stock.exceptions ++ [r] }).noteRecords

/-- Changes the job in progress on a printer. -/
def State.mapJob (s : State) (p : PrinterId) (f : Job → Job) : State :=
  match s.inProgress p with
  | none => s
  | some g => s.putProgress p (some { g with job := f g.job })

/-- Sets or clears the form-in-hand mark (R115). -/
def State.markForm (s : State) (p : PrinterId) (inHand : Bool) : State :=
  match s.inProgress p with
  | none => s
  | some g => s.putProgress p (some { g with formInHand := inHand })

/-- A record made by the job in progress: it carries the job's session and that session's clerk, and uses one record of
the job's reservation (R19, R21). -/
def State.addJobRecord (s : State) (p : PrinterId) (slot : Slot) (first span : Nat) (reason : Reason) : State :=
  match s.inProgress p with
  | none => s
  | some g =>
    let r := s.newRecord slot first span reason (some g.job.session) (s.session g.job.session).clerk
    ((s.putStock { s.stock with exceptions := s.stock.exceptions ++ [r], reservation := s.stock.reservation - 1 })
      |>.mapJob p fun j => { j with reservation := j.reservation - 1 }).noteRecords

/-! ## Cursor movement (R11-R13) -/

/-- Moves the cursor of a LOADED pack: a movement that takes the remaining count from above the kind's threshold to at or
below it sets the stock-low flag and raises STOCK LOW (R13), and a cursor at the end makes the pack SPENT (R12). -/
def State.moveCursor (s : State) (slot : Slot) (serial : Nat) : State :=
  match s.pack slot with
  | none => s
  | some k =>
    if k.state = .loaded then
      let threshold := (s.kind k.kind).threshold
      let warns := decide (threshold < k.remaining) && decide (k.endSerial - serial ≤ threshold) && !k.lowFlag
      let s' := s.putPack slot (some { k with
        cursor := serial, lowFlag := k.lowFlag || warns, state := if serial = k.endSerial then .spent else .loaded })
      match warns, k.location with
      | true, some p => s'.raise .stockLow (.printer p)
      | _, _ => s'
    else s

/-! ## Sessions: tallies, counters, drawer (R48-R52, R60-R63) -/

def Session.tally (x : Session) : Tender → Tally
  | .cash => x.cash
  | .card => x.card
  | .warrant => x.warrant

def Session.setTally (x : Session) (t : Tender) (y : Tally) : Session :=
  match t with
  | .cash => { x with cash := y }
  | .card => { x with card := y }
  | .warrant => { x with warrant := y }

/-- The jobs a session has outstanding: its pending counts summed over the tenders (R49, R156). -/
def Session.outstanding (x : Session) : Nat := x.cash.pendingCount + x.card.pendingCount + x.warrant.pendingCount

/-- A per-kind counter rises; at 9,999,999 it stays (R52). -/
def bump (x n : Nat) : Nat := min (x + n) 9999999

/-- Changes the four counters of one kind of a session (R52). -/
def State.countKind (s : State) (n : SessionId) (k : Kind) (f : KindCounters → KindCounters) : State :=
  let x := s.session n
  s.putSession n { x with counters := x.counters.set k (f x.counters[k]) }

/-- An estimate update: the estimate is set and the drawer state recomputed; a change into HIGH or LOW raises DRAWER HIGH
or DRAWER LOW (R60, R62). `before` is the drawer state before evaluation. -/
def State.updateEstimate (s : State) (n : SessionId) (estimate : Nat) (before : DrawerState) : State :=
  let after := drawerStateOf s.till.high s.till.low estimate
  let s' := s.putSession n { s.session n with estimate := estimate, drawer := after }
  if after = before then s'
  else match after with
    | .high => s'.raise .drawerHigh (.session n)
    | .low => s'.raise .drawerLow (.session n)
    | .normal => s'

/-- A drawer-release pulse begins, or begins again (R63). -/
def State.pulse (s : State) (n : SessionId) : State := s.putDrawer n true

/-- A job's charge joins pending (R49). -/
def Tally.addPending (t : Tally) (total : Nat) : Tally :=
  { t with pendingTotal := t.pendingTotal + total, pendingCount := t.pendingCount + 1 }

/-- A job's charge leaves pending (R50). -/
def Tally.releasePending (t : Tally) (total : Nat) : Tally :=
  { t with pendingTotal := t.pendingTotal - total, pendingCount := t.pendingCount - 1 }

/-- A charge is settled: it moves from pending to settled (R51). -/
def Tally.settle (t : Tally) (total : Nat) : Tally :=
  { t.releasePending total with settledTotal := t.settledTotal + total, settledCount := t.settledCount + 1 }

/-- A settled charge is voided (R57). -/
def Tally.void (t : Tally) (total : Nat) : Tally :=
  { t with voidedTotal := t.voidedTotal + total, voidedCount := t.voidedCount + 1 }

/-- A job's charge is released from pending (R50). -/
def State.releaseCharge (s : State) (j : Job) : State :=
  let x := s.session j.session
  s.putSession j.session (x.setTally j.tender ((x.tally j.tender).releasePending j.total))

/-! ## Failed forms and the ends of a job (R94-R98, R100) -/

/-- A form of the job in progress fails: its record is written from the reservation, the cursor moves, the job's failure
count and its session's failed forms rise by one (R11, R19, R52, R80). -/
def State.failForm (s : State) (p : PrinterId) (slot : Slot) (first span : Nat) (reason : Reason) : State :=
  match s.inProgress p with
  | none => s
  | some g =>
    (((s.addJobRecord p slot first span reason).moveCursor slot (first + span)).countKind g.job.session g.job.kind
      fun c => { c with failed := bump c.failed 1 }).mapJob p fun j => { j with failures := j.failures + 1 }

/-- One INCOMPLETE record for each printed coupon, in coupon order, each counted in the session (R19, R52, R95). -/
def State.undoCoupons (s : State) (p : PrinterId) (n : SessionId) (k : Kind) : List Coupon → State
  | [] => s
  | c :: rest =>
    State.undoCoupons ((s.addJobRecord p c.slot c.serial 1 .incomplete).countKind n k
      fun x => { x with incomplete := bump x.incomplete 1 }) p n k rest

/-- A form in hand is written LOST at the cursor of the loaded pack, and the cursor moves by one (R11, R115). -/
def State.loseForm (s : State) (p : PrinterId) : State :=
  match s.inProgress p, s.loadedPack p with
  | some g, some (slot, k) =>
    if g.formInHand then
      ((s.addJobRecord p slot k.cursor 1 .lost).moveCursor slot (k.cursor + 1)).countKind g.job.session g.job.kind
        fun c => { c with failed := bump c.failed 1 }
    else s
  | _, _ => s

/-- The job leaves the printer's job-in-progress record and its remaining reservation is released (R21). -/
def State.dropJob (s : State) (p : PrinterId) : State :=
  match s.inProgress p with
  | none => s
  | some g =>
    ((s.putProgress p none).putStock { s.stock with reservation := s.stock.reservation - g.job.reservation }).noteRecords

/-- The outcome a job leaves (R96). -/
def Job.outcome (j : Job) (r : JobResult) : Outcome :=
  { session := j.session, issue := j.issue, result := r, coupons := j.printed, substituted := j.substituted,
    truncated := j.truncated }

/-- An outcome joins the newest end of a list of at most 8, displacing the oldest of a full one (R188). -/
def joinOutcome (list : List Outcome) (o : Outcome) : List Outcome :=
  (list ++ [o]).drop (list.length + 1 - 8)

/-- The outcome is handed to the session's window line; the office line keeps no outcome list (R96, R188). -/
def State.handOver (s : State) (o : Outcome) : State :=
  if o.session = officeLine then s
  else s.putLine o.session { s.line o.session with outcomes := joinOutcome (s.line o.session).outcomes o }

/-- The job in progress on a printer ends without settling (R95, R98, R100): INCOMPLETE records, for PRINTER RESET the
LOST record of a form in hand, the charge and the reservation released, the outcome handed over, ISSUE FAILED raised. -/
def State.endJob (s : State) (p : PrinterId) (r : JobResult) : State :=
  match s.inProgress p with
  | none => s
  | some g =>
    let s1 := s.undoCoupons p g.job.session g.job.kind g.job.printed
    let s2 := if r = .printerReset then s1.loseForm p else s1
    (((s2.releaseCharge g.job).dropJob p).handOver (g.job.outcome r)).raise .issueFailed (.session g.job.session)

/-- The journal entry of a job that settles (R53). -/
def State.journalEntry (s : State) (j : Job) : JournalEntry :=
  { issue := j.issue, kind := j.kind, tender := j.tender, total := j.total, passengers := j.passengers, index := j.index,
    coupons := j.printed, reference := j.reference, settled := s.stampNow, isVoided := false }

/-- The settle in the till (R51, R54): pending to settled, the journal entry, and for CASH the estimate and the pulse. -/
def State.settleTill (s : State) (j : Job) : State :=
  let x := s.session j.session
  let x' := { x.setTally j.tender ((x.tally j.tender).settle j.total) with
    journal := (s.journalEntry j :: x.journal).take 32 }
  let s' := s.putSession j.session x'
  if j.tender = .cash then (s'.updateEstimate j.session (x.estimate + j.total) x.drawer).pulse j.session else s'

/-- The issue in progress on a printer settles (R94). -/
def State.settleJob (s : State) (p : PrinterId) : State :=
  match s.inProgress p with
  | none => s
  | some g =>
    (((s.settleTill g.job).dropJob p).handOver (g.job.outcome .done)).raise .issueDone (.session g.job.session)

/-! ## Fault entries (R136-R150) -/

/-- An OPEN entry of a printer. -/
def FaultEntry.isOpenOf (e : FaultEntry) (p : PrinterId) : Bool := e.source == some p && e.state == .opened

/-- The OPEN entry of a printer (R143). -/
def State.openEntry (s : State) (p : PrinterId) : Option FaultEntry := s.log.entries.find? (·.isOpenOf p)

/-- The entry number after `n`: from 65,535 to 1, passing over numbers held by an entry (R136). -/
def nextNumber (held : List Nat) : Nat → Nat → Nat
  | 0, n => n
  | fuel + 1, n =>
    let m := if n = 65535 then 1 else n + 1
    if m ∈ held then nextNumber held fuel m else m

/-- Removes the first element that satisfies a test. -/
def dropFirst {α : Type} (test : α → Bool) : List α → List α
  | [] => []
  | x :: xs => if test x then xs else x :: dropFirst test xs

/-- Changes the first element that satisfies a test. -/
def changeFirst {α : Type} (test : α → Bool) (f : α → α) : List α → List α
  | [] => []
  | x :: xs => if test x then f x :: xs else x :: changeFirst test f xs

/-- Makes room in a full log: the oldest ACKNOWLEDGED entry is removed, else the oldest CLEARED one (R150). -/
def makeRoom (entries : List FaultEntry) : List FaultEntry :=
  if entries.length < 32 then entries
  else if entries.any (·.state == .acknowledged) then dropFirst (·.state == .acknowledged) entries
  else dropFirst (·.state == .cleared) entries

/-- Opens an entry for a fault on a printer (R138). -/
def State.openFault (s : State) (p : PrinterId) (kind : FaultKind) (strip : Option StripRead) : State :=
  let e : FaultEntry :=
    { number := s.log.next, source := some p, kind := kind, laterKinds := 0, repeats := 0, state := .opened,
      openedAt := s.stampNow, clearedAt := none, strip := strip, session := (s.inProgress p).map (·.job.session) }
  let entries := makeRoom s.log.entries ++ [e]
  (s.putLog ⟨entries, nextNumber (entries.map (·.number)) 33 s.log.next⟩).raise
    (if kind = .noPack then .noPack else .faultOpened) (.printer p)

/-- An arising joins an OPEN entry: a repeat of its own kind, or a later kind (R139). -/
def FaultEntry.joinedBy (e : FaultEntry) (kind : FaultKind) : FaultEntry :=
  if kind = e.kind then { e with repeats := min (e.repeats + 1) 255 }
  else { e with laterKinds := e.laterKinds ||| kind.bit }

/-- A kind that is new to an entry: FAULT OPENED is raised for it (R139). -/
def FaultEntry.newTo (e : FaultEntry) (kind : FaultKind) : Bool :=
  kind != e.kind && !e.laterKinds.getLsbD (kind.code - 1)

/-- The log's entries are replaced. Entries left as they are (R139, R147) are no update of the retained store (log entry
19). -/
def State.setEntries (s : State) (entries : List FaultEntry) : State :=
  if entries = s.log.entries then s else s.putLog { s.log with entries := entries }

/-- Changes the OPEN entry of a printer. -/
def State.mapEntry (s : State) (p : PrinterId) (f : FaultEntry → FaultEntry) : State :=
  s.setEntries (s.log.entries.map fun e => if e.isOpenOf p then f e else e)

/-- A fault that arises on a printer is entered in the log (R137-R139). -/
def State.enterFault (s : State) (p : PrinterId) (kind : FaultKind) (strip : Option StripRead) : State :=
  match s.openEntry p with
  | none => s.openFault p kind strip
  | some e =>
    let s' := s.mapEntry p (·.joinedBy kind)
    if e.newTo kind then s'.raise .faultOpened (.printer p) else s'

/-- The OPEN entry of a printer is cleared, and FAULT CLEARED raised (R142). -/
def State.clearEntry (s : State) (p : PrinterId) : State :=
  match s.openEntry p with
  | none => s
  | some _ =>
    (s.mapEntry p fun e => { e with state := .cleared, clearedAt := some s.clock.now }).raise .faultCleared (.printer p)

end Sys2Proof.Machine
end

