-- ==== Sys2Proof/Machine/Controller.lean ====
section
/-! DEFINITION. The printer controllers and their arbiters: printer states, sending operations, the coupon loop, loads,
physical faults and holds, sensor sets, answers and deadlines, admission, and what follows an event (R90-R92, R104-R132).

Where a frame is an answer, its parts are taken in the order result, sensor set, next operation (R106, log entry 10). -/

namespace Sys2Proof.Machine

/-! ## States and operations -/

/-- Changes one controller. -/
def State.mapCtl (s : State) (p : PrinterId) (f : Controller → Controller) : State := s.putCtl p (f (s.ctl p))

/-- An idle LIFT that waits to be sent (R104). -/
def Waiting.isIdleLift : Waiting → Bool
  | .op _ .idleLift => true
  | _ => false

/-- The controller as it enters a state: HELD sets the held flag (R109), becoming IDLE with the head ENGAGED starts the
idle-lift timer, and leaving IDLE stops it and withdraws an idle LIFT not yet sent (R104, R122). -/
def Controller.enter (c : Controller) (st : PrinterState) : Controller :=
  { c with
    state := st
    held := c.held || st == .held
    idleLift := st == .idle && (if c.state = .idle then c.idleLift else c.head == .engaged)
    waiting := if st = .idle then c.waiting else c.waiting.filter (!·.isIdleLift) }

/-- A printer enters a state; a move to another service group raises PRINTER CHANGE (R185). -/
def State.setPrinterState (s : State) (p : PrinterId) (st : PrinterState) : State :=
  let s' := s.mapCtl p (·.enter st)
  if st.group = (s.ctl p).state.group then s' else s'.raise .printerChange (.printer p)

/-- An ENQUIRE sent while ABSENT, while LINK LOST is open or during the wait of PRINTER RESET is sent once (R105). -/
def Controller.sendsOnce (c : Controller) (op : Operation) : Bool :=
  op == .enquire && (c.state == .absent || c.linkLost || c.resetWait)

/-- The frame of an operation is put on the printer line (R104, R204). -/
def Controller.puts (c : Controller) (op : Operation) : Controller := { c with sending := some op.frame }

/-- An operation goes out on the printer line (R104): it is outstanding, and its frame is on the line. -/
def State.transmit (s : State) (p : PrinterId) (op : Operation) (purpose : Purpose) : State :=
  s.mapCtl p fun c => { c.puts op with outstanding := some ⟨op, purpose, c.sendsOnce op⟩ }

/-- An operation is due: it is sent, or waits behind the outstanding one (R104). -/
def State.sendOp (s : State) (p : PrinterId) (op : Operation) (purpose : Purpose) : State :=
  if (s.ctl p).outstanding.isNone && (s.ctl p).waiting.isEmpty then s.transmit p op purpose
  else s.mapCtl p fun c => { c with waiting := c.waiting ++ [.op op purpose] }

/-! ## Suspension, holds and physical faults (R118, R120, R125, R126) -/

/-- The job in progress becomes SUSPENDED, and its form-in-hand mark is cleared (R93, R115). -/
def State.suspend (s : State) (p : PrinterId) : State := (s.mapJob p fun j => { j with state := .suspended }).markForm p false

/-- A held cause arises: the printer goes HELD and the cause is entered (R126). -/
def State.hold (s : State) (p : PrinterId) (kind : FaultKind) (strip : Option StripRead) : State :=
  (s.setPrinterState p .held).enterFault p kind strip

/-- A job that a failure or a stop has reached ends by its third failure (R95), else by its abort mark (R100). -/
def State.endAtBoundary (s : State) (p : PrinterId) : State :=
  match s.inProgress p with
  | none => s
  | some g => if 3 ≤ g.job.failures then s.endJob p .failures else if g.job.abortMark then s.endJob p .aborted else s

/-- Work that stops when a fault arises: the coupon loop, a waste eject, a load (R106). -/
def Purpose.isWork : Purpose → Bool
  | .loop | .waste | .load => true
  | _ => false

/-- A waiting step of such work. -/
def Waiting.isWork : Waiting → Bool
  | .loopStart | .loadStep => true
  | .op _ purpose => purpose.isWork

/-- The work of a controller stops: what it has still to send is dropped, the settle wait ends, the expansion is
discarded, and the answer to an operation it has outstanding will be set aside (R106, R111, R118). -/
def Controller.haltWork (c : Controller) : Controller :=
  { c with
    outstanding := c.outstanding.map fun o => if o.purpose.isWork then { o with purpose := .stopped } else o
    waiting := c.waiting.filter (!·.isWork)
    settling := false
    expansion := []
    linesSent := 0 }

/-- The form position and head as a physical fault leaves them (R120), and the fault open. -/
def Controller.takeFault (c : Controller) (k : FaultKind) : Controller :=
  { c with
    position := if k = .headFault then c.position else .unknown
    head := if k = .coverOpen then .lifted else c.head
    faultOpen := true
    linkLost := c.linkLost || k == .linkLost }

/-- The form in hand with a line of its coupon sent is spoiled: its record at the cursor, and the position UNKNOWN
(R118). The mark is cleared with the suspension that follows. -/
def State.spoilForm (s : State) (p : PrinterId) : State :=
  match s.inProgress p, s.loadedPack p with
  | some g, some (slot, k) =>
    if g.formInHand && decide (0 < (s.ctl p).linesSent) then
      (s.failForm p slot k.cursor 1 .spoiled).mapCtl p fun c => { c with position := .unknown }
    else s
  | _, _ => s

/-- A load in hand on a printer ends ABORTED by a fault (R10). -/
def State.faultLoad (s : State) (p : PrinterId) : State :=
  match (s.ctl p).load with
  | none => s
  | some _ => (s.mapCtl p fun c => { c with load := none }).endDeferred .aborted []

/-- A physical fault arises on a printer (R118, R120, R125): a form being printed is spoiled, a job mid-form suspended,
the work stopped; the printer goes to FAULT, or stays OFFLINE; the fault is entered; a job at its third failure or with
its abort mark set ends; and a load in hand ends ABORTED. -/
def State.physicalFault (s : State) (p : PrinterId) (k : FaultKind) : State :=
  let mid := s.midForm p
  let s1 := if mid then (s.spoilForm p).suspend p else s
  let s2 := s1.mapCtl p fun c => c.haltWork.takeFault k
  let s3 := if (s2.ctl p).state = .offline then s2 else s2.setPrinterState p .fault
  let s4 := s3.enterFault p k none
  let s5 := if mid then s4.endAtBoundary p else s4
  s5.faultLoad p

/-- The physical fault of a printer clears (R125, R140, R144): with the held flag set the entry stays OPEN and a printer in
FAULT becomes HELD, else the entry is cleared and a printer in FAULT becomes IDLE. -/
def State.clearFault (s : State) (p : PrinterId) : State :=
  let s1 := s.mapCtl p fun c => { c with faultOpen := false, linkLost := false }
  let s2 := if (s1.ctl p).held then s1 else s1.clearEntry p
  if (s2.ctl p).state = .fault then s2.setPrinterState p (if (s2.ctl p).held then .held else .idle) else s2

/-- A sensor set is judged (R106, R137): it is kept, its arisings are taken in their order, and an all-good set clears
the physical fault where `clears` says that its frame may do so (R125). -/
def State.judgeSet (s : State) (p : PrinterId) (x : Sensors) (clears : Bool) : State :=
  let found := arisings (s.ctl p).sensors x
  let s1 := s.mapCtl p fun c => { c with sensors := some x }
  let s2 := found.foldl (fun t k => t.physicalFault p k) s1
  if Sensors.allGood x && clears && (s2.ctl p).faultOpen then s2.clearFault p else s2

/-! ## Leaving ABSENT (R124, R130) -/

/-- The wait of a PRINTER RESET ends: its reply is OK with the printer's state (R130). -/
def State.finishReset (s : State) (p : PrinterId) : State :=
  if (s.ctl p).resetWait then
    (s.mapCtl p fun c => { c with resetWait := false }).endDeferred .ok [byteOf (s.ctl p).state.code]
  else s

/-- The first frame received from an ABSENT printer ends ABSENT (R124). A frame that is neither an answer nor a SENSOR
CHANGE does not (log entry 12). -/
def State.endAbsent (s : State) (p : PrinterId) (content : FrameContent) : State :=
  match content with
  | .other => s
  | .refusal why => (s.physicalFault p (RefusalKind.fault why)).finishReset p
  | .sensors x =>
    let s1 := s.mapCtl p fun c => { c with sensors := some x }
    (if Sensors.allGood x then s1.setPrinterState p .idle
     else (arisings none x).foldl (fun t k => t.physicalFault p k) s1).finishReset p

/-- What a frame carries is taken: it ends ABSENT (R124), or its set is judged, or its refusal arises (R137). -/
def State.heard (s : State) (p : PrinterId) (content : FrameContent) (clears : Bool) : State :=
  if (s.ctl p).state = .absent then s.endAbsent p content
  else match content with
    | .sensors x => s.judgeSet p x clears
    | .refusal why => s.physicalFault p (RefusalKind.fault why)
    | .other => s

/-! ## The coupon loop (R111-R117) -/

/-- What the fields of the next coupon's expansion are taken from (R70, R73). -/
def State.bodyFacts (s : State) (j : Job) (serial : Nat) : BodyFacts :=
  { letter1 := (s.kind j.kind).letter1, letter2 := (s.kind j.kind).letter2, serial := serial, total := j.total,
    charge := j.charge, now := s.clock.now, day := s.clock.day, session := j.session,
    clerk := (s.session j.session).clerk.getD 0, coupon := j.printed.length + 1, requested := j.requested,
    passengers := j.passengers, kind := j.kind.val + 1, issue := j.issue }

/-- The next line of the expansion is sent, or, after the last, EJECT (R116, R117). -/
def State.nextLine (s : State) (p : PrinterId) : State :=
  match (s.ctl p).expansion[(s.ctl p).linesSent]? with
  | some chars =>
    ((s.mapCtl p fun c => { c with linesSent := c.linesSent + 1 }).setPrinterState p .printing).sendOp p (.printLine chars) .loop
  | none => (s.setPrinterState p .ejecting).sendOp p .eject .loop

/-- The form at the head is VERIFIED for the job in progress: a marked job ends (R100); else the form-in-hand mark is
set, the body expanded with its flags (R70, R76), and the first line sent (R112, R115, R116). -/
def State.formVerified (s : State) (p : PrinterId) : State :=
  match s.inProgress p, s.loadedPack p with
  | some g, some (_, k) =>
    if g.job.abortMark then (s.endJob p .aborted).setPrinterState p .idle
    else
      let x := expandBody (s.bodyFacts g.job k.cursor) g.job.body
      let j := { g.job with substituted := g.job.substituted || x.2.1, truncated := g.job.truncated || x.2.2 }
      ((s.putProgress p (some ⟨j, true⟩)).mapCtl p fun c => { c with expansion := x.1, linesSent := 0 }).nextLine p
  | _, _ => s

/-- ADVANCE is sent for the loop; `kind` says how the form it brings up will be read (R112, R114). -/
def State.feed (s : State) (p : PrinterId) (kind : FormKind) : State :=
  ((s.mapCtl p fun c => { c with formKind := kind }).setPrinterState p .feeding).sendOp p .advance .loop

/-- The form at the head is read, with three fresh reads (R113, R114). -/
def State.readForm (s : State) (p : PrinterId) (kind : FormKind) : State :=
  ((s.mapCtl p fun c => { c with formKind := kind, badReads := 0 }).setPrinterState p .reading).sendOp p .readStrip .loop

/-- The controller positions a form (R112). -/
def State.positionForm (s : State) (p : PrinterId) : State :=
  let s1 := s.mapCtl p fun c => { c with usedAdvances := 0 }
  match (s.ctl p).position with
  | .verified => s1.formVerified p
  | .none => s1.feed p .newForm
  | .unknown => s1.readForm p .headForm

/-- A pass of the coupon loop begins (R111). -/
def State.startPass (s : State) (p : PrinterId) : State :=
  match s.inProgress p with
  | none => s
  | some g =>
    if g.job.abortMark then (s.endJob p .aborted).setPrinterState p .idle
    else if !s.usable p then (s.suspend p).hold p .noPack none
    else if (s.ctl p).head = .lifted then (s.setPrinterState p .engaging).sendOp p .engage .loop
    else s.positionForm p

/-- A LIFT that a loop or a load beginning now goes behind, outstanding or due before it. An idle LIFT not yet sent is none:
it is withdrawn as the printer leaves IDLE (R104). -/
def Controller.liftAhead (c : Controller) : Bool :=
  c.outstanding.any (·.op == .lift) || c.waiting.any fun
    | .op .lift purpose => purpose != .idleLift
    | _ => false

/-- The head as a loop or a load that waits will find it. DEDUCED (log entry 35): behind a LIFT it finds the head LIFTED
(R122), since a LIFT refused or lost stops it (R120, R125). -/
def Controller.headFound (c : Controller) : Head := if c.liftAhead then .lifted else c.head

/-- The state a loop shows while its first operation waits: that of the operation it waits to send (R104), ENGAGE if it will
find the head LIFTED, else the one the form position calls for (R111, R112). -/
def Controller.loopShows (c : Controller) : PrinterState :=
  match c.headFound, c.position with
  | .lifted, _ => .engaging
  | .engaged, .verified => .printing
  | .engaged, .none => .feeding
  | .engaged, .unknown => .reading

/-- The coupon loop begins for the job in progress, at once or behind the outstanding operation (R91, R104). -/
def State.beginLoop (s : State) (p : PrinterId) : State :=
  if (s.ctl p).outstanding.isNone then s.startPass p
  else (s.setPrinterState p (s.ctl p).loopShows).mapCtl p fun c => { c with waiting := c.waiting ++ [.loopStart] }

/-! ## Loads (R8-R10) -/

/-- A load taken from IDLE shows ENGAGING and READING; one from HELD or OFFLINE leaves the state (R8). -/
def State.showLoad (s : State) (p : PrinterId) (g : Load) (st : PrinterState) : State :=
  if g.takenIn = .idle then s.setPrinterState p st else s

/-- A load goes on: ENGAGE if the head is LIFTED, else READ STRIP (R8). -/
def State.loadStep (s : State) (p : PrinterId) : State :=
  match (s.ctl p).load with
  | none => s
  | some g =>
    if (s.ctl p).head = .lifted then (s.showLoad p g .engaging).sendOp p .engage .load
    else (s.showLoad p g .reading).sendOp p .readStrip .load

/-- A LOAD PACK is accepted: its load begins, at once or behind the outstanding operation; one taken from IDLE shows the
state of the operation it waits to send (R8, R104). -/
def State.beginLoad (s : State) (p : PrinterId) (slot : Slot) : State :=
  let g : Load := ⟨slot, 0, (s.ctl p).state⟩
  let s1 := s.mapCtl p fun c => { c with load := some g }
  if (s.ctl p).outstanding.isNone then s1.loadStep p
  else (s1.showLoad p g (if (s.ctl p).headFound = .lifted then .engaging else .reading)).mapCtl p
    fun c => { c with waiting := c.waiting ++ [.loadStep] }

/-- An ENGAGED head is lifted on an OFFLINE printer (R9, R127). -/
def State.liftOffline (s : State) (p : PrinterId) : State :=
  if (s.ctl p).head = .engaged then s.sendOp p .lift .offlineLift else s

/-- A load that ended without verifying: the printer returns to the state it was taken in (R9, R10). -/
def State.returnFromLoad (s : State) (p : PrinterId) (g : Load) : State :=
  let s1 := s.mapCtl p fun c => { c with load := none }
  match g.takenIn with
  | .idle => s1.setPrinterState p .idle
  | .offline => s1.liftOffline p
  | _ => s1

/-- A load ends MISMATCH with a detail, a prefix and a serial (R9, R203). -/
def State.mismatchLoad (s : State) (p : PrinterId) (g : Load) (detail : Nat) (letter1 letter2 : Byte) (serial : Nat) :
    State :=
  (s.returnFromLoad p g).endDeferred .mismatch (byteOf detail :: letter1 :: letter2 :: be 3 serial)

/-- The NO PACK cause ends by a verified load: the held flag is cleared, and the entry too unless a physical fault is open
(R145). -/
def State.endNoPack (s : State) (p : PrinterId) : State :=
  match s.openEntry p with
  | none => s
  | some e =>
    if e.kind = .noPack then
      let s1 := s.mapCtl p fun c => { c with held := false }
      if (s.ctl p).faultOpen then s1 else s1.clearEntry p
    else s

/-- A load is verified (R9): the pack LOADED in the printer, the position VERIFIED, the NO PACK hold ended, the reply and
LOAD DONE. -/
def State.verifyLoad (s : State) (p : PrinterId) (g : Load) (k : Pack) : State :=
  let s1 := (s.putPack g.slot (some { k with state := .loaded, location := some p })).putLoaded p (some g.slot)
  let s2 := (s1.mapCtl p fun c => { c with load := none, position := .verified }).endNoPack p
  let s3 := if g.takenIn = .offline then s2.liftOffline p else s2.setPrinterState p .idle
  (s3.endDeferred .ok (byteOf (g.slot.val + 1) :: be 3 k.cursor)).raise .loadDone .nothing

/-- ABORT ends a load: its operations not yet sent are dropped, the answer to one already sent will be set aside, and the
printer returns to its earlier state (R10). -/
def State.abortLoad (s : State) (p : PrinterId) : State :=
  match (s.ctl p).load with
  | none => s
  | some g =>
    (s.mapCtl p fun c => { c with
      outstanding := c.outstanding.map fun o => if o.purpose = .load then { o with purpose := .stopped } else o
      waiting := c.waiting.filter (!·.isWork)
      settling := false }).returnFromLoad p g

/-! ## What an answer leads to -/

/-- What the controller does next once an answer's result and sensor set have been taken. -/
inductive NextStep where
  | nothing
  | pass
  | settle
  | readForm
  | readAgain
  | verified
  | line
  | feed (kind : FormKind)
  | waste
  | load
  deriving DecidableEq, Repr

/-- The settle time is over: the load reads its strip, or the loop positions a form (R8, R111). -/
def State.settled (s : State) (p : PrinterId) : State :=
  let s1 := s.mapCtl p fun c => { c with settling := false }
  if (s.ctl p).load.isSome then s1.loadStep p else s1.positionForm p

/-- The next step is taken. A settle class of 0 ms is over at once (R110, R111). -/
def State.goOn (s : State) (p : PrinterId) : NextStep → State
  | .nothing => s
  | .pass => s.startPass p
  | .settle => if settleTime (s.config p).settleClass = 0 then s.settled p else s.mapCtl p fun c => { c with settling := true }
  | .readForm => s.readForm p (s.ctl p).formKind
  | .readAgain => s.sendOp p .readStrip .loop
  | .verified => s.formVerified p
  | .line => s.nextLine p
  | .feed kind => s.feed p kind
  | .waste => (s.setPrinterState p .ejecting).sendOp p .eject .waste
  | .load => s.loadStep p

/-- What waits behind an ended operation is taken in the order it became due, until an operation is outstanding (R104). -/
def State.drain (s : State) (p : PrinterId) : Nat → State
  | 0 => s
  | fuel + 1 =>
    match (s.ctl p).outstanding, (s.ctl p).waiting with
    | none, w :: rest =>
      let s1 := s.mapCtl p fun c => { c with waiting := rest }
      let s2 := match w with
        | .loopStart => s1.startPass p
        | .loadStep => s1.loadStep p
        | .op op purpose => s1.transmit p op purpose
      s2.drain p fuel
    | _, _ => s

/-- The operation has ended: what waits behind it is sent (R104). -/
def State.opEnded (s : State) (p : PrinterId) : State := s.drain p (s.ctl p).waiting.length

/-! ## Results of OK answers -/

/-- ENGAGE OK: the head is ENGAGED, and the settle time follows for the loop or load that sent it (R108, R111). The answer to
an ENGAGE whose work was stopped or aborted is set aside (R10, R106, log entry 11). -/
def State.engaged (s : State) (p : PrinterId) (purpose : Purpose) : State × NextStep :=
  if purpose = .loop ∨ purpose = .load then (s.mapCtl p fun c => { c with head := .engaged }, .settle) else (s, .nothing)

/-- LIFT OK: the head is LIFTED (R108), whatever has become of what sent the LIFT (log entry 24). -/
def State.lifted (s : State) (p : PrinterId) : State × NextStep :=
  (s.mapCtl p fun c => { c with head := .lifted }, .nothing)

/-- ADVANCE OK: the form brought up is read (R113, R114). -/
def advanced (s : State) (purpose : Purpose) : State × NextStep :=
  (s, if purpose = .loop then .readForm else .nothing)

/-- PRINT LINE OK: the next line is sent, or the form ejected (R116). -/
def linePrinted (s : State) (purpose : Purpose) : State × NextStep :=
  (s, if purpose = .loop then .line else .nothing)

/-- The coupon in hand is ejected good (R117, R94): cursor, coupon, counter, mark and position; the last coupon settles the
issue and leaves the printer IDLE. -/
def State.couponEjected (s : State) (p : PrinterId) : State × NextStep :=
  match s.inProgress p, s.loadedPack p with
  | some g, some (slot, k) =>
    let s1 := (s.moveCursor slot (k.cursor + 1)).countKind g.job.session g.job.kind
      fun c => { c with issued := bump c.issued 1 }
    let s2 := s1.putProgress p (some ⟨{ g.job with printed := g.job.printed ++ [⟨slot, k.cursor⟩] }, false⟩)
    let s3 := s2.mapCtl p fun c => { c with position := .none, expansion := [], linesSent := 0 }
    if g.job.printed.length + 1 < g.job.requested then (s3, .pass) else ((s3.settleJob p).setPrinterState p .idle, .nothing)
  | _, _ => (s, .nothing)

/-- A waste form is ejected: the next pass begins, or, when the job has ended, the printer is IDLE (R113). -/
def State.wasteEjected (s : State) (p : PrinterId) : State × NextStep :=
  let s1 := s.mapCtl p fun c => { c with position := .none }
  if (s.inProgress p).isSome then (s1, .pass) else (s1.setPrinterState p .idle, .nothing)

/-- EJECT OK, by the work that sent it (R113, R117). -/
def State.ejected (s : State) (p : PrinterId) (purpose : Purpose) : State × NextStep :=
  match purpose with
  | .loop => s.couponEjected p
  | .waste => s.wasteEjected p
  | _ => (s, .nothing)

/-- UNREADABLE (R113): the record, the failure; a job at its end ends; the form is ejected as waste. -/
def State.unreadableForm (s : State) (p : PrinterId) (slot : Slot) (cursor : Nat) : State × NextStep :=
  ((s.failForm p slot cursor 1 .unreadable).endAtBoundary p, .waste)

/-- A held cause of the strip read that leaves the position UNKNOWN: WRONG STOCK or STOCK DISORDER (R113). A job with its
abort mark set ends when the controller suspends it (R100). -/
def State.strangeForm (s : State) (p : PrinterId) (kind : FaultKind) (strip : StripRead) : State × NextStep :=
  (((((s.mapCtl p fun c => { c with position := .unknown }).suspend p).hold p kind (some strip)).endAtBoundary p), .nothing)

/-- STOCK GAP (R113): the SKIPPED record and cursor, the position VERIFIED; the third failure ends the job, else it is
suspended; the printer is HELD; a suspended job with its abort mark set ends (R100). -/
def State.gapForm (s : State) (p : PrinterId) (slot : Slot) (strip : StripRead) : State × NextStep :=
  let s1 := (s.failForm p slot strip.expected (strip.serial - strip.expected) .skipped).mapCtl p
    fun c => { c with position := .verified }
  let s2 := match s1.inProgress p with
    | some g => if 3 ≤ g.job.failures then s1.endJob p .failures else s1.suspend p
    | none => s1
  ((s2.hold p .stockGap (some strip)).endAtBoundary p, .nothing)

/-- A good strip of the job's prefix is judged by its serial, the first row that applies (R113, R114). -/
def State.serialRead (s : State) (p : PrinterId) (slot : Slot) (k : Pack) (strip : StripRead) : State × NextStep :=
  if strip.serial = k.cursor then (s.mapCtl p fun c => { c with position := .verified }, .verified)
  else if (s.ctl p).formKind = .headForm ∧ k.first ≤ strip.serial ∧ strip.serial < k.cursor then
    if (s.ctl p).usedAdvances < 2 then
      (s.mapCtl p fun c => { c with usedAdvances := c.usedAdvances + 1 }, .feed .headForm)
    else s.strangeForm p .stockDisorder strip
  else if k.cursor < strip.serial ∧ strip.serial ≤ k.cursor + 8 ∧ strip.serial ≤ k.last then s.gapForm p slot strip
  else s.strangeForm p .stockDisorder strip

/-- A bad strip check in the loop: read again twice, then UNREADABLE for a new form, and ADVANCE past a head form (R113,
R114). -/
def State.badStrip (s : State) (p : PrinterId) (slot : Slot) (k : Pack) : State × NextStep :=
  if (s.ctl p).badReads < 2 then (s.mapCtl p fun c => { c with badReads := c.badReads + 1 }, .readAgain)
  else match (s.ctl p).formKind with
    | .newForm => s.unreadableForm p slot k.cursor
    | .headForm => (s, .feed .newForm)

/-- READ STRIP OK in the coupon loop (R113, R114). -/
def State.loopStrip (s : State) (p : PrinterId) (a : StripAnswer) : State × NextStep :=
  match s.inProgress p, s.loadedPack p with
  | some g, some (slot, k) =>
    match a with
    | .noForm _ => (s.physicalFault p .noForms, .nothing)
    | .strip good letter1 letter2 serial _ =>
      if !good then s.badStrip p slot k
      else
        let strip : StripRead := ⟨k.cursor, letter1, letter2, serial⟩
        if letter1 ≠ (s.kind g.job.kind).letter1 ∨ letter2 ≠ (s.kind g.job.kind).letter2 then
          s.strangeForm p .wrongStock strip
        else s.serialRead p slot k strip
    | .refused _ => (s, .nothing)
  | _, _ => (s, .nothing)

/-- READ STRIP OK in a load (R9). -/
def State.loadStrip (s : State) (p : PrinterId) (a : StripAnswer) : State × NextStep :=
  match (s.ctl p).load with
  | none => (s, .nothing)
  | some g =>
    match s.pack g.slot, a with
    | some k, .strip good letter1 letter2 serial _ =>
      if !good then
        if g.badReads < 2 then (s.mapCtl p fun c => { c with load := some { g with badReads := g.badReads + 1 } }, .load)
        else (s.mismatchLoad p g 1 0x2D 0x2D 0xFFFFFF, .nothing)
      else if letter1 = (s.kind k.kind).letter1 ∧ letter2 = (s.kind k.kind).letter2 ∧ serial = k.cursor then
        (s.verifyLoad p g k, .nothing)
      else (s.mismatchLoad p g 0 letter1 letter2 serial, .nothing)
    | some _, .noForm _ => (s.mismatchLoad p g 2 0x2D 0x2D 0xFFFFFF, .nothing)
    | _, _ => (s, .nothing)

/-- READ STRIP OK, by the work that sent it. -/
def State.stripRead (s : State) (p : PrinterId) (a : StripAnswer) (purpose : Purpose) : State × NextStep :=
  match purpose with
  | .loop => s.loopStrip p a
  | .load => s.loadStrip p a
  | _ => (s, .nothing)

/-! ## Frames received (R105, R106, R205) -/

/-- A frame that answers nothing is set aside: it ends ABSENT or a link loss, and is judged as that asks (R105, R124, R144,
log entry 12). -/
def State.frameSetAside (s : State) (p : PrinterId) (content : FrameContent) : State :=
  let s1 := s.mapCtl p fun c => { c with linkLost := false }
  if (s.ctl p).state = .absent ∨ (s.ctl p).linkLost then s1.heard p content true else s1

/-- A SENSOR CHANGE (R106, R124, R125). -/
def State.sensorFrame (s : State) (p : PrinterId) (x : Sensors) : State :=
  (s.mapCtl p fun c => { c with linkLost := false }).heard p (.sensors x) true

/-- The answer to the outstanding operation is taken (R105, R106): the missed-answer count is 0 and a link loss ends; a
refusal arises; for an OK the result is taken, then the sensor set judged, then, if no fault arose, the next step; last,
what waits is sent. `result` gives the result and the step that follows it. An abort boundary that the result reaches (R100:
a form VERIFIED, a coupon ejected good that is not the last) is in that step, so behind a fault of the set (DESIGN CHOICE, log
entry 37). -/
def State.takeAnswer (s : State) (p : PrinterId) (o : Outstanding) (content : FrameContent)
    (result : State → State × NextStep) : State :=
  let c := s.ctl p
  let s1 := s.putCtl p { c with outstanding := none, missed := 0, linkLost := false }
  let s2 := match content with
    | .sensors x =>
      let r := result s1
      let s3 := r.1.heard p content (o.op == Operation.enquire || c.linkLost)
      if (arisings c.sensors x).isEmpty then s3.goOn p r.2 else s3
    | _ => s1.heard p content true
  s2.opEnded p

/-- The kind of an operation, without the characters of a line. -/
def Operation.same (a b : Operation) : Bool := a.code == b.code

/-- An answer arrives: it answers the outstanding operation if it is of its kind, and is set aside otherwise (R105,
R205). -/
def State.answerTo (s : State) (p : PrinterId) (op : Operation) (content : FrameContent)
    (result : Purpose → State → State × NextStep) : State :=
  match (s.ctl p).outstanding with
  | some o => if o.op.same op then s.takeAnswer p o content (result o.purpose) else s.frameSetAside p content
  | none => s.frameSetAside p content

/-- What an answer carries. -/
def answerContent : Answer → FrameContent
  | .ok x => .sensors x
  | .refused why => .refusal why

/-- What an answer to READ STRIP carries. -/
def stripContent : StripAnswer → FrameContent
  | .noForm x => .sensors x
  | .strip _ _ _ _ x => .sensors x
  | .refused why => .refusal why

/-! ## Timers (R105, R123, R130) -/

/-- The outstanding operation ends unanswered without a fault, and what waits is sent. -/
def State.endUnanswered (s : State) (p : PrinterId) : State :=
  (s.mapCtl p fun c => { c with outstanding := none, missed := 0 }).opEnded p

/-- The deadline of the outstanding operation passes (R105). An ENQUIRE of the wait of PRINTER RESET goes out again
(R130). One sent once ends unanswered. Any other is sent once more, that of an aborted load too (log entry 23), and its second miss
is LINK LOST. -/
def State.deadline (s : State) (p : PrinterId) : State :=
  match (s.ctl p).outstanding with
  | none => s
  | some o =>
    if (s.ctl p).resetWait then s
    else if o.once then s.endUnanswered p
    else if (s.ctl p).missed = 0 then s.mapCtl p fun c => { c.puts o.op with missed := 1 }
    else
      ((s.mapCtl p fun c => { c with outstanding := none, missed := 0 }).physicalFault p .linkLost).opEnded p

/-- The enquiry timer expires (R123): ENQUIRE is sent unless an operation is outstanding. -/
def State.enquire (s : State) (p : PrinterId) : State :=
  if (s.ctl p).state.enquires && !(s.ctl p).resetWait && (s.ctl p).outstanding.isNone then s.sendOp p .enquire .enquiry
  else s

/-! ## The arbiters (R20, R90-R92) -/

/-- A lane head is admitted: its reservation, its retained record, and its coupon loop (R91). -/
def State.admitHead (s : State) (p : PrinterId) (j : Job) (rest : Lanes) : State :=
  let s1 := s.putLane p rest
  let s2 := (s1.putStock { s1.stock with reservation := s1.stock.reservation + 6 }).putProgress p
    (some ⟨{ j with state := .printing, reservation := 6 }, false⟩)
  s2.noteRecords.beginLoop p

/-- A lane head is offered: HELD for NO PACK without a usable pack, nothing when the records are short, else admitted (R90,
R92). -/
def State.offer (s : State) (p : PrinterId) (j : Job) (rest : Lanes) : State :=
  if !s.usable p then s.hold p .noPack none else if s.unreserved < 6 then s else s.admitHead p j rest

/-- The arbiter of an IDLE printer acts: its suspended job, else the office lane's head, else the window lane's (R90). -/
def State.arbiter (s : State) (p : PrinterId) : State :=
  if (s.ctl p).state ≠ .idle then s
  else match s.inProgress p with
    | some g =>
      if g.job.state ≠ .suspended then s
      else if !s.usable p then s.hold p .noPack none
      else (s.mapJob p fun j => { j with state := .printing }).beginLoop p
    | none =>
      match (s.lane p).office, (s.lane p).window with
      | j :: rest, window => s.offer p j ⟨rest, window⟩
      | [], j :: rest => s.offer p j ⟨[], rest⟩
      | [], [] => s

/-- A printer whose arbiter would claim records now (R20, R90). -/
def State.claims (s : State) (p : PrinterId) : Bool :=
  (s.ctl p).state == .idle && (s.inProgress p).isNone && s.usable p &&
    !((s.lane p).office.isEmpty && (s.lane p).window.isEmpty)

/-- The four printers, in order. -/
def printers : List PrinterId := [0, 1, 2, 3]

/-- An order of the elements of a list, picked by a number. -/
def pickOrder {α : Type} : Nat → List α → Nat → List α
  | 0, _, _ => []
  | fuel + 1, list, n =>
    match list[n % list.length]? with
    | none => []
    | some x => x :: pickOrder fuel (list.eraseIdx (n % list.length)) (n / list.length)

/-- More than one arbiter claims, and the records do not suffice for all: the order of the claims matters (R20). -/
def State.contended (s : State) : Bool :=
  let claimants := (printers.filter s.claims).length
  decide (1 < claimants) && decide (6 ≤ s.unreserved) && decide (s.unreserved < 6 * claimants)

/-- All arbiters act after an event (R90). Where the order of their claims matters the manual leaves it open (log entry
4). -/
def State.arbitrateAll (s : State) : State :=
  if s.contended then
    (pickOrder 4 printers (Config.arbiterChoice s.draws)).foldl (fun t p => t.arbiter p) (s.putDraws (s.draws + 1))
  else printers.foldl (fun t p => t.arbiter p) s

/-! ## What follows an event -/

/-- A lamp whose indication changes shows it from the start of its period, lit unless it is off (R132). -/
def Controller.showLamp (c : Controller) (x : Lamp) : Controller :=
  if c.lamp = x then c else { c with lamp := x, lampOn := x != .off }

/-- Every lamp's indication is evaluated again (R132). -/
def State.refreshLamps (s : State) : State :=
  { s with controllers := Vector.ofFn fun p => (s.ctl p).showLamp (s.lampNow p) }

/-- What follows an event: the arbiters act, the lamps are set, the idle transmitters take what waits (R90, R132, R179). By
then a reply made in the event and a notice raised in it are both queued, and an idle transmitter takes the reply first
(DESIGN CHOICE, log entry 36). -/
def State.afterEvent (s : State) : State := s.arbitrateAll.refreshLamps.pumpAll

/-- The printers run: the lines are open, or start-up has set the controllers and begun their enquiries (R199). -/
def State.printersRun (s : State) : Bool :=
  match s.phase with
  | .running => true
  | .starting n => 7 ≤ n
  | .halted => false

/-- An event of a printer or its line is taken while the printers run, and what follows it is done. -/
def State.printerEvent (s : State) (f : State → State) : State := if s.printersRun then (f s).afterEvent else s

end Sys2Proof.Machine
end

