-- ==== Sys2Proof/Machine/Operands.lean ====
section
/-! DEFINITION. The fields of a request: what a number of a frame names, and the layouts of the request bodies in both
directions (R201, R203). -/

namespace Sys2Proof.Machine

/-! ## Numbers that name things, counted from 1 -/

/-- The thing a number 1-n names, counted from 0; none for a number outside 1-n. -/
def idOf (n x : Nat) : Option (Fin n) := if h : 0 < x ∧ x ≤ n then some ⟨x - 1, by omega⟩ else none

def sessionOf (x : Nat) : Option SessionId := idOf 7 x
def printerOf (x : Nat) : Option PrinterId := idOf 4 x
def kindOf (x : Nat) : Option Kind := idOf 8 x
def slotOf (x : Nat) : Option Slot := idOf 64 x

/-- The number of a thing that may be absent, 0 for none (R201). -/
def numberOf {n : Nat} (x : Option (Fin n)) : Nat :=
  match x with
  | some i => i.val + 1
  | none => 0

/-- A printer that a map entry may leave out (R82, R201): none outside 0-4. -/
def mapPrinterOf (x : Nat) : Option (Option PrinterId) := if x = 0 then some none else (printerOf x).map some

/-- A kind that SET PRINTER may leave out (R110): none outside 0-8. -/
def configKindOf (x : Nat) : Option (Option Kind) := if x = 0 then some none else (kindOf x).map some

/-- A kind whose prefix is "--" is undefined (R2). -/
def StockKind.isUndefined (k : StockKind) : Bool := k.letter1 == 0x2D && k.letter2 == 0x2D

/-- A capital letter A-Z (R1). -/
def isCapital (b : Byte) : Bool := 0x41 ≤ b.toNat && b.toNat ≤ 0x5A

/-! ## The session a request reaches (R44, R155) -/

/-- The session a named request reaches from a line: BAD PARAMETER outside 1-7, NOT PERMITTED for another session than a
window line's own (R44, R155). -/
def reachSession (l : Line) (session : Nat) : Except Status SessionId :=
  match sessionOf session with
  | none => .error .badParameter
  | some n => if l = officeLine ∨ n = l then .ok n else .error .notPermitted

/-! ## Fields of fixed widths -/

/-- Cuts bytes into numbers of the given widths. -/
def cutFields : List Nat → List Byte → List Nat
  | [], _ => []
  | w :: ws, bytes => readBe (bytes.take w) :: cutFields ws (bytes.drop w)

/-- The numbers a body carries in the given widths; none when its length does not fit them. -/
def readFields (widths : List Nat) (bytes : List Byte) : Option (List Nat) :=
  if bytes.length = widths.sum then some (cutFields widths bytes) else none

/-- The bytes of numbers in the given widths. -/
def writeFields : List Nat → List Nat → List Byte
  | w :: ws, x :: xs => be w x ++ writeFields ws xs
  | _, _ => []

/-- The eight pairs of a window printer map, from sixteen numbers. -/
def pairsOf (xs : List Nat) : Vector (Nat × Nat) 8 := Vector.ofFn fun i => (xs.getD (2 * i.val) 0, xs.getD (2 * i.val + 1) 0)

/-- The sixteen numbers of a window printer map. -/
def ofPairs (entries : Vector (Nat × Nat) 8) : List Nat := entries.toList.flatMap fun e => [e.1, e.2]

/-! ## ISSUE (R203) -/

/-- The widths of ISSUE's fields before the text on a window line; on the office line a printer follows (R203). -/
def issueWidths : List Nat := [1, 1, 4, 1, 1, 1]

/-- The text of ISSUE: a length byte of at most 12 and as many characters. -/
def readText (bytes : List Byte) : Option (List Byte) :=
  match bytes with
  | [] => none
  | n :: text => if text.length = n.toNat ∧ n.toNat ≤ 12 then some text else none

/-- The ISSUE a body carries on a line (R203). -/
def readIssue (l : Line) (bytes : List Byte) : Option Instr :=
  let widths := if l = officeLine then issueWidths ++ [1] else issueWidths
  match readFields widths (bytes.take widths.sum), readText (bytes.drop widths.sum) with
  | some [kind, passengers, base, index, tender, coupons], some text =>
    some (.issue l kind passengers base index tender coupons none text)
  | some [kind, passengers, base, index, tender, coupons, printer], some text =>
    some (.issue l kind passengers base index tender coupons (some printer) text)
  | _, _ => none

/-! ## Layouts (R203) -/

/-- The request a body carries on a line, by its code and layout; none when the code names no request or the length fits
no layout of it (R203). -/
def readRequest (l : Line) (code : Byte) (rest : List Byte) : Option Instr :=
  let fields (widths : List Nat) := readFields widths rest
  match code.toNat with
  | 0x01 => match fields [] with | some [] => some (.readNotices l) | _ => none
  | 0x02 => match fields [2] with | some [mask] => some (.setNoticeMask l (BitVec.ofNat 16 mask)) | _ => none
  | 0x03 => match fields [] with | some [] => some (.readOutcomes l) | _ => none
  | 0x04 => match fields [] with | some [] => some (.abort l) | _ => none
  | 0x05 => match fields [] with | some [] => some (.readClock l) | _ => none
  | 0x06 => match fields [4, 2, 1] with | some [stamp, day, hour] => some (.setClock l stamp day hour) | _ => none
  | 0x10 => match fields [2, 4] with | some [clerk, float] => some (.signOn l clerk float) | _ => none
  | 0x11 => match fields [3] with | some [issue] => some (.void l issue) | _ => none
  | 0x12 => match fields [1, 4] with | some [session, amount] => some (.lift l session amount) | _ => none
  | 0x13 => match fields [4, 4] with | some [high, low] => some (.setThresholds l high low) | _ => none
  | 0x14 => match fields [1] with | some [session] => some (.readTill l session) | _ => none
  | 0x15 => match fields [1, 1] with | some [session, position] => some (.readJournal l session position) | _ => none
  | 0x16 => if rest.length ≤ 249 then some (.writeBody l rest) else none
  | 0x20 => readIssue l rest
  | 0x21 => match fields [3] with | some [issue] => some (.cancel l issue) | _ => none
  | 0x22 => match fields [3] with | some [issue] => some (.abortJob l issue) | _ => none
  | 0x23 => match fields [1, 1] with | some [a, b] => some (.divert l a b) | _ => none
  | 0x24 => match fields (List.replicate 17 1) with
    | some (session :: entries) => some (.setWindowMap l session (pairsOf entries))
    | _ => none
  | 0x25 => match fields [1, 2, 4, 1] with
    | some [index, rate, floor, step] => some (.setDiscount l index rate floor step)
    | _ => none
  | 0x30 => match fields [1, 1, 1, 2] with
    | some [kind, letter1, letter2, threshold] => some (.setStockKind l kind (byteOf letter1) (byteOf letter2) threshold)
    | _ => none
  | 0x31 => match fields [1, 3, 2] with | some [kind, first, count] => some (.receivePack l kind first count) | _ => none
  | 0x32 => match fields [1, 1] with | some [slot, printer] => some (.loadPack l slot printer) | _ => none
  | 0x33 => match fields [1] with | some [printer] => some (.unloadPack l printer) | _ => none
  | 0x34 => match fields [1] with | some [slot] => some (.closePack l slot) | _ => none
  | 0x35 => match fields [1] with | some [slot] => some (.purgePack l slot) | _ => none
  | 0x36 => match fields [1] with | some [slot] => some (.readPack l slot) | _ => none
  | 0x37 => match fields [] with | some [] => some (.readException l) | _ => none
  | 0x38 => match fields [1, 3] with | some [slot, serial] => some (.auditSet l slot serial) | _ => none
  | 0x39 => match fields [] with | some [] => some (.auditNext l) | _ => none
  | 0x40 => match fields [1, 1, 1, 1] with
    | some [printer, kind, feed, settle] => some (.setPrinter l printer kind feed settle)
    | _ => none
  | 0x41 => match fields [1] with | some [printer] => some (.release l printer) | _ => none
  | 0x42 => match fields [1] with | some [printer] => some (.takeOffline l printer) | _ => none
  | 0x43 => match fields [1] with | some [printer] => some (.bringOnline l printer) | _ => none
  | 0x44 => match fields [1] with | some [printer] => some (.printerReset l printer) | _ => none
  | 0x45 => match fields [] with | some [] => some (.readPrinters l) | _ => none
  | 0x46 => match fields [2] with | some [start] => some (.readFaults l start) | _ => none
  | 0x47 => match fields [2] with | some [entry] => some (.acknowledge l entry) | _ => none
  | 0x50 => match fields [1] with | some [session] => some (.cashupBegin l session) | _ => none
  | 0x51 => match fields [1, 1, 2] with
    | some [session, index, count] => some (.declareCash l session index count)
    | _ => none
  | 0x52 => match fields [1, 4] with | some [session, total] => some (.declareCard l session total) | _ => none
  | 0x53 => match fields [1, 2, 4] with
    | some [session, count, total] => some (.declareWarrants l session count total)
    | _ => none
  | 0x54 => match fields [1] with | some [session] => some (.cashupCommit l session) | _ => none
  | 0x55 => match fields [1] with | some [session] => some (.cashupAbandon l session) | _ => none
  | 0x56 => match fields [1, 2] with | some [index, face] => some (.setDenomination l index face) | _ => none
  | 0x57 => match fields [2] with | some [tolerance] => some (.setTolerance l tolerance) | _ => none
  | 0x58 => match fields [] with | some [] => some (.readCashup l) | _ => none
  | 0x59 => match fields [2] with | some [record] => some (.review l record) | _ => none
  | _ => none

/-- The line and the body of a request's frame, the code first (R203); none for a command that is no request. -/
def requestBody : Instr → Option (Line × List Byte)
  | .readNotices l => some (l, [0x01])
  | .setNoticeMask l mask => some (l, 0x02 :: be 2 mask.toNat)
  | .readOutcomes l => some (l, [0x03])
  | .abort l => some (l, [0x04])
  | .readClock l => some (l, [0x05])
  | .setClock l stamp day hour => some (l, 0x06 :: writeFields [4, 2, 1] [stamp, day, hour])
  | .signOn l clerk float => some (l, 0x10 :: writeFields [2, 4] [clerk, float])
  | .void l issue => some (l, 0x11 :: be 3 issue)
  | .lift l session amount => some (l, 0x12 :: writeFields [1, 4] [session, amount])
  | .setThresholds l high low => some (l, 0x13 :: writeFields [4, 4] [high, low])
  | .readTill l session => some (l, 0x14 :: be 1 session)
  | .readJournal l session position => some (l, 0x15 :: writeFields [1, 1] [session, position])
  | .writeBody l bytes => some (l, 0x16 :: bytes)
  | .issue l kind passengers base index tender coupons named text =>
    some (l, 0x20 :: writeFields issueWidths [kind, passengers, base, index, tender, coupons] ++
      (match named with | some p => be 1 p | none => []) ++ byteOf text.length :: text)
  | .cancel l issue => some (l, 0x21 :: be 3 issue)
  | .abortJob l issue => some (l, 0x22 :: be 3 issue)
  | .divert l a b => some (l, 0x23 :: writeFields [1, 1] [a, b])
  | .setWindowMap l session entries => some (l, 0x24 :: writeFields (List.replicate 17 1) (session :: ofPairs entries))
  | .setDiscount l index rate floor step => some (l, 0x25 :: writeFields [1, 2, 4, 1] [index, rate, floor, step])
  | .setStockKind l kind letter1 letter2 threshold =>
    some (l, 0x30 :: writeFields [1, 1, 1, 2] [kind, letter1.toNat, letter2.toNat, threshold])
  | .receivePack l kind first count => some (l, 0x31 :: writeFields [1, 3, 2] [kind, first, count])
  | .loadPack l slot printer => some (l, 0x32 :: writeFields [1, 1] [slot, printer])
  | .unloadPack l printer => some (l, 0x33 :: be 1 printer)
  | .closePack l slot => some (l, 0x34 :: be 1 slot)
  | .purgePack l slot => some (l, 0x35 :: be 1 slot)
  | .readPack l slot => some (l, 0x36 :: be 1 slot)
  | .readException l => some (l, [0x37])
  | .auditSet l slot serial => some (l, 0x38 :: writeFields [1, 3] [slot, serial])
  | .auditNext l => some (l, [0x39])
  | .setPrinter l printer kind feed settle => some (l, 0x40 :: writeFields [1, 1, 1, 1] [printer, kind, feed, settle])
  | .release l printer => some (l, 0x41 :: be 1 printer)
  | .takeOffline l printer => some (l, 0x42 :: be 1 printer)
  | .bringOnline l printer => some (l, 0x43 :: be 1 printer)
  | .printerReset l printer => some (l, 0x44 :: be 1 printer)
  | .readPrinters l => some (l, [0x45])
  | .readFaults l start => some (l, 0x46 :: be 2 start)
  | .acknowledge l entry => some (l, 0x47 :: be 2 entry)
  | .cashupBegin l session => some (l, 0x50 :: be 1 session)
  | .declareCash l session index count => some (l, 0x51 :: writeFields [1, 1, 2] [session, index, count])
  | .declareCard l session total => some (l, 0x52 :: writeFields [1, 4] [session, total])
  | .declareWarrants l session count total => some (l, 0x53 :: writeFields [1, 2, 4] [session, count, total])
  | .cashupCommit l session => some (l, 0x54 :: be 1 session)
  | .cashupAbandon l session => some (l, 0x55 :: be 1 session)
  | .setDenomination l index face => some (l, 0x56 :: writeFields [1, 2] [index, face])
  | .setTolerance l tolerance => some (l, 0x57 :: be 2 tolerance)
  | .readCashup l => some (l, [0x58])
  | .review l record => some (l, 0x59 :: be 2 record)
  | .unknownRequest _ _ => none
  | .rejected _ _ => none
  | .gapTimer _ => none
  | .frameSent _ => none
  | .engageAnswer _ _ => none
  | .liftAnswer _ _ => none
  | .advanceAnswer _ _ => none
  | .readStripAnswer _ _ => none
  | .printLineAnswer _ _ => none
  | .ejectAnswer _ _ => none
  | .enquireAnswer _ _ => none
  | .sensorChange _ _ => none
  | .printerFrameSetAside _ _ => none
  | .printerFrameDiscarded _ => none
  | .printerLineGap _ => none
  | .operationDeadline _ => none
  | .settleTime _ => none
  | .idleLiftTimer _ => none
  | .enquiryTimer _ => none
  | .printerResetWait _ _ => none
  | .drawerPulseEnd _ => none
  | .lampFlash _ => none
  | .clockTick => none
  | .dayRoll => none
  | .pfailAsserted => none
  | .rstAsserted => none
  | .startUp _ _ => none
  | .requestLineByteArrives _ _ => none
  | .printerLineByteArrives _ _ => none
  | .backupSupplyLost _ => none

end Sys2Proof.Machine
end

