-- ==== Sys2Proof/Machine/Records.lean ====
section
/-! DEFINITION. The records as their fields are sent, in the order of each (R206). -/

namespace Sys2Proof.Machine

/-- The absent serial (R201). -/
def noSerial : Nat := 0xFFFFFF

/-- A stamp and a booking day that may be absent (R201). -/
def stampDayBytes (x : Option Stamp) : List Byte :=
  match x with
  | some x => be 4 x.at_.toStamp ++ be 2 x.day
  | none => be 4 0xFFFFFFFF ++ be 2 0

/-- A count and four coupon places; an unused place holds slot 0 and the absent serial (R201). -/
def couponBytes (coupons : List Coupon) : List Byte :=
  byteOf coupons.length :: (List.range 4).flatMap fun i =>
    match coupons[i]? with
    | some c => byteOf (c.slot.val + 1) :: be 3 c.serial
    | none => byteOf 0 :: be 3 noSerial

/-- An exception record, 17 bytes (R206). -/
def ExceptionRecord.bytes (r : ExceptionRecord) : List Byte :=
  byteOf (r.slot.val + 1) :: be 3 r.first ++ be 2 r.span ++ byteOf r.reason.code :: byteOf (numberOf r.session) ::
    be 2 (r.clerk.getD 0) ++ be 2 r.made.day ++ be 4 r.made.at_.toStamp ++ [flagByte r.isRead]

/-- A fault entry, 27 bytes (R206). The set of later kinds is sent in two bytes. -/
def FaultEntry.bytes (e : FaultEntry) : List Byte :=
  be 2 e.number ++ byteOf (numberOf e.source) :: byteOf e.kind.code :: be 2 e.laterKinds.toNat ++
    byteOf e.repeats :: byteOf e.state.code :: be 4 e.openedAt.at_.toStamp ++ be 2 e.openedAt.day ++
    stampBytes e.clearedAt ++
    (match e.strip with
      | some x => be 3 x.expected ++ x.letter1 :: x.letter2 :: be 3 x.serial
      | none => be 3 noSerial ++ 0x2D :: 0x2D :: be 3 noSerial) ++
    [byteOf (numberOf e.session)]

/-- A journal entry, 36-48 bytes (R206). -/
def JournalEntry.bytes (e : JournalEntry) : List Byte :=
  be 3 e.issue ++ byteOf (e.kind.val + 1) :: byteOf e.tender.code :: be 4 e.total ++
    byteOf e.passengers :: byteOf e.index.val :: couponBytes e.coupons ++
    byteOf e.reference.length :: e.reference ++ be 4 e.settled.at_.toStamp ++ be 2 e.settled.day ++
    [if e.isVoided then 2 else 1]

/-- The flags of an outcome: bit 0 SUBSTITUTED, bit 1 TRUNCATED (R201). -/
def Outcome.flags (o : Outcome) : Byte := byteOf ((if o.substituted then 1 else 0) + (if o.truncated then 2 else 0))

/-- An outcome, 22 bytes (R206). -/
def Outcome.bytes (o : Outcome) : List Byte :=
  be 3 o.issue ++ byteOf o.result.code :: couponBytes o.coupons ++ [o.flags]

/-- The settled and voided figures of a tender (R206). -/
def Tally.settledBytes (t : Tally) : List Byte :=
  be 4 t.settledTotal ++ be 3 t.settledCount ++ be 4 t.voidedTotal ++ be 3 t.voidedCount

/-- The four counters of a kind (R206). -/
def KindCounters.bytes (c : KindCounters) : List Byte :=
  be 3 c.issued ++ be 3 c.voided ++ be 3 c.incomplete ++ be 3 c.failed

/-- The ten computed figures, in the order of R164 (R206). -/
def Figures.bytes (f : Figures) : List Byte :=
  [f.counted, f.expected, f.takings, f.cashVariance, f.cardTakings, f.cardVariance, f.warrantCountTakings,
    f.warrantCountVariance, f.warrantValueTakings, f.warrantValueVariance].flatMap (beSigned 5)

/-- A cash-up record, part 1, 178 bytes (R206). -/
def CashupRecord.part1 (r : CashupRecord) : List Byte :=
  be 2 r.number ++ byteOf (r.session.val + 1) :: be 2 (r.clerk.getD 0) ++ byteOf (r.owner.val + 1) ::
    stampDayBytes r.signOn ++ stampDayBytes (some r.commit) ++ be 4 r.float ++
    r.cash.settledBytes ++ r.card.settledBytes ++ r.warrant.settledBytes ++ be 4 r.liftsTotal ++ be 2 r.liftsCount ++
    (r.denominations.flatMap fun d => be 2 d.1 ++ be 2 d.2) ++
    be 4 r.cardDeclared ++ be 2 r.warrantCountDeclared ++ be 4 r.warrantTotalDeclared ++ r.figures.bytes

/-- The outcome code of a cash-up: 1 BALANCED, 2 EXCEPTION (R201). -/
def outcomeCode (isBalanced : Bool) : Byte := if isBalanced then 1 else 2

/-- A cash-up record, part 2, 104 bytes (R206). -/
def CashupRecord.part2 (r : CashupRecord) : List Byte :=
  be 2 r.tolerance ++ byteOf r.cashClass.code :: byteOf r.cardClass.code :: byteOf r.warrantClass.code ::
    outcomeCode r.isBalanced :: r.counters.toList.flatMap KindCounters.bytes ++
    [flagByte r.isRead, byteOf r.review.code]

end Sys2Proof.Machine
end

