-- ==== Sys2Proof/Machine/LineRequests.lean ====
section
/-! DEFINITION. The requests of the line interface and the clock, 01h-06h, and WRITE BODY (R67, R68, R183, R187, R189,
R191-R194); the frames answered UNKNOWN REQUEST or REJECTED (R178-R180).

A request's definition comes in three: `serve…`, the owner's checks and effect; `take…`, the request taken on its line;
`exec…`, the command's outcome. -/

namespace Sys2Proof.Machine

/-- The outcome of a command: every command of the TC-46 completes. -/
abbrev Result := Host.Outcome State Fault Refusal

/-- The lines take what waits for them: what follows a request that raised notices and touched no printer. The reply was
queued before it, so it goes before a notice of the same event (DESIGN CHOICE, log entry 36). -/
def State.closeLines (s : State) : State := s.pumpAll

/-! ## READ NOTICES (R187) -/

def serveReadNotices (l : Line) (s : State) : Served :=
  accept (s.putLine l { s.line l with pendingSet := 0 })
    (be 2 (s.line l).pendingSet.toNat ++ [byteOf s.startResult.code])

def takeReadNotices (l : Line) (s : State) : State := s.request l 0x01 (·.pump l) (serveReadNotices l)

def execReadNotices (l : Line) (s : State) : Result := .next (takeReadNotices l s)

/-! ## SET NOTICE MASK (R187) -/

def serveSetNoticeMask (l : Line) (mask : BitVec 16) (s : State) : Served :=
  accept (s.putLine l { s.line l with mask := mask }) (be 2 mask.toNat ++ be 2 (s.line l).pendingSet.toNat)

def takeSetNoticeMask (l : Line) (mask : BitVec 16) (s : State) : State :=
  s.request l 0x02 (·.pump l) (serveSetNoticeMask l mask)

def execSetNoticeMask (l : Line) (mask : BitVec 16) (s : State) : Result := .next (takeSetNoticeMask l mask s)

/-! ## READ OUTCOMES (R189) -/

def serveReadOutcomes (l : Line) (s : State) : Served :=
  let list := (s.line l).outcomes
  accept (s.putLine l { s.line l with outcomes := [] }) (byteOf list.length :: list.flatMap Outcome.bytes)

def takeReadOutcomes (l : Line) (s : State) : State := s.request l 0x03 (·.pump l) (serveReadOutcomes l)

def execReadOutcomes (l : Line) (s : State) : Result := .next (takeReadOutcomes l s)

/-! ## ABORT (R183, R10, R130) -/

/-- The owner of a deferred request stops its work (R10, R130). -/
def State.stopDeferred (s : State) : Deferred → State
  | .loadPack p => s.abortLoad p
  | .printerReset p => s.mapCtl p fun c => { c with resetWait := false }

def serveAbort (l : Line) (s : State) : Served :=
  match (s.line l).deferred with
  | none => accept s []
  | some d => accept ((s.stopDeferred d).endDeferred .aborted []) []

def takeAbort (l : Line) (s : State) : State := s.request l 0x04 State.afterEvent (serveAbort l)

def execAbort (l : Line) (s : State) : Result := .next (takeAbort l s)

/-! ## READ CLOCK and SET CLOCK (R193, R194) -/

/-- The five items of the clock as a reply carries them (R201). -/
def Clock.bytes (c : Clock) : List Byte :=
  be 4 c.now.toStamp ++ be 2 c.day ++ [byteOf c.rollHour, flagByte c.isSet]

def serveReadClock (_ : Line) (s : State) : Served := accept s s.clock.bytes

def takeReadClock (l : Line) (s : State) : State := s.request l 0x05 (·.pump l) (serveReadClock l)

def execReadClock (l : Line) (s : State) : Result := .next (takeReadClock l s)

def serveSetClock (_ : Line) (stamp day rollHour : Nat) (s : State) : Served :=
  match DateTime.ofStamp stamp with
  | none => refuse s .badParameter
  | some now =>
    if day < 1 ∨ 9999 < day ∨ 23 < rollHour then refuse s .badParameter
    else
      let c : Clock := { now := now, day := day, rollHour := rollHour, isSet := true }
      accept ((s.putClock c).raise .clockSet .nothing) c.bytes

def takeSetClock (l : Line) (stamp day rollHour : Nat) (s : State) : State :=
  s.request l 0x06 State.closeLines (serveSetClock l stamp day rollHour)

def execSetClock (l : Line) (stamp day rollHour : Nat) (s : State) : Result := .next (takeSetClock l stamp day rollHour s)

/-! ## WRITE BODY (R67, R68) -/

def serveWriteBody (l : Line) (bytes : List Byte) (s : State) : Served :=
  if 192 < bytes.length then refuse s .badParameter
  else accept (s.putLine l { s.line l with body := bytes }) [byteOf bytes.length]

def takeWriteBody (l : Line) (bytes : List Byte) (s : State) : State := s.request l 0x16 (·.pump l) (serveWriteBody l bytes)

def execWriteBody (l : Line) (bytes : List Byte) (s : State) : Result := .next (takeWriteBody l bytes s)

/-! ## Frames that are no request (R178-R180) -/

/-- A well-checked frame whose code names no request is answered by the line's tests 1-3 (R180). A frame with a code of
R203 is not this event (log entry 17). -/
def execUnknownRequest (l : Line) (code : Byte) (s : State) : Result :=
  .next (if code.toNat ∈ requestCodes then s else s.request l code (·.pump l) (refuse · .unknownRequest))

/-- A frame with a bad length or check is answered REJECTED, with the first body byte received or 80h, unless 4 or more
replies wait (R178, R179). -/
def State.rejectFrame (s : State) (l : Line) (first : Option Byte) : State :=
  if s.phase = .halted then s
  else
    let s := s.frameEnded l
    if s.replyFull l then s else (s.queueReply l ⟨replyBody (first.getD 0) .rejected [], none⟩).pump l

def execRejected (l : Line) (first : Option Byte) (s : State) : Result := .next (s.rejectFrame l first)

end Sys2Proof.Machine
end

