-- ==== Sys2Proof/Machine/CashupRequests.lean ====
section
/-! DEFINITION. The requests of cash-up, 50h-59h: CASHUP BEGIN, the three DECLAREs, CASHUP COMMIT, CASHUP ABANDON, SET
DENOMINATION, SET TOLERANCE, READ CASHUP, REVIEW (R155-R172). -/

namespace Sys2Proof.Machine

/-! ## CASHUP BEGIN (R156) -/

def serveCashupBegin (l : Line) (session : Nat) (s : State) : Served :=
  match reachSession l session with
  | .error status => refuse s status
  | .ok n =>
    let x := s.session n
    match x.state with
    | .closed => refuse s .noSession
    | .cashup => refuse s .inCashup
    | .opened =>
      if 0 < x.outstanding then refuse s .pendingJobs
      else
        accept ((s.putSession n { x with state := .cashup, owner := some l, declared := .zero }).pulse n)
          [byteOf (n.val + 1), byteOf (l.val + 1)]

def takeCashupBegin (l : Line) (session : Nat) (s : State) : State :=
  s.request l 0x50 (·.pump l) (serveCashupBegin l session)

def execCashupBegin (l : Line) (session : Nat) (s : State) : Result := .next (takeCashupBegin l session s)

/-! ## Declarations (R161-R163) -/

/-- The checks of R155 and of the owner: the session reached, in CASHUP and owned by the line (R161, R164). -/
def State.ownedSession (s : State) (l : Line) (session : Nat) : Except Status SessionId :=
  match reachSession l session with
  | .error status => .error status
  | .ok n =>
    if (s.session n).state ≠ .cashup then .error .wrongState
    else if (s.session n).owner ≠ some l then .error .notOwner
    else .ok n

/-- Counted cash: the sum over the twelve indexes of count × face (R162, R164). -/
def countedCash (counts faces : Vector Nat 12) : Nat := (List.zipWith (· * ·) counts.toList faces.toList).sum

def serveDeclareCash (l : Line) (session index count : Nat) (s : State) : Served :=
  match s.ownedSession l session with
  | .error status => refuse s status
  | .ok n =>
    if h : index < 12 then
      if s.till.denominations[index] = 0 ∨ 65535 < count then refuse s .badParameter
      else
        let x := s.session n
        let d := { x.declared with cash := x.declared.cash.set index count }
        accept (s.putSession n { x with declared := d })
          (byteOf index :: be 2 count ++ beSigned 5 (countedCash d.cash s.till.denominations))
    else refuse s .badParameter

def takeDeclareCash (l : Line) (session index count : Nat) (s : State) : State :=
  s.request l 0x51 (·.pump l) (serveDeclareCash l session index count)

def execDeclareCash (l : Line) (session index count : Nat) (s : State) : Result :=
  .next (takeDeclareCash l session index count s)

def serveDeclareCard (l : Line) (session total : Nat) (s : State) : Served :=
  match s.ownedSession l session with
  | .error status => refuse s status
  | .ok n =>
    if 99999999 < total then refuse s .badParameter
    else
      let x := s.session n
      accept (s.putSession n { x with declared := { x.declared with card := total } }) (be 4 total)

def takeDeclareCard (l : Line) (session total : Nat) (s : State) : State :=
  s.request l 0x52 (·.pump l) (serveDeclareCard l session total)

def execDeclareCard (l : Line) (session total : Nat) (s : State) : Result := .next (takeDeclareCard l session total s)

def serveDeclareWarrants (l : Line) (session count total : Nat) (s : State) : Served :=
  match s.ownedSession l session with
  | .error status => refuse s status
  | .ok n =>
    if 999 < count ∨ 99999999 < total then refuse s .badParameter
    else
      let x := s.session n
      accept (s.putSession n { x with declared := { x.declared with warrantCount := count, warrantTotal := total } })
        (be 2 count ++ be 4 total)

def takeDeclareWarrants (l : Line) (session count total : Nat) (s : State) : State :=
  s.request l 0x53 (·.pump l) (serveDeclareWarrants l session count total)

def execDeclareWarrants (l : Line) (session count total : Nat) (s : State) : Result :=
  .next (takeDeclareWarrants l session count total s)

/-! ## CASHUP COMMIT (R164-R169) -/

/-- The computed figures of a session (R164). -/
def Session.figures (x : Session) (faces : Vector Nat 12) : Figures :=
  let counted : Int := countedCash x.declared.cash faces
  let expected : Int := (x.float : Int) + x.cash.settledTotal - x.cash.voidedTotal - x.liftsTotal
  let card : Int := (x.card.settledTotal : Int) - x.card.voidedTotal
  let warrants : Int := (x.warrant.settledCount : Int) - x.warrant.voidedCount
  let value : Int := (x.warrant.settledTotal : Int) - x.warrant.voidedTotal
  { counted := counted, expected := expected, takings := counted - x.float, cashVariance := counted - expected,
    cardTakings := card, cardVariance := x.declared.card - card,
    warrantCountTakings := warrants, warrantCountVariance := x.declared.warrantCount - warrants,
    warrantValueTakings := value, warrantValueVariance := x.declared.warrantTotal - value }

/-- The class of a cash or card variance under a tolerance (R165). -/
def classOf (tolerance : Nat) (v : Int) : CashupClass :=
  if v > tolerance then .over else if v < -tolerance then .short else .balanced

/-- The class of the warrants (R165). -/
def Figures.warrantClass (f : Figures) : CashupClass :=
  if f.warrantCountVariance = 0 ∧ f.warrantValueVariance = 0 then .balanced else .mismatch

/-- The outcome is BALANCED when all three classes are (R165). -/
def Figures.isBalanced (f : Figures) (tolerance : Nat) : Bool :=
  classOf tolerance f.cashVariance == .balanced && classOf tolerance f.cardVariance == .balanced &&
    f.warrantClass == .balanced

/-- The record a commit makes (R166). -/
def State.cashupRecord (s : State) (n : SessionId) (owner : Line) : CashupRecord :=
  let x := s.session n
  let f := x.figures s.till.denominations
  { number := s.till.nextCashup, session := n, clerk := x.clerk, owner := owner, signOn := x.signOn, commit := s.stampNow,
    float := x.float, cash := x.cash, card := x.card, warrant := x.warrant, liftsTotal := x.liftsTotal,
    liftsCount := x.liftsCount, denominations := s.till.denominations.toList.zip x.declared.cash.toList,
    cardDeclared := x.declared.card, warrantCountDeclared := x.declared.warrantCount,
    warrantTotalDeclared := x.declared.warrantTotal, figures := f, tolerance := s.till.tolerance,
    cashClass := classOf s.till.tolerance f.cashVariance, cardClass := classOf s.till.tolerance f.cardVariance,
    warrantClass := f.warrantClass, isBalanced := f.isBalanced s.till.tolerance, counters := x.counters, isRead := false,
    review := if f.isBalanced s.till.tolerance then .notNeeded else .needed }

/-- A record that may be dropped (R167). -/
def CashupRecord.droppable (r : CashupRecord) : Bool := r.isRead && r.review != .needed

/-- The cash-up store is full with no record that may be dropped (R164, R168). -/
def storeFull (cashups : List CashupRecord) : Bool := decide (24 ≤ cashups.length) && !cashups.any (·.droppable)

/-- The store with room for a record: the oldest record that may be dropped leaves a full one (R168). -/
def dropForRoom (cashups : List CashupRecord) : List CashupRecord :=
  if 24 ≤ cashups.length then dropFirst (·.droppable) cashups else cashups

/-- The commit, one update of the retained store (R169). -/
def State.commitCashup (s : State) (n : SessionId) (r : CashupRecord) : State :=
  let cashups := dropForRoom s.till.cashups ++ [r]
  let s1 := s.putSession n { s.session n with state := .closed, owner := none }
  s1.putTill { s1.till with
    cashups := cashups, nextCashup := nextNumber (cashups.map (·.number)) 25 s.till.nextCashup }

/-- The result fields of a commit (R169). -/
def CashupRecord.replyFields (r : CashupRecord) : List Byte :=
  be 2 r.number ++ outcomeCode r.isBalanced :: byteOf r.cashClass.code :: byteOf r.cardClass.code ::
    byteOf r.warrantClass.code ::
    [r.figures.counted, r.figures.expected, r.figures.takings, r.figures.cashVariance, r.figures.cardVariance,
      r.figures.warrantCountVariance, r.figures.warrantValueVariance].flatMap (beSigned 5)

def serveCashupCommit (l : Line) (session : Nat) (s : State) : Served :=
  match s.ownedSession l session with
  | .error status => refuse s status
  | .ok n =>
    if storeFull s.till.cashups then refuse s .storeFull
    else
      let r := s.cashupRecord n l
      accept ((s.commitCashup n r).raise .cashupStored (.session n)) r.replyFields

def takeCashupCommit (l : Line) (session : Nat) (s : State) : State :=
  s.request l 0x54 State.closeLines (serveCashupCommit l session)

def execCashupCommit (l : Line) (session : Nat) (s : State) : Result := .next (takeCashupCommit l session s)

/-! ## CASHUP ABANDON (R171) -/

def serveCashupAbandon (l : Line) (session : Nat) (s : State) : Served :=
  match reachSession l session with
  | .error status => refuse s status
  | .ok n =>
    let x := s.session n
    if x.state ≠ .cashup then refuse s .wrongState
    else if l ≠ officeLine ∧ x.owner ≠ some l then refuse s .notOwner
    else accept (s.putSession n { x with state := .opened, owner := none, declared := .zero }) []

def takeCashupAbandon (l : Line) (session : Nat) (s : State) : State :=
  s.request l 0x55 (·.pump l) (serveCashupAbandon l session)

def execCashupAbandon (l : Line) (session : Nat) (s : State) : Result := .next (takeCashupAbandon l session s)

/-! ## SET DENOMINATION and SET TOLERANCE (R159, R160) -/

/-- Another entry of the table holds a face (check 2 of R159). -/
def faceElsewhere (faces : Vector Nat 12) (index face : Nat) : Bool :=
  (List.range 12).any fun i => i != index && faces.toList[i]? == some face

def serveSetDenomination (_ : Line) (index face : Nat) (s : State) : Served :=
  if h : index < 12 then
    if 10000 < face then refuse s .badParameter
    else if face ≠ 0 ∧ faceElsewhere s.till.denominations index face = true then refuse s .badParameter
    else if s.till.sessions.toList.any (·.state == .cashup) then refuse s .inUse
    else
      accept (s.putTill { s.till with denominations := s.till.denominations.set index face }) (byteOf index :: be 2 face)
  else refuse s .badParameter

def takeSetDenomination (l : Line) (index face : Nat) (s : State) : State :=
  s.request l 0x56 (·.pump l) (serveSetDenomination l index face)

def execSetDenomination (l : Line) (index face : Nat) (s : State) : Result := .next (takeSetDenomination l index face s)

def serveSetTolerance (_ : Line) (tolerance : Nat) (s : State) : Served :=
  if 10000 < tolerance then refuse s .badParameter
  else accept (s.putTill { s.till with tolerance := tolerance }) (be 2 tolerance)

def takeSetTolerance (l : Line) (tolerance : Nat) (s : State) : State :=
  s.request l 0x57 (·.pump l) (serveSetTolerance l tolerance)

def execSetTolerance (l : Line) (tolerance : Nat) (s : State) : Result := .next (takeSetTolerance l tolerance s)

/-! ## READ CASHUP and REVIEW (R170, R172, R203) -/

/-- The store with its oldest UNREAD record READ (R170). -/
def markOldestRead : List CashupRecord → List CashupRecord
  | [] => []
  | r :: rest => if r.isRead then r :: markOldestRead rest else { r with isRead := true } :: rest

/-- The record is returned in two frames, as it stood UNREAD, and then marked READ (R203, log entry 15). -/
def serveReadCashup (_ : Line) (s : State) : Served :=
  match s.till.cashups.find? (!·.isRead) with
  | none => refuse s .notFound
  | some r =>
    ⟨s.putTill { s.till with cashups := markOldestRead s.till.cashups },
      some ⟨.ok, 1 :: r.part1, some (2 :: r.part2)⟩⟩

def takeReadCashup (l : Line) (s : State) : State := s.request l 0x58 (·.pump l) (serveReadCashup l)

def execReadCashup (l : Line) (s : State) : Result := .next (takeReadCashup l s)

/-- The store with the record of a number DONE. -/
def reviewRecord (cashups : List CashupRecord) (number : Nat) : List CashupRecord :=
  cashups.map fun r => if r.number = number then { r with review := .done } else r

/-- A record already DONE is left as it is (R172), which is no update of the retained store (log entry 19). -/
def serveReview (_ : Line) (record : Nat) (s : State) : Served :=
  if record < 1 ∨ 65535 < record then refuse s .badParameter
  else match s.till.cashups.find? (·.number == record) with
    | none => refuse s .notFound
    | some r =>
      if r.review = .notNeeded then refuse s .wrongState
      else if r.review = .done then accept s (be 2 record)
      else accept (s.putTill { s.till with cashups := reviewRecord s.till.cashups record }) (be 2 record)

def takeReview (l : Line) (record : Nat) (s : State) : State := s.request l 0x59 (·.pump l) (serveReview l record)

def execReview (l : Line) (record : Nat) (s : State) : Result := .next (takeReview l record s)

end Sys2Proof.Machine
end

