-- ==== Sys2Proof/Machine/PrinterRequests.lean ====
section
/-! DEFINITION. The requests of the printer controllers and the fault log, 40h-47h: SET PRINTER, RELEASE, TAKE OFFLINE,
BRING ONLINE, PRINTER RESET, READ PRINTERS, READ FAULTS, ACKNOWLEDGE (R110, R127-R131, R147, R148). -/

namespace Sys2Proof.Machine

/-! ## SET PRINTER (R110) -/

/-- A printer in use: a loaded pack, a job in a lane, or a job in progress (check 3 of R110). -/
def State.inUse (s : State) (p : PrinterId) : Bool :=
  (s.loaded p).isSome || !(s.lane p).office.isEmpty || !(s.lane p).window.isEmpty || (s.inProgress p).isSome

def serveSetPrinter (_ : Line) (printer kind feed settle : Nat) (s : State) : Served :=
  match printerOf printer, configKindOf kind with
  | some p, some k =>
    if 3 < feed ∨ 3 < settle then refuse s .badParameter
    else if k.any fun k => (s.kind k).isUndefined then refuse s .badParameter
    else if s.inUse p then refuse s .inUse
    else
      accept ((s.putConfig p ⟨k, feed, settle⟩).raise .printerChange (.printer p))
        [byteOf kind, byteOf feed, byteOf settle]
  | _, _ => refuse s .badParameter

def takeSetPrinter (l : Line) (printer kind feed settle : Nat) (s : State) : State :=
  s.request l 0x40 State.afterEvent (serveSetPrinter l printer kind feed settle)

def execSetPrinter (l : Line) (printer kind feed settle : Nat) (s : State) : Result :=
  .next (takeSetPrinter l printer kind feed settle s)

/-! ## RELEASE (R129, R145) -/

/-- The open cause of a printer is NO PACK (R129). -/
def State.heldForNoPack (s : State) (p : PrinterId) : Bool :=
  match s.openEntry p with
  | some e => e.kind == .noPack
  | none => false

def serveRelease (_ : Line) (printer : Nat) (s : State) : Served :=
  match printerOf printer with
  | none => refuse s .badParameter
  | some p =>
    if (s.ctl p).state ≠ .held then refuse s .wrongState
    else if s.heldForNoPack p then refuse s .wrongState
    else
      let s1 := (s.clearEntry p).mapCtl p fun c => { c with held := false, position := .unknown }
      accept (s1.setPrinterState p .idle) []

def takeRelease (l : Line) (printer : Nat) (s : State) : State := s.request l 0x41 State.afterEvent (serveRelease l printer)

def execRelease (l : Line) (printer : Nat) (s : State) : Result := .next (takeRelease l printer s)

/-! ## TAKE OFFLINE (R127) -/

def serveTakeOffline (_ : Line) (printer : Nat) (s : State) : Served :=
  match printerOf printer with
  | none => refuse s .badParameter
  | some p =>
    if (s.ctl p).state.busy then refuse s .inProgress
    else if (s.ctl p).state = .offline ∨ (s.ctl p).state = .absent then refuse s .wrongState
    else accept ((s.setPrinterState p .offline).liftOffline p) [byteOf PrinterState.offline.code]

def takeTakeOffline (l : Line) (printer : Nat) (s : State) : State :=
  s.request l 0x42 State.afterEvent (serveTakeOffline l printer)

def execTakeOffline (l : Line) (printer : Nat) (s : State) : Result := .next (takeTakeOffline l printer s)

/-! ## BRING ONLINE (R128) -/

/-- A held cause is open on a printer: its open entry is of a held kind (R126, R128). -/
def State.heldCauseOpen (s : State) (p : PrinterId) : Bool :=
  match s.openEntry p with
  | some e => e.kind.isHeldCause
  | none => false

/-- The state an OFFLINE printer is brought to (R128). -/
def State.onlineState (s : State) (p : PrinterId) : PrinterState :=
  if (s.ctl p).faultOpen then .fault else if (s.ctl p).held || s.heldCauseOpen p then .held else .idle

def serveBringOnline (_ : Line) (printer : Nat) (s : State) : Served :=
  match printerOf printer with
  | none => refuse s .badParameter
  | some p =>
    if (s.ctl p).state ≠ .offline then refuse s .wrongState
    else
      let st := s.onlineState p
      accept ((s.setPrinterState p st).sendOp p .enquire .enquiry) [byteOf st.code]

def takeBringOnline (l : Line) (printer : Nat) (s : State) : State :=
  s.request l 0x43 State.afterEvent (serveBringOnline l printer)

def execBringOnline (l : Line) (printer : Nat) (s : State) : Result := .next (takeBringOnline l printer s)

/-! ## PRINTER RESET (R130) -/

/-- The controller's account of the printer starts again (R130). -/
def Controller.resetAccount (c : Controller) : Controller :=
  { c with
    held := false, missed := 0, sensors := none, position := .unknown, head := .lifted, outstanding := none,
    waiting := [], expansion := [], linesSent := 0, settling := false, faultOpen := false, linkLost := false,
    load := none, resetWait := true }

/-- The first event of PRINTER RESET (R98, R130, R146), and the ENQUIRE that begins its wait. -/
def State.resetPrinter (s : State) (p : PrinterId) : State :=
  let s1 := ((s.endJob p .printerReset).clearEntry p).mapCtl p (·.resetAccount)
  (s1.setPrinterState p .absent).sendOp p .enquire .enquiry

def servePrinterReset (_ : Line) (printer : Nat) (s : State) : Served :=
  match printerOf printer with
  | none => refuse s .badParameter
  | some p => ⟨(s.holdDeferred (.printerReset p)).resetPrinter p, none⟩

def takePrinterReset (l : Line) (printer : Nat) (s : State) : State :=
  s.request l 0x44 State.afterEvent (servePrinterReset l printer)

def execPrinterReset (l : Line) (printer : Nat) (s : State) : Result := .next (takePrinterReset l printer s)

/-! ## READ PRINTERS (R131) -/

/-- The slot, state and cursor of a printer's loaded pack; absent values where there is none, and for the state, which
has no absent value, a free byte (log entry 2). -/
def State.loadedBytes (s : State) (p : PrinterId) : List Byte :=
  match s.loadedPack p with
  | some (slot, k) => byteOf (slot.val + 1) :: byteOf k.state.code :: be 3 k.cursor
  | none => 0 :: Config.unstatedByte s.draws (p.val * 25 + 8) :: be 3 noSerial

/-- The job in progress of a printer as session, issue number, state, coupons printed and failure count; with none,
session 0 and free bytes (log entry 2). -/
def State.jobBytes (s : State) (p : PrinterId) : List Byte :=
  match s.inProgress p with
  | some g =>
    byteOf (g.job.session.val + 1) :: be 3 g.job.issue ++
      [byteOf g.job.state.code, byteOf g.job.printed.length, byteOf g.job.failures]
  | none => 0 :: (List.range 6).map fun i => Config.unstatedByte s.draws (p.val * 25 + 13 + i)

/-- The fields of READ PRINTERS for one printer, 25 bytes (R131). -/
def State.printerBytes (s : State) (p : PrinterId) : List Byte :=
  let c := s.ctl p
  let f := s.config p
  [byteOf c.state.code, byteOf c.head.code, byteOf c.position.code, flagByte c.held,
    byteOf (numberOf f.kind), byteOf f.feedClass, byteOf f.settleClass] ++
  s.loadedBytes p ++ s.jobBytes p ++
  [byteOf (s.lane p).office.length, byteOf (s.lane p).window.length] ++
  be 2 ((s.openEntry p).elim 0 (·.number)) ++
  [c.sensors.elim 0xFF Sensors.toByte, byteOf c.lamp.code]

def serveReadPrinters (_ : Line) (s : State) : Served :=
  accept (s.putDraws (s.draws + 1)) (printers.flatMap s.printerBytes)

def takeReadPrinters (l : Line) (s : State) : State := s.request l 0x45 (·.pump l) (serveReadPrinters l)

def execReadPrinters (l : Line) (s : State) : Result := .next (takeReadPrinters l s)

/-! ## READ FAULTS (R148) -/

/-- The entries READ FAULTS begins with: all for 0, those from the entry of that number on, none for the next entry
number; `none` for any other number (R148). -/
def State.faultsFrom (s : State) (start : Nat) : Option (List FaultEntry) :=
  if start = 0 then some s.log.entries
  else match s.log.entries.dropWhile (·.number != start) with
    | [] => if start = s.log.next then some [] else none
    | entries => some entries

/-- The fields of READ FAULTS: the next number, the counts held, OPEN and replied, the entries (R148, R203). -/
def State.faultBytes (s : State) (entries : List FaultEntry) : List Byte :=
  be 2 s.log.next ++ byteOf s.log.entries.length :: byteOf (s.log.entries.filter (·.state == .opened)).length ::
    byteOf entries.length :: entries.flatMap FaultEntry.bytes

def serveReadFaults (_ : Line) (start : Nat) (s : State) : Served :=
  match s.faultsFrom start with
  | some entries => accept s (s.faultBytes (entries.take 4))
  | none => ⟨s, some ⟨.notFound, s.faultBytes [], none⟩⟩

def takeReadFaults (l : Line) (start : Nat) (s : State) : State := s.request l 0x46 (·.pump l) (serveReadFaults l start)

def execReadFaults (l : Line) (start : Nat) (s : State) : Result := .next (takeReadFaults l start s)

/-! ## ACKNOWLEDGE (R147) -/

/-- The log with the entry of a number ACKNOWLEDGED. -/
def acknowledgeEntry (entries : List FaultEntry) (number : Nat) : List FaultEntry :=
  entries.map fun e => if e.number = number then { e with state := .acknowledged } else e

def serveAcknowledge (_ : Line) (entry : Nat) (s : State) : Served :=
  if entry < 1 ∨ 65535 < entry then refuse s .badParameter
  else match s.log.entries.find? (·.number == entry) with
    | none => refuse s .notFound
    | some e =>
      if e.state = .opened then refuse s .wrongState
      else accept (s.setEntries (acknowledgeEntry s.log.entries entry)) (be 2 entry)

def takeAcknowledge (l : Line) (entry : Nat) (s : State) : State := s.request l 0x47 (·.pump l) (serveAcknowledge l entry)

def execAcknowledge (l : Line) (entry : Nat) (s : State) : Result := .next (takeAcknowledge l entry s)

end Sys2Proof.Machine
end

