-- ==== Sys2Proof/Machine/QueueRequests.lean ====
section
/-! DEFINITION. The requests of the print queue and fare units, 20h-25h: ISSUE with its routing, CANCEL, ABORT JOB, DIVERT,
SET WINDOW MAP, SET DISCOUNT (R29, R30, R47-R50, R69, R82-R88, R99-R101). -/

namespace Sys2Proof.Machine

/-! ## ISSUE: parameters (R84) -/

/-- The terms of an ISSUE whose parameters are in range. `printer` is the office's named printer. -/
structure IssueTerms where
  kind : Kind
  tender : Tender
  passengers : Nat
  base : Nat
  index : Fin 16
  coupons : Nat
  printer : Option PrinterId
  reference : List Byte
  deriving DecidableEq, Repr

/-- The text a tender allows: 1-12 characters for WARRANT, at most 8 for CARD, none for CASH; each 20h-7Eh (R84). -/
def textAllowed (t : Tender) (text : List Byte) : Bool :=
  text.all printable && match t with
    | .warrant => 1 ≤ text.length && text.length ≤ 12
    | .card => text.length ≤ 8
    | .cash => text.isEmpty

/-- The named printer as the line has it: none on a window line; on the office line 1-4 (R84). -/
def namedPrinter (l : Line) (named : Option Nat) : Option (Option PrinterId) :=
  if l = officeLine then
    match named with
    | some x => (printerOf x).map some
    | none => none
  else some none

/-- Check 3 of ISSUE (R84): its terms, or none for BAD PARAMETER. -/
def State.issueTerms (s : State) (l : Line) (kind passengers base index tender coupons : Nat) (named : Option Nat)
    (text : List Byte) : Option IssueTerms :=
  match kindOf kind, Tender.ofCode tender, namedPrinter l named with
  | some k, some t, some printer =>
    if h : index < 16 then
      if (s.kind k).isUndefined = false ∧ 1 ≤ passengers ∧ passengers ≤ 9 ∧ base ≤ 99999 ∧ 1 ≤ coupons ∧ coupons ≤ 4 ∧
          textAllowed t text = true ∧ (s.line l).body ≠ [] then
        some ⟨k, t, passengers, base, ⟨index, h⟩, coupons, printer, text⟩
      else none
    else none
  | _, _, _ => none

/-! ## ISSUE: routing (R86-R88) -/

/-- A printer that is configured for the kind and is neither ABSENT nor OFFLINE (R87, R88). -/
def State.standsFor (s : State) (p : PrinterId) (k : Kind) : Bool :=
  (s.config p).kind == some k && (s.ctl p).state != .absent && (s.ctl p).state != .offline

/-- The tests of R86, in their order, on the printers an entry names. -/
def State.windowTests (s : State) (e : MapEntry) (k : Kind) : List (Option PrinterId × Bool) :=
  let test (p : Option PrinterId) (serves : PrinterId → Bool) : Option PrinterId × Bool :=
    (p, match p with | some q => serves q && s.windowRoom q | none => false)
  [test e.primary (s.working · k), test e.alternate (s.working · k),
    test e.primary (s.waitingFor · k), test e.alternate (s.waitingFor · k)]

/-- A printer that R87 finds full. -/
def State.windowFull (s : State) (p : Option PrinterId) (k : Kind) : Bool :=
  match p with
  | some q => s.standsFor q k && !s.windowRoom q
  | none => false

/-- The printer a window's ISSUE is routed to (R86, R87). -/
def State.routeWindow (s : State) (e : MapEntry) (k : Kind) : Except Status PrinterId :=
  match (s.windowTests e k).find? (·.2) with
  | some (some p, _) => .ok p
  | _ => if s.windowFull e.primary k || s.windowFull e.alternate k then .error .queueFull else .error .noPrinter

/-- The printer an office ISSUE is routed to (R88). -/
def State.routeOffice (s : State) (p : PrinterId) (k : Kind) : Except Status PrinterId :=
  if (s.working p k || s.waitingFor p k) && s.officeRoom p then .ok p
  else if s.standsFor p k && !s.officeRoom p then .error .queueFull
  else .error .noPrinter

/-- Routing, by the line (R86, R88). -/
def State.route (s : State) (l : Line) (t : IssueTerms) : Except Status PrinterId :=
  match t.printer with
  | some p => s.routeOffice p t.kind
  | none => if h : l.val < 6 then s.routeWindow s.maps[l.val][t.kind] t.kind else .error .noPrinter

/-! ## ISSUE: acceptance (R47-R49, R85) -/

/-- The issue number after a number (R47). -/
def nextIssueNumber (n : Nat) : Nat := if n = 99999 then 1 else n + 1

/-- A job joins the end of its lane on a printer: the office lane for session 7, else the window lane (R80, R89). -/
def Lanes.join (x : Lanes) (j : Job) : Lanes :=
  if j.session = officeLine then { x with office := x.office ++ [j] } else { x with window := x.window ++ [j] }

/-- The job record of an accepted ISSUE (R80, R85). -/
def State.newJob (s : State) (l : Line) (t : IssueTerms) (p : PrinterId) : Job :=
  let e := s.discounts[t.index]
  { session := l, issue := (s.session l).nextIssue, kind := t.kind, tender := t.tender, passengers := t.passengers,
    index := t.index, charge := perPassenger t.base e, total := chargedTotal t.base e t.passengers,
    requested := t.coupons, printed := [], failures := 0, reference := t.reference, body := (s.line l).body,
    state := .queued, printer := p, reservation := 0, abortMark := false, substituted := false, truncated := false }

/-- The acceptance of an ISSUE, one event (R85). -/
def State.acceptIssue (s : State) (l : Line) (t : IssueTerms) (p : PrinterId) : State :=
  let j := s.newJob l t p
  let x := s.session l
  let x' := { x.setTally t.tender ((x.tally t.tender).addPending j.total) with nextIssue := nextIssueNumber x.nextIssue }
  (s.putSession l x').putLane p ((s.lane p).join j)

/-- The tally limit of a tender (R48, check 5 of R83). -/
def Tally.exceeds (t : Tally) (total : Nat) : Bool :=
  decide (99999999 < t.settledTotal + t.pendingTotal + total) || decide (999999 < t.settledCount + t.pendingCount + 1)

/-- An ISSUE names a printer on the office line, and none on a window line (R203). -/
def issueFits (l : Line) (named : Option Nat) (text : List Byte) : Bool :=
  (named.isSome == decide (l = officeLine)) && decide (text.length ≤ 12)

def serveIssue (l : Line) (kind passengers base index tender coupons : Nat) (named : Option Nat) (text : List Byte)
    (s : State) : Served :=
  if !issueFits l named text then refuse s .badParameter
  else
    let x := s.session l
    match x.state with
    | .closed => refuse s .noSession
    | .cashup => refuse s .inCashup
    | .opened =>
      if !s.clock.isSet then refuse s .clockNotSet
      else match s.issueTerms l kind passengers base index tender coupons named text with
        | none => refuse s .badParameter
        | some t =>
          if 4 ≤ x.outstanding then refuse s .queueFull
          else if (x.tally t.tender).exceeds (chargedTotal t.base s.discounts[t.index] t.passengers) then
            refuse s .tallyLimit
          else match s.route l t with
            | .error status => refuse s status
            | .ok p =>
              accept (s.acceptIssue l t p)
                (be 3 x.nextIssue ++ be 4 (chargedTotal t.base s.discounts[t.index] t.passengers) ++ [byteOf (p.val + 1)])

def takeIssue (l : Line) (kind passengers base index tender coupons : Nat) (named : Option Nat) (text : List Byte)
    (s : State) : State :=
  s.request l 0x20 State.afterEvent (serveIssue l kind passengers base index tender coupons named text)

def execIssue (l : Line) (kind passengers base index tender coupons : Nat) (named : Option Nat) (text : List Byte)
    (s : State) : Result :=
  .next (takeIssue l kind passengers base index tender coupons named text s)

/-! ## CANCEL and ABORT JOB (R99, R100) -/

/-- The job is a session's job of a number. -/
def Job.is (j : Job) (n : SessionId) (issue : Nat) : Bool := j.session == n && j.issue == issue

/-- The queued job of a session with a number, and the printer whose lane holds it (R99). -/
def State.queuedJob (s : State) (n : SessionId) (issue : Nat) : Option (PrinterId × Job) :=
  printers.findSome? fun p =>
    (((s.lane p).office ++ (s.lane p).window).find? (·.is n issue)).map fun j => (p, j)

/-- The printer on which a session's job of a number is in progress. -/
def State.jobInProgress (s : State) (n : SessionId) (issue : Nat) : Option (PrinterId × Job) :=
  printers.findSome? fun p =>
    match s.inProgress p with
    | some g => if g.job.is n issue then some (p, g.job) else none
    | none => none

/-- A queued job is removed from its lane and its charge released (R50, R99). -/
def State.withdraw (s : State) (p : PrinterId) (j : Job) : State :=
  (s.putLane p ⟨dropFirst (·.is j.session j.issue) (s.lane p).office,
    dropFirst (·.is j.session j.issue) (s.lane p).window⟩).releaseCharge j

def serveCancel (l : Line) (issue : Nat) (s : State) : Served :=
  if issue < 1 ∨ 99999 < issue then refuse s .badParameter
  else if (s.jobInProgress l issue).isSome then refuse s .inProgress
  else match s.queuedJob l issue with
    | none => refuse s .notFound
    | some (p, j) => accept (s.withdraw p j) (be 3 issue ++ be 4 j.total)

def takeCancel (l : Line) (issue : Nat) (s : State) : State := s.request l 0x21 State.afterEvent (serveCancel l issue)

def execCancel (l : Line) (issue : Nat) (s : State) : Result := .next (takeCancel l issue s)

/-- A QUEUED job is ended by ABORT JOB: withdrawn, its outcome ABORTED with no coupons (R100). -/
def State.abortQueued (s : State) (p : PrinterId) (j : Job) : State :=
  ((s.withdraw p j).handOver { j.outcome .aborted with coupons := [] }).raise .issueFailed (.session j.session)

/-- The abort mark of the job in progress is set (R100). The mark is volatile (R80, R107), so the retained store is not
updated. -/
def State.markAbort (s : State) (p : PrinterId) : State :=
  match s.inProgress p with
  | none => s
  | some g => s.markProgress p (some { g with job := { g.job with abortMark := true } })

def serveAbortJob (l : Line) (issue : Nat) (s : State) : Served :=
  if issue < 1 ∨ 99999 < issue then refuse s .badParameter
  else match s.jobInProgress l issue, s.queuedJob l issue with
    | some (p, j), _ =>
      if j.state = .suspended then accept (s.endJob p .aborted) [Config.abortJobByte true]
      else accept (s.markAbort p) [Config.abortJobByte false]
    | none, some (p, j) => accept (s.abortQueued p j) [Config.abortJobByte true]
    | none, none => refuse s .notFound

def takeAbortJob (l : Line) (issue : Nat) (s : State) : State := s.request l 0x22 State.afterEvent (serveAbortJob l issue)

def execAbortJob (l : Line) (issue : Nat) (s : State) : Result := .next (takeAbortJob l issue s)

/-! ## DIVERT (R101) -/

/-- A job as it stands in a lane of another printer (R101). -/
def Job.movedTo (j : Job) (p : PrinterId) : Job := { j with printer := p, state := .queued, reservation := 0 }

/-- A's lane for a job's kind of session has room on a printer (R89, R101). -/
def State.hasRoom (s : State) (p : PrinterId) (n : SessionId) : Bool :=
  if n = officeLine then s.officeRoom p else s.windowRoom p

/-- The suspended job of A that DIVERT moves: no coupon printed, and room in B's lane (R101). -/
def State.divertible (s : State) (a b : PrinterId) : Option Job :=
  match s.inProgress a with
  | none => none
  | some g =>
    if g.job.state = .suspended ∧ g.job.printed = [] ∧ s.hasRoom b g.job.session = true then some g.job else none

/-- Move 1 of DIVERT: A's suspended job goes to B's lane, and its reservation is released (R101). -/
def State.divertSuspended (s : State) (a b : PrinterId) : State :=
  match s.divertible a b with
  | none => s
  | some j => let s1 := s.dropJob a; s1.putLane b ((s1.lane b).join (j.movedTo b))

/-- The jobs of A's lanes that B's lanes take, as far as room goes (R101). -/
def State.divertLanes (s : State) (a b : PrinterId) : List Job × List Job :=
  ((s.lane a).office.take (2 - (s.lane b).office.length), (s.lane a).window.take (8 - (s.lane b).window.length))

/-- Moves 2 and 3 of DIVERT (R101). -/
def State.moveLanes (s : State) (a b : PrinterId) : State :=
  let moved := s.divertLanes a b
  (s.putLane a ⟨(s.lane a).office.drop moved.1.length, (s.lane a).window.drop moved.2.length⟩).putLane b
    ⟨(s.lane b).office ++ moved.1.map (·.movedTo b), (s.lane b).window ++ moved.2.map (·.movedTo b)⟩

/-- JOBS DIVERTED is raised for each session with a job that moved (R101). -/
def State.raiseDiverted (s : State) (moved : List SessionId) : State :=
  moved.foldl (fun t n => t.raise .jobsDiverted (.session n)) s

/-- The jobs left on A: in its lanes, and a suspended job still on it (R101). -/
def State.leftOn (s : State) (a : PrinterId) : Nat :=
  (s.lane a).office.length + (s.lane a).window.length +
    match s.inProgress a with
    | some g => if g.job.state = .suspended then 1 else 0
    | none => 0

def serveDivert (_ : Line) (printerA printerB : Nat) (s : State) : Served :=
  match printerOf printerA, printerOf printerB with
  | some a, some b =>
    if a = b ∨ (s.config a).kind = none ∨ (s.config b).kind ≠ (s.config a).kind then refuse s .badParameter
    else
      let first := (s.divertible a b).toList.map (·.session)
      let s1 := s.divertSuspended a b
      let moved := s1.divertLanes a b
      let sessions := first ++ (moved.1 ++ moved.2).map (·.session)
      let s2 := (s1.moveLanes a b).raiseDiverted sessions
      accept s2 [byteOf sessions.length, byteOf (s2.leftOn a)]
  | _, _ => refuse s .badParameter

def takeDivert (l : Line) (printerA printerB : Nat) (s : State) : State :=
  s.request l 0x23 State.afterEvent (serveDivert l printerA printerB)

def execDivert (l : Line) (printerA printerB : Nat) (s : State) : Result := .next (takeDivert l printerA printerB s)

/-! ## SET WINDOW MAP (R82) -/

/-- A map entry from the numbers of a frame: none for a printer outside 1-4, or the same printer named twice (R82). -/
def mapEntryOf (e : Nat × Nat) : Option MapEntry :=
  match mapPrinterOf e.1, mapPrinterOf e.2 with
  | some primary, some alternate => if primary = alternate ∧ primary.isSome then none else some ⟨primary, alternate⟩
  | _, _ => none

def serveSetWindowMap (_ : Line) (session : Nat) (entries : Vector (Nat × Nat) 8) (s : State) : Served :=
  match idOf 6 session with
  | none => refuse s .badParameter
  | some n =>
    if entries.toList.any fun e => (mapEntryOf e).isNone then refuse s .badParameter
    else accept (s.putMap n (Vector.ofFn fun k => (mapEntryOf entries[k]).getD ⟨none, none⟩)) []

def takeSetWindowMap (l : Line) (session : Nat) (entries : Vector (Nat × Nat) 8) (s : State) : State :=
  s.request l 0x24 (·.pump l) (serveSetWindowMap l session entries)

def execSetWindowMap (l : Line) (session : Nat) (entries : Vector (Nat × Nat) 8) (s : State) : Result :=
  .next (takeSetWindowMap l session entries s)

/-! ## SET DISCOUNT (R29) -/

def serveSetDiscount (_ : Line) (index rate floor step : Nat) (s : State) : Served :=
  if h : index < 16 then
    if index = 0 ∨ 1000 < rate ∨ 99999 < floor ∨ (step ≠ 1 ∧ step ≠ 5 ∧ step ≠ 10) then refuse s .badParameter
    else accept (s.putDiscount ⟨index, h⟩ ⟨rate, floor, step⟩) (byteOf index :: be 2 rate ++ be 4 floor ++ [byteOf step])
  else refuse s .badParameter

def takeSetDiscount (l : Line) (index rate floor step : Nat) (s : State) : State :=
  s.request l 0x25 (·.pump l) (serveSetDiscount l index rate floor step)

def execSetDiscount (l : Line) (index rate floor step : Nat) (s : State) : Result :=
  .next (takeSetDiscount l index rate floor step s)

end Sys2Proof.Machine
end

