-- ==== Sys2Proof/Machine/Receive.lean ====
section
/-! DEFINITION. The receivers of frames, byte by byte (R177, R178, R205), and the frames of a printer line (R204, R205). -/

namespace Sys2Proof.Machine

/-- What a byte completes at a receiver. -/
inductive Received where
  /-- Nothing yet. -/
  | nothing
  /-- A length byte outside 1-250. -/
  | badLength
  /-- A frame whose check is bad, with its first body byte. -/
  | badCheck (first : Byte)
  /-- A frame whose check is good: its lead byte, the first byte of its body and the rest of it. -/
  | frame (leadByte first : Byte) (rest : List Byte)
  deriving DecidableEq, Repr

/-- The check byte of a frame has arrived (R178). -/
def judgeFrame (leadByte : Byte) (len : Nat) (got : List Byte) (check : Byte) : Received :=
  match got with
  | [] => .nothing
  | first :: rest => if checkGood len got check then .frame leadByte first rest else .badCheck first

/-- A byte arrives at a receiver that takes the given lead bytes (R178, R205). -/
def Receiver.take (r : Receiver) (leads : List Byte) (b : Byte) : Receiver × Received :=
  match r with
  | .waitLead => (if b ∈ leads then .length b else .waitLead, .nothing)
  | .length leadByte =>
    if 1 ≤ b.toNat ∧ b.toNat ≤ 250 then (.body leadByte b.toNat [], .nothing) else (.waitLead, .badLength)
  | .body leadByte len got =>
    if got.length + 1 < len then (.body leadByte len (got ++ [b]), .nothing) else (.check leadByte len (got ++ [b]), .nothing)
  | .check leadByte len got => (.waitLead, judgeFrame leadByte len got b)

/-! ## Frames of a printer line (R204, R205) -/

/-- The refusal a result byte names (R204). -/
def refusalOf (b : Byte) : Option RefusalKind :=
  match b.toNat with
  | 1 => some .jam
  | 2 => some .noForms
  | 3 => some .coverOpen
  | 4 => some .headFault
  | _ => none

/-- The result part of an answer to an operation other than READ STRIP (R204, R205). -/
def readAnswer (result : List Byte) : Option Answer :=
  match result with
  | [why] => (refusalOf why).map .refused
  | [ok, sensors] => if ok = 0 then some (.ok (Sensors.ofByte sensors)) else none
  | _ => none

/-- The result part of an answer to READ STRIP (R204, R205). A strip check byte other than 01h is taken as bad (log entry
30). -/
def readStripAnswer (result : List Byte) : Option StripAnswer :=
  match result with
  | [why] => (refusalOf why).map .refused
  | [ok, sensors, form] => if ok = 0 ∧ form = 0 then some (.noForm (Sensors.ofByte sensors)) else none
  | [ok, sensors, form, good, letter1, letter2, s1, s2, s3] =>
    if ok = 0 ∧ form = 1 then some (.strip (good == 1) letter1 letter2 (readBe [s1, s2, s3]) (Sensors.ofByte sensors)) else none
  | _ => none

end Sys2Proof.Machine
end

