-- ==== Sys2Proof/Machine/StockRequests.lean ====
section
/-! DEFINITION. The requests of the stock table, 30h-39h: SET STOCK KIND, RECEIVE PACK, LOAD PACK, UNLOAD PACK, CLOSE PACK,
PURGE PACK, READ PACK, READ EXCEPTION, AUDIT SET, AUDIT NEXT (R1-R5, R8, R14-R17, R20, R23-R25). -/

namespace Sys2Proof.Machine

/-- The packs of the table with their slots, in slot order. -/
def State.packList (s : State) : List (Slot × Pack) :=
  (List.finRange 64).filterMap fun slot => (s.pack slot).map fun k => (slot, k)

/-! ## SET STOCK KIND (R1) -/

def serveSetStockKind (_ : Line) (kind : Nat) (letter1 letter2 : Byte) (threshold : Nat) (s : State) : Served :=
  match kindOf kind with
  | none => refuse s .badParameter
  | some k =>
    if !isCapital letter1 || !isCapital letter2 || decide (2000 < threshold) then refuse s .badParameter
    else if s.packList.any fun x => x.2.kind == k && x.2.state != .closed then refuse s .inUse
    else accept (s.putKind k ⟨letter1, letter2, threshold⟩) []

def takeSetStockKind (l : Line) (kind : Nat) (letter1 letter2 : Byte) (threshold : Nat) (s : State) : State :=
  s.request l 0x30 (·.pump l) (serveSetStockKind l kind letter1 letter2 threshold)

def execSetStockKind (l : Line) (kind : Nat) (letter1 letter2 : Byte) (threshold : Nat) (s : State) : Result :=
  .next (takeSetStockKind l kind letter1 letter2 threshold s)

/-! ## RECEIVE PACK (R5) -/

/-- Two ranges of serials meet (R5). -/
def rangesMeet (first1 count1 first2 count2 : Nat) : Bool :=
  decide (first1 < first2 + count2) && decide (first2 < first1 + count1)

/-- The lowest-numbered free slot (R5). -/
def State.freeSlot (s : State) : Option Slot := (List.finRange 64).find? fun slot => (s.pack slot).isNone

/-- A pack as RECEIVE PACK writes it (R5). -/
def Pack.received (kind : Kind) (first count day : Nat) : Pack :=
  { kind := kind, first := first, count := count, cursor := first, state := .received, location := none,
    dayReceived := day, lowFlag := false }

def serveReceivePack (_ : Line) (kind first count : Nat) (s : State) : Served :=
  match kindOf kind with
  | none => refuse s .badParameter
  | some k =>
    if (s.kind k).isUndefined = true ∨ 999999 < first ∨ count < 1 ∨ 2000 < count ∨ 1000000 < first + count then
      refuse s .badParameter
    else if s.packList.any fun x => x.2.kind == k && rangesMeet first count x.2.first x.2.count then refuse s .overlap
    else match s.freeSlot with
      | none => refuse s .recordsFull
      | some slot => accept (s.putPack slot (some (.received k first count s.clock.day))) [byteOf (slot.val + 1)]

def takeReceivePack (l : Line) (kind first count : Nat) (s : State) : State :=
  s.request l 0x31 (·.pump l) (serveReceivePack l kind first count)

def execReceivePack (l : Line) (kind first count : Nat) (s : State) : Result := .next (takeReceivePack l kind first count s)

/-! ## LOAD PACK (R8) -/

/-- A printer that LOAD PACK may be taken on: IDLE, OFFLINE, or HELD with its open entry NO PACK (R8). -/
def State.mayLoad (s : State) (p : PrinterId) : Bool :=
  match (s.ctl p).state with
  | .idle | .offline => true
  | .held => match s.openEntry p with
    | some e => e.kind == .noPack
    | none => false
  | _ => false

def serveLoadPack (_ : Line) (slot printer : Nat) (s : State) : Served :=
  match slotOf slot, printerOf printer with
  | some slot, some p =>
    match s.pack slot with
    | none => refuse s .notFound
    | some k =>
      if k.state ≠ .received ∧ k.state ≠ .unloaded then refuse s .wrongState
      else if (s.loaded p).isSome then refuse s .inUse
      else if (s.config p).kind ≠ some k.kind then refuse s .badParameter
      else if !s.mayLoad p then refuse s .wrongState
      else ⟨(s.holdDeferred (.loadPack p)).beginLoad p slot, none⟩
  | _, _ => refuse s .badParameter

def takeLoadPack (l : Line) (slot printer : Nat) (s : State) : State :=
  s.request l 0x32 State.afterEvent (serveLoadPack l slot printer)

def execLoadPack (l : Line) (slot printer : Nat) (s : State) : Result := .next (takeLoadPack l slot printer s)

/-! ## UNLOAD PACK (R14) -/

/-- A pack taken out of a printer (R14). -/
def Pack.unloaded (k : Pack) : Pack :=
  { k with state := if k.state = .loaded then .unloaded else k.state, location := none }

def serveUnloadPack (_ : Line) (printer : Nat) (s : State) : Served :=
  match printerOf printer with
  | none => refuse s .badParameter
  | some p =>
    match s.loadedPack p with
    | none => refuse s .wrongState
    | some (slot, k) =>
      if s.midForm p then refuse s .inProgress
      else if (s.ctl p).state.busy then refuse s .wrongState
      else
        let s1 := (s.putPack slot (some k.unloaded)).putLoaded p none
        accept (s1.mapCtl p fun c => { c with position := .unknown }) (byteOf (slot.val + 1) :: be 3 k.cursor)

def takeUnloadPack (l : Line) (printer : Nat) (s : State) : State :=
  s.request l 0x33 State.afterEvent (serveUnloadPack l printer)

def execUnloadPack (l : Line) (printer : Nat) (s : State) : Result := .next (takeUnloadPack l printer s)

/-! ## CLOSE PACK (R15) -/

def serveClosePack (_ : Line) (slot : Nat) (s : State) : Served :=
  match slotOf slot with
  | none => refuse s .badParameter
  | some slot =>
    match s.pack slot with
    | none => refuse s .notFound
    | some k =>
      if k.state = .loaded ∨ k.state = .closed ∨ (k.state = .spent ∧ k.location.isSome) then refuse s .wrongState
      else if 0 < k.remaining ∧ s.unreserved < 1 then refuse s .recordsFull
      else
        let s1 := if 0 < k.remaining then
            s.addRecord (s.newRecord slot k.cursor k.remaining .returned none none)
          else s
        accept (s1.putPack slot (some { k with cursor := k.endSerial, state := .closed })) (be 2 k.remaining)

def takeClosePack (l : Line) (slot : Nat) (s : State) : State := s.request l 0x34 State.closeLines (serveClosePack l slot)

def execClosePack (l : Line) (slot : Nat) (s : State) : Result := .next (takeClosePack l slot s)

/-! ## PURGE PACK (R16) -/

/-- A session not CLOSED holds an ISSUED journal entry with a coupon of the pack (check 5 of R16). -/
def State.journalNames (s : State) (slot : Slot) : Bool :=
  s.till.sessions.toList.any fun x => x.state != .closed &&
    x.journal.any fun e => !e.isVoided && e.coupons.any (·.slot == slot)

/-- A job in progress has a printed coupon of the pack (check 6 of R16). -/
def State.jobNames (s : State) (slot : Slot) : Bool :=
  printers.any fun p => match s.inProgress p with
    | some g => g.job.printed.any (·.slot == slot)
    | none => false

/-- The audit cursor, unset if it points into a pack (R16, R24). -/
def clearAudit (audit : Option (Slot × Nat)) (slot : Slot) : Option (Slot × Nat) :=
  match audit with
  | some (a, n) => if a = slot then none else some (a, n)
  | none => none

def servePurgePack (_ : Line) (slot : Nat) (s : State) : Served :=
  match slotOf slot with
  | none => refuse s .badParameter
  | some slot =>
    match s.pack slot with
    | none => refuse s .notFound
    | some k =>
      if k.state ≠ .closed then refuse s .wrongState
      else if s.stock.exceptions.any fun r => r.slot == slot && !r.isRead then refuse s .inUse
      else if s.journalNames slot || s.jobNames slot then refuse s .inUse
      else
        let removed := (s.stock.exceptions.filter (·.slot == slot)).length
        let s1 := s.putStock { s.stock with
          packs := s.stock.packs.set slot none, exceptions := s.stock.exceptions.filter (·.slot != slot) }
        accept (s1.noteRecords.putAudit (clearAudit s.audit slot)) (be 2 removed)

def takePurgePack (l : Line) (slot : Nat) (s : State) : State := s.request l 0x35 State.afterEvent (servePurgePack l slot)

def execPurgePack (l : Line) (slot : Nat) (s : State) : Result := .next (takePurgePack l slot s)

/-! ## READ PACK (R17) -/

/-- The fields of READ PACK: the record of R3, the remaining count, the records of the pack and those unread (R17). -/
def State.packBytes (s : State) (slot : Slot) (k : Pack) : List Byte :=
  let records := s.stock.exceptions.filter (·.slot == slot)
  byteOf (slot.val + 1) :: byteOf (k.kind.val + 1) :: be 3 k.first ++ be 2 k.count ++ be 3 k.cursor ++
    byteOf k.state.code :: byteOf (numberOf k.location) :: be 2 k.dayReceived ++ flagByte k.lowFlag ::
    be 2 k.remaining ++ be 2 records.length ++ be 2 (records.filter (!·.isRead)).length

def serveReadPack (_ : Line) (slot : Nat) (s : State) : Served :=
  match slotOf slot with
  | none => refuse s .badParameter
  | some slot =>
    match s.pack slot with
    | none => refuse s .notFound
    | some k => accept s (s.packBytes slot k)

def takeReadPack (l : Line) (slot : Nat) (s : State) : State := s.request l 0x36 (·.pump l) (serveReadPack l slot)

def execReadPack (l : Line) (slot : Nat) (s : State) : Result := .next (takeReadPack l slot s)

/-! ## READ EXCEPTION (R23) -/

/-- The record is returned as it stood, unread, and then marked read (log entry 15). -/
def serveReadException (_ : Line) (s : State) : Served :=
  match s.stock.exceptions.find? (!·.isRead) with
  | none => refuse s .notFound
  | some r =>
    accept (s.putStock { s.stock with
      exceptions := changeFirst (!·.isRead) (fun r => { r with isRead := true }) s.stock.exceptions }) r.bytes

def takeReadException (l : Line) (s : State) : State := s.request l 0x37 (·.pump l) (serveReadException l)

def execReadException (l : Line) (s : State) : Result := .next (takeReadException l s)

/-! ## AUDIT SET and AUDIT NEXT (R24, R25) -/

def serveAuditSet (_ : Line) (slot serial : Nat) (s : State) : Served :=
  match slotOf slot with
  | none => refuse s .badParameter
  | some slot =>
    match s.pack slot with
    | none => refuse s .notFound
    | some k =>
      if serial < k.first ∨ k.last < serial then refuse s .badParameter
      else accept (s.putAudit (some (slot, serial))) []

def takeAuditSet (l : Line) (slot serial : Nat) (s : State) : State := s.request l 0x38 (·.pump l) (serveAuditSet l slot serial)

def execAuditSet (l : Line) (slot serial : Nat) (s : State) : Result := .next (takeAuditSet l slot serial s)

/-- The record covers a serial of a pack (R18). -/
def ExceptionRecord.covers (r : ExceptionRecord) (slot : Slot) (serial : Nat) : Bool :=
  r.slot == slot && decide (r.first ≤ serial) && decide (serial < r.first + r.span)

/-- The disposition of a serial with the first serial and span of the record that covers it (R25, R203). -/
def State.disposition (s : State) (slot : Slot) (k : Pack) (serial : Nat) : Nat × Nat × Nat :=
  if k.cursor ≤ serial then (0, noSerial, 0)
  else match s.stock.exceptions.find? (·.covers slot serial) with
    | some r => (r.reason.code, r.first, r.span)
    | none => (8, noSerial, 0)

def serveAuditNext (_ : Line) (s : State) : Served :=
  match s.audit with
  | none => refuse s .wrongState
  | some (slot, serial) =>
    match s.pack slot with
    | none => refuse s .wrongState
    | some k =>
      let d := s.disposition slot k serial
      let atEnd := decide (k.last ≤ serial)
      accept (if atEnd then s else s.putAudit (some (slot, serial + 1)))
        (byteOf (slot.val + 1) :: be 3 serial ++ byteOf d.1 :: be 3 d.2.1 ++ be 2 d.2.2 ++ [flagByte atEnd])

def takeAuditNext (l : Line) (s : State) : State := s.request l 0x39 (·.pump l) (serveAuditNext l)

def execAuditNext (l : Line) (s : State) : Result := .next (takeAuditNext l s)

end Sys2Proof.Machine
end

