-- ==== Sys2Proof/Machine/TillRequests.lean ====
section
/-! DEFINITION. The requests of the till unit, 10h-15h: SIGN ON, VOID, LIFT, SET THRESHOLDS, READ TILL, READ JOURNAL
(R44-R64). -/

namespace Sys2Proof.Machine

/-! ## SIGN ON (R46) -/

/-- A session as SIGN ON opens it: every figure 0, the next issue number 1, the estimate the float (R46). -/
def Session.signedOn (clerk float : Nat) (now : Stamp) : Session :=
  { Session.storeLoss with
    state := .opened, clerk := some clerk, float := float, signOn := some now, estimate := float }

def serveSignOn (l : Line) (clerk float : Nat) (s : State) : Served :=
  if (s.session l).state ≠ .closed then refuse s .sessionOpen
  else if clerk < 1 ∨ 9999 < clerk ∨ 500000 < float then refuse s .badParameter
  else
    let s1 := s.putSession l (.signedOn clerk float s.stampNow)
    accept ((s1.updateEstimate l float .normal).pulse l) (byteOf (l.val + 1) :: be 2 s.clock.day)

def takeSignOn (l : Line) (clerk float : Nat) (s : State) : State :=
  s.request l 0x10 State.closeLines (serveSignOn l clerk float)

def execSignOn (l : Line) (clerk float : Nat) (s : State) : Result := .next (takeSignOn l clerk float s)

/-! ## VOID (R56, R57) -/

/-- One VOIDED record for each coupon, in coupon order, with the session and its clerk (R57). -/
def State.voidRecords (s : State) (n : SessionId) : List Coupon → State
  | [] => s
  | c :: rest => State.voidRecords (s.addRecord (s.newRecord c.slot c.serial 1 .voided (some n) (s.session n).clerk)) n rest

/-- The journal with the newest entry of an issue number VOIDED (log entry 33). -/
def voidEntry (journal : List JournalEntry) (issue : Nat) : List JournalEntry :=
  changeFirst (·.issue == issue) (fun e => { e with isVoided := true }) journal

/-- The session as a VOID of an entry leaves it, but for the drawer (R57). -/
def Session.voided (x : Session) (e : JournalEntry) : Session :=
  { x.setTally e.tender ((x.tally e.tender).void e.total) with
    journal := voidEntry x.journal e.issue
    counters := x.counters.set e.kind
      { x.counters[e.kind] with voided := bump x.counters[e.kind].voided e.coupons.length } }

def serveVoid (l : Line) (issue : Nat) (s : State) : Served :=
  let x := s.session l
  match x.state with
  | .closed => refuse s .noSession
  | .cashup => refuse s .inCashup
  | .opened =>
    if issue < 1 ∨ 99999 < issue then refuse s .badParameter
    else match x.journal.find? (·.issue == issue) with
      | none => refuse s .tooOld
      | some e =>
        if e.isVoided then refuse s .wrongState
        else if s.unreserved ≤ e.coupons.length then refuse s .recordsFull
        else if e.tender = .cash ∧ x.estimate < e.total then refuse s .drawerShort
        else
          let s1 := (s.voidRecords l e.coupons).putSession l (x.voided e)
          let s2 := if e.tender = .cash then (s1.updateEstimate l (x.estimate - e.total) x.drawer).pulse l else s1
          accept s2 (be 3 issue ++ be 4 e.total ++ [byteOf e.tender.code])

def takeVoid (l : Line) (issue : Nat) (s : State) : State := s.request l 0x11 State.closeLines (serveVoid l issue)

def execVoid (l : Line) (issue : Nat) (s : State) : Result := .next (takeVoid l issue s)

/-! ## LIFT (R59) -/

def serveLift (_ : Line) (session amount : Nat) (s : State) : Served :=
  match sessionOf session with
  | none => refuse s .badParameter
  | some n =>
    let x := s.session n
    if amount < 1 ∨ 9999999 < amount then refuse s .badParameter
    else match x.state with
      | .closed => refuse s .wrongState
      | .cashup => refuse s .inCashup
      | .opened =>
        if x.estimate < amount then refuse s .drawerShort
        else if x.liftsCount = 65535 then refuse s .badParameter
        else
          let s1 := s.putSession n { x with liftsTotal := x.liftsTotal + amount, liftsCount := x.liftsCount + 1 }
          accept ((s1.updateEstimate n (x.estimate - amount) x.drawer).pulse n) (be 4 (x.estimate - amount))

def takeLift (l : Line) (session amount : Nat) (s : State) : State :=
  s.request l 0x12 State.closeLines (serveLift l session amount)

def execLift (l : Line) (session amount : Nat) (s : State) : Result := .next (takeLift l session amount s)

/-! ## SET THRESHOLDS (R61) -/

def serveSetThresholds (_ : Line) (high low : Nat) (s : State) : Served :=
  if 9999999 < high ∨ high < low then refuse s .badParameter
  else accept (s.putTill { s.till with high := high, low := low }) (be 4 high ++ be 4 low)

def takeSetThresholds (l : Line) (high low : Nat) (s : State) : State :=
  s.request l 0x13 (·.pump l) (serveSetThresholds l high low)

def execSetThresholds (l : Line) (high low : Nat) (s : State) : Result := .next (takeSetThresholds l high low s)

/-! ## READ TILL (R64) -/

/-- The three tallies of a tender, totals and counts (R64). -/
def Tally.bytes (t : Tally) : List Byte := t.settledBytes ++ be 4 t.pendingTotal ++ be 3 t.pendingCount

/-- The fields of READ TILL, in the order R64 lists them (log entry 32). -/
def State.tillBytes (s : State) (n : SessionId) : List Byte :=
  let x := s.session n
  byteOf x.state.code :: be 2 (x.clerk.getD 0) ++ be 4 x.float ++ stampDayBytes x.signOn ++
    x.cash.bytes ++ x.card.bytes ++ x.warrant.bytes ++ be 4 x.liftsTotal ++ be 2 x.liftsCount ++
    be 4 x.estimate ++ byteOf x.drawer.code :: be 3 x.nextIssue ++ byteOf x.journal.length ::
    x.counters.toList.flatMap KindCounters.bytes ++ be 4 s.till.high ++ be 4 s.till.low

def serveReadTill (l : Line) (session : Nat) (s : State) : Served :=
  match reachSession l session with
  | .error status => refuse s status
  | .ok n => accept s (s.tillBytes n)

def takeReadTill (l : Line) (session : Nat) (s : State) : State := s.request l 0x14 (·.pump l) (serveReadTill l session)

def execReadTill (l : Line) (session : Nat) (s : State) : Result := .next (takeReadTill l session s)

/-! ## READ JOURNAL (R55) -/

/-- The checks in the order R55 gives them, the session's range first (log entry 16). -/
def serveReadJournal (l : Line) (session position : Nat) (s : State) : Served :=
  match sessionOf session with
  | none => refuse s .badParameter
  | some n =>
    let journal := (s.session n).journal
    if position < 1 ∨ 32 < position then refuse s .badParameter
    else if journal.length < position then refuse s .notFound
    else match reachSession l session with
      | .error status => refuse s status
      | .ok _ =>
        let entries := (journal.drop (position - 1)).take 4
        accept s (byteOf journal.length :: byteOf entries.length :: entries.flatMap JournalEntry.bytes)

def takeReadJournal (l : Line) (session position : Nat) (s : State) : State :=
  s.request l 0x15 (·.pump l) (serveReadJournal l session position)

def execReadJournal (l : Line) (session position : Nat) (s : State) : Result :=
  .next (takeReadJournal l session position s)

end Sys2Proof.Machine
end

