-- ==== Sys2Proof/Machine/LineEvents.lean ====
section
/-! DEFINITION. The events of a request line: the gap timer, the end of a frame sent, and an arriving byte with the frame it
may complete (R177-R180). -/

namespace Sys2Proof.Machine

/-! ## GAP_TIMER (R178) and FRAME_SENT (R179, R203) -/

/-- The frame in hand is discarded without reply, and the receiver is in WAIT LEAD (R178). -/
def execGapTimer (l : Line) (s : State) : Result := .next (s.frameEnded l)

/-- The transmitter finishes its frame: the second frame of the same reply follows directly (R203), else what waits
(R179). -/
def State.frameSent (s : State) (l : Line) : State :=
  match (s.line l).sending with
  | none => s
  | some f => (s.putLine l { s.line l with sending := f.second.map fun frame => ⟨frame, none⟩ }).pump l

def execFrameSent (l : Line) (s : State) : Result := .next (s.frameSent l)

/-! ## A request completed by its bytes (R180) -/

/-- A request is taken, as its own row is. -/
def takeRequest (i : Instr) (s : State) : State :=
  match i with
  | .readNotices l => takeReadNotices l s
  | .setNoticeMask l mask => takeSetNoticeMask l mask s
  | .readOutcomes l => takeReadOutcomes l s
  | .abort l => takeAbort l s
  | .readClock l => takeReadClock l s
  | .setClock l stamp day rollHour => takeSetClock l stamp day rollHour s
  | .signOn l clerk float => takeSignOn l clerk float s
  | .void l issue => takeVoid l issue s
  | .lift l session amount => takeLift l session amount s
  | .setThresholds l high low => takeSetThresholds l high low s
  | .readTill l session => takeReadTill l session s
  | .readJournal l session position => takeReadJournal l session position s
  | .writeBody l bytes => takeWriteBody l bytes s
  | .issue l kind passengers base index tender coupons named text =>
    takeIssue l kind passengers base index tender coupons named text s
  | .cancel l issue => takeCancel l issue s
  | .abortJob l issue => takeAbortJob l issue s
  | .divert l printerA printerB => takeDivert l printerA printerB s
  | .setWindowMap l session entries => takeSetWindowMap l session entries s
  | .setDiscount l index rate floor step => takeSetDiscount l index rate floor step s
  | .setStockKind l kind letter1 letter2 threshold => takeSetStockKind l kind letter1 letter2 threshold s
  | .receivePack l kind first count => takeReceivePack l kind first count s
  | .loadPack l slot printer => takeLoadPack l slot printer s
  | .unloadPack l printer => takeUnloadPack l printer s
  | .closePack l slot => takeClosePack l slot s
  | .purgePack l slot => takePurgePack l slot s
  | .readPack l slot => takeReadPack l slot s
  | .readException l => takeReadException l s
  | .auditSet l slot serial => takeAuditSet l slot serial s
  | .auditNext l => takeAuditNext l s
  | .setPrinter l printer kind feed settle => takeSetPrinter l printer kind feed settle s
  | .release l printer => takeRelease l printer s
  | .takeOffline l printer => takeTakeOffline l printer s
  | .bringOnline l printer => takeBringOnline l printer s
  | .printerReset l printer => takePrinterReset l printer s
  | .readPrinters l => takeReadPrinters l s
  | .readFaults l start => takeReadFaults l start s
  | .acknowledge l entry => takeAcknowledge l entry s
  | .cashupBegin l session => takeCashupBegin l session s
  | .declareCash l session index count => takeDeclareCash l session index count s
  | .declareCard l session total => takeDeclareCard l session total s
  | .declareWarrants l session count total => takeDeclareWarrants l session count total s
  | .cashupCommit l session => takeCashupCommit l session s
  | .cashupAbandon l session => takeCashupAbandon l session s
  | .setDenomination l index face => takeSetDenomination l index face s
  | .setTolerance l tolerance => takeSetTolerance l tolerance s
  | .readCashup l => takeReadCashup l s
  | .review l record => takeReview l record s
  | _ => s

/-- A well-checked frame is taken as a request: the line's tests 1-4, then BAD PARAMETER when its length fits no layout of
its request (test 5), then the owner (R180). -/
def State.takeFrame (s : State) (l : Line) (code : Byte) (rest : List Byte) : State :=
  match readRequest l code rest with
  | some i => takeRequest i s
  | none => s.request l code (·.pump l) (refuse · .badParameter)

/-- A byte arrives on a request line (R178). -/
def State.lineByte (s : State) (l : Line) (b : Byte) : State :=
  if s.phase = .halted then s
  else
    let r := (s.line l).receiver.take [leadA5] b
    let s1 := s.putLine l { s.line l with receiver := r.1 }
    match r.2 with
    | .nothing => s1
    | .badLength => s1.rejectFrame l none
    | .badCheck first => s1.rejectFrame l (some first)
    | .frame _ code rest => s1.takeFrame l code rest

def execRequestLineByteArrives (l : Line) (b : Byte) (s : State) : Result := .next (s.lineByte l b)

end Sys2Proof.Machine
end

