-- ==== Sys2Proof/Machine/PartEvents.lean ====
section
/-! DEFINITION. The events of the part as a whole: drawer pulses, lamp flashes, the clock, PFAIL and RST, start-up, the
backup supply (R63, R132, R191, R192, R195-R200). -/

namespace Sys2Proof.Machine

/-! ## Outputs (R63, R132) -/

def execDrawerPulseEnd (n : SessionId) (s : State) : Result := .next (s.putDrawer n false)

/-- A flash: the lamp output toggles (R132). -/
def Controller.flash (c : Controller) : Controller :=
  if c.lamp = .slowFlash ∨ c.lamp = .fastFlash then { c with lampOn := !c.lampOn } else c

def execLampFlash (p : PrinterId) (s : State) : Result :=
  .next (if s.printersRun then s.mapCtl p (·.flash) else s)

/-! ## The clock (R191, R192) -/

/-- The running clock's own writes, those of a second and its roll. DESIGN CHOICE (log entry 39): they are no update of the retained
store that the signature word brackets (R196), so the word stays as it is. -/
def State.runClock (s : State) (c : Clock) : State := { s with clock := c }

/-- The clock runs in every state of the part, provided the backup supply holds while it is halted (R191). -/
def State.clockHeld (s : State) : Bool := !(s.phase == .halted && s.signature == .other)

/-- A second passes (R191). One that passes into the roll hour rolls the booking day in the same event, and DAY ROLL is raised
if the lines are open (R192), so that date, time and booking day always agree (R78). -/
def State.secondPasses (s : State) : State :=
  let t := s.runClock s.clock.tick
  if s.clock.passes then (t.raise .dayRoll .nothing).closeLines else t

def execClockTick (s : State) : Result := .next (if s.clockHeld then s.secondPasses else s)

/-- The second that passes into the roll hour (R192). At any other time of day there is no such second, and nothing changes
(DESIGN CHOICE, log entry 9). -/
def execDayRoll (s : State) : Result := .next (if s.clockHeld && s.clock.passes then s.secondPasses else s)

/-! ## PFAIL and RST (R195) -/

/-- A controller in a halted part: its timers and operations end, its lamp is off (R132, R195). -/
def Controller.halted (c : Controller) : Controller :=
  { c with
    outstanding := none, sending := none, waiting := [], settling := false, idleLift := false, resetWait := false,
    load := none, lamp := .off, lampOn := false, receiver := .waitLead }

/-- A line in a halted part: nothing is sent or received, and no deferred request is held (R190, R195). -/
def LineState.halted (ln : LineState) : LineState :=
  { ln with receiver := .waitLead, replies := [], notice := false, sending := none, deferred := none }

/-- The part halts (R195): outputs inactive, lines and printer lines silent. -/
def State.halt (s : State) : State :=
  { s with
    phase := .halted
    drawers := Vector.replicate 7 false
    controllers := Vector.ofFn fun p => (s.ctl p).halted
    lines := Vector.ofFn fun l => (s.line l).halted }

/-- PFAIL is asserted; the body buffers are lost too (R67, R195). -/
def execPfailAsserted (s : State) : Result :=
  let t := s.halt
  .next { t with pfail := true, lines := Vector.ofFn fun l => { t.line l with body := [] } }

def execRstAsserted (s : State) : Result := .next { s.halt with rst := true }

/-! ## The backup supply (R196) -/

/-- The signature word no longer reads VALID. A collapse in the middle of an update leaves it UPDATING, and stops the part
(log entry 19). -/
def execBackupSupplyLost (how : SupplyLoss) (s : State) : Result :=
  .next (match how with
    | .belowRange => { s with signature := .other }
    | .cutShort => { s.halt with signature := .updating })

/-! ## Start-up (R190, R197-R200) -/

/-- Stage 1 (R190, R197): straps read, signature examined, the lines' state set. On the store-loss path the word becomes
UPDATING. Outcomes that a start-up broken off has set aside stand (log entry 34). -/
def State.firstStage (s : State) (straps : Straps) : State :=
  { s with
    pfail := false
    rst := false
    straps := straps
    startResult := if s.signature = .valid then .storeKept else .storeLost
    signature := if s.signature = .valid then .valid else .updating
    lines := Vector.replicate 7 .startUp }

/-- The outcome of a recovered job: FAILED, POWER, both flags clear (R98). -/
def Job.powerOutcome (j : Job) : Outcome := { j.outcome .power with substituted := false, truncated := false }

/-- Recovery of one printer's job-in-progress record (R26, R65, R198). -/
def State.recover (s : State) (p : PrinterId) : State :=
  match s.inProgress p with
  | none => s
  | some g =>
    let s1 := ((s.undoCoupons p g.job.session g.job.kind g.job.printed).loseForm p).dropJob p
    { s1 with setAside := s1.setAside ++ [g.job.powerOutcome] }

/-- A tally with nothing pending (R65). -/
def Tally.settledOnly (t : Tally) : Tally := { t with pendingTotal := 0, pendingCount := 0 }

/-- A session with nothing pending (R65). -/
def Session.settledOnly (x : Session) : Session :=
  { x with cash := x.cash.settledOnly, card := x.card.settledOnly, warrant := x.warrant.settledOnly }

/-- An OPEN entry cleared at a time (R153). -/
def FaultEntry.clearedBy (e : FaultEntry) (now : DateTime) : FaultEntry :=
  if e.state = .opened then { e with state := .cleared, clearedAt := some now } else e

/-- The last update of a kept store (R198): nothing pending, OPEN entries cleared, the records-low condition set. -/
def State.settleKept (s : State) : State :=
  let s1 := s.putTill { s.till with sessions := Vector.ofFn fun n => (s.session n).settledOnly }
  (s1.putLog { s1.log with entries := s1.log.entries.map (·.clearedBy s1.clock.now) }).noteRecords

/-- The store-loss values of every retained item, the STORE LOST entry, and the word VALID (R151, R197); no outcome is left
(R103). -/
def State.settleLost (s : State) : State :=
  { s with
    stock := .storeLoss, discounts := Vector.replicate 16 .fullFare, till := .storeLoss, maps := mapsStoreLoss,
    configs := Vector.replicate 4 .storeLoss, progress := Vector.replicate 4 none, log := .storeLoss,
    clock := .storeLoss, signature := .valid, setAside := [] }

/-- A controller as start-up sets it, its lamp by the flag of the loaded pack (R132, R133, R199). -/
def State.startController (s : State) (p : PrinterId) : Controller :=
  Controller.startUp.showLamp (lampOf .absent (match s.loadedPack p with
    | some (_, k) => k.lowFlag
    | none => false))

/-- The volatile state of every block (R199). The outcomes set aside join the lines' emptied lists (R98); they are kept
aside too until the lines open, since those lists are volatile (log entry 34). -/
def State.volatileStage (s : State) : State :=
  let s1 := s.setAside.foldl (fun t o => t.handOver o) s
  { s1 with
    lanes := Vector.replicate 4 ⟨[], []⟩, audit := none, drawers := Vector.replicate 7 false,
    controllers := Vector.ofFn s.startController }

/-- A line opens: START-UP is pending and a waiting notice queued (R190, R199). -/
def LineState.opened (ln : LineState) : LineState :=
  { ln with pendingSet := ln.pendingSet ||| startUpSet, notice := true }

/-- The lines open (R199); the outcomes that recovery set aside now stand in the lines' lists alone (R98). -/
def State.openLines (s : State) : State :=
  { s with phase := .running, setAside := [], lines := Vector.ofFn fun l => (s.line l).opened }.pumpAll

/-- The number of a stage, counted from 0. -/
def stageIndex : StartStage → Nat
  | .first => 0
  | .recover p => p.val + 1
  | .retained => 5
  | .volatile => 6
  | .opened => 7

/-- One stage of start-up, by its number. -/
def State.runStage (s : State) (straps : Straps) (n : Nat) : State :=
  let s1 := { s with phase := .starting (n + 1) }
  match n with
  | 0 => s1.firstStage straps
  | 5 => match s1.startResult with
    | .storeKept => s1.settleKept
    | .storeLost => s1.settleLost
  | 6 => s1.volatileStage
  | 7 => s1.openLines
  | _ => match printerOf n, s1.startResult with
    | some p, .storeKept => s1.recover p
    | _, _ => s1

/-- The stages taken so far; none in a halted part, and none left in a running one. -/
def Phase.stagesTaken : Phase → Nat
  | .halted => 0
  | .starting n => n
  | .running => 8

/-- Start-up runs from where it stands to the end of the stage named (R197-R199, log entry 6). -/
def State.startTo (s : State) (straps : Straps) (stage : StartStage) : State :=
  (List.range 8).foldl
    (fun t n => if s.phase.stagesTaken ≤ n ∧ n ≤ stageIndex stage then t.runStage straps n else t) s

def execStartUp (straps : Straps) (stage : StartStage) (s : State) : Result := .next (s.startTo straps stage)

end Sys2Proof.Machine
end

