-- ==== Sys2Proof/Machine/PrinterEvents.lean ====
section
/-! DEFINITION. The events of a printer line and its controller's timers: answers, SENSOR CHANGE, frames set aside or
discarded, bytes, deadlines, settle, idle-lift, enquiry and reset waits (R104-R106, R111-R130, R205). -/

namespace Sys2Proof.Machine

/-! ## Answers (R104-R106) -/

def takeEngageAnswer (p : PrinterId) (a : Answer) (s : State) : State :=
  s.printerEvent fun t => t.answerTo p .engage (answerContent a) fun purpose u => u.engaged p purpose

def execEngageAnswer (p : PrinterId) (a : Answer) (s : State) : Result := .next (takeEngageAnswer p a s)

def takeLiftAnswer (p : PrinterId) (a : Answer) (s : State) : State :=
  s.printerEvent fun t => t.answerTo p .lift (answerContent a) fun _ u => u.lifted p

def execLiftAnswer (p : PrinterId) (a : Answer) (s : State) : Result := .next (takeLiftAnswer p a s)

def takeAdvanceAnswer (p : PrinterId) (a : Answer) (s : State) : State :=
  s.printerEvent fun t => t.answerTo p .advance (answerContent a) fun purpose u => advanced u purpose

def execAdvanceAnswer (p : PrinterId) (a : Answer) (s : State) : Result := .next (takeAdvanceAnswer p a s)

def takeReadStripAnswer (p : PrinterId) (a : StripAnswer) (s : State) : State :=
  s.printerEvent fun t => t.answerTo p .readStrip (stripContent a) fun purpose u => u.stripRead p a purpose

def execReadStripAnswer (p : PrinterId) (a : StripAnswer) (s : State) : Result := .next (takeReadStripAnswer p a s)

def takePrintLineAnswer (p : PrinterId) (a : Answer) (s : State) : State :=
  s.printerEvent fun t => t.answerTo p (.printLine []) (answerContent a) fun purpose u => linePrinted u purpose

def execPrintLineAnswer (p : PrinterId) (a : Answer) (s : State) : Result := .next (takePrintLineAnswer p a s)

def takeEjectAnswer (p : PrinterId) (a : Answer) (s : State) : State :=
  s.printerEvent fun t => t.answerTo p .eject (answerContent a) fun purpose u => u.ejected p purpose

def execEjectAnswer (p : PrinterId) (a : Answer) (s : State) : Result := .next (takeEjectAnswer p a s)

def takeEnquireAnswer (p : PrinterId) (a : Answer) (s : State) : State :=
  s.printerEvent fun t => t.answerTo p .enquire (answerContent a) fun _ u => (u, .nothing)

def execEnquireAnswer (p : PrinterId) (a : Answer) (s : State) : Result := .next (takeEnquireAnswer p a s)

/-! ## Other frames (R105, R106, R205) -/

def takeSensorChange (p : PrinterId) (x : Sensors) (s : State) : State := s.printerEvent fun t => t.sensorFrame p x

def execSensorChange (p : PrinterId) (x : Sensors) (s : State) : Result := .next (takeSensorChange p x s)

def takeFrameSetAside (p : PrinterId) (content : FrameContent) (s : State) : State :=
  s.printerEvent fun t => t.frameSetAside p content

def execPrinterFrameSetAside (p : PrinterId) (content : FrameContent) (s : State) : Result :=
  .next (takeFrameSetAside p content s)

/-- The frame in hand on a printer line is discarded: nothing is sent for it, and it is no frame received (R205). -/
def State.dropFrame (s : State) (p : PrinterId) : State :=
  if s.printersRun then s.mapCtl p fun c => { c with receiver := .waitLead } else s

def execPrinterFrameDiscarded (p : PrinterId) (s : State) : Result := .next (s.dropFrame p)

def execPrinterLineGap (p : PrinterId) (s : State) : Result := .next (s.dropFrame p)

/-! ## Bytes (R204, R205) -/

/-- A frame of a printer line, as its bytes show it (R204, R205). -/
inductive PrinterFrame where
  | engage (a : Answer)
  | lift (a : Answer)
  | advance (a : Answer)
  | readStrip (a : StripAnswer)
  | printLine (a : Answer)
  | eject (a : Answer)
  | enquire (a : Answer)
  | sensorChange (x : Sensors)
  | other
  deriving DecidableEq, Repr

/-- The frame of an answer, if its result fits (R205). -/
def answerFrame (f : Answer → PrinterFrame) (result : List Byte) : PrinterFrame := (readAnswer result).elim .other f

/-- What a well-framed frame is, by its lead and body (R205). -/
def printerFrame (leadByte first : Byte) (rest : List Byte) : PrinterFrame :=
  if leadByte = leadA6 then
    match rest with
    | [sensors] => if first = 0x7F then .sensorChange (Sensors.ofByte sensors) else .other
    | _ => .other
  else match first.toNat with
    | 0x81 => answerFrame .engage rest
    | 0x82 => answerFrame .lift rest
    | 0x83 => answerFrame .advance rest
    | 0x84 => (readStripAnswer rest).elim .other .readStrip
    | 0x85 => answerFrame .printLine rest
    | 0x86 => answerFrame .eject rest
    | 0x87 => answerFrame .enquire rest
    | _ => .other

/-- A frame received on a printer line is taken, as its own row is (R205). -/
def takePrinterFrame (p : PrinterId) (s : State) : PrinterFrame → State
  | .engage a => takeEngageAnswer p a s
  | .lift a => takeLiftAnswer p a s
  | .advance a => takeAdvanceAnswer p a s
  | .readStrip a => takeReadStripAnswer p a s
  | .printLine a => takePrintLineAnswer p a s
  | .eject a => takeEjectAnswer p a s
  | .enquire a => takeEnquireAnswer p a s
  | .sensorChange x => takeSensorChange p x s
  | .other => takeFrameSetAside p .other s

/-- A byte arrives on a printer line (R205). -/
def State.printerByte (s : State) (p : PrinterId) (b : Byte) : State :=
  if s.printersRun then
    let r := (s.ctl p).receiver.take [leadA5, leadA6] b
    let s1 := s.mapCtl p fun c => { c with receiver := r.1 }
    match r.2 with
    | .frame leadByte first rest => takePrinterFrame p s1 (printerFrame leadByte first rest)
    | _ => s1
  else s

def execPrinterLineByteArrives (p : PrinterId) (b : Byte) (s : State) : Result := .next (s.printerByte p b)

/-! ## Timers -/

def execOperationDeadline (p : PrinterId) (s : State) : Result := .next (s.printerEvent fun t => t.deadline p)

/-- The settle time ends, if it runs (R111). -/
def State.settleEnds (s : State) (p : PrinterId) : State := if (s.ctl p).settling then s.settled p else s

def execSettleTime (p : PrinterId) (s : State) : Result := .next (s.printerEvent fun t => t.settleEnds p)

/-- The idle-lift timer expires, if it runs: LIFT is due (R122). -/
def State.idleLiftEnds (s : State) (p : PrinterId) : State :=
  if (s.ctl p).idleLift then (s.mapCtl p fun c => { c with idleLift := false }).sendOp p .lift .idleLift else s

def execIdleLiftTimer (p : PrinterId) (s : State) : Result := .next (s.printerEvent fun t => t.idleLiftEnds p)

def execEnquiryTimer (p : PrinterId) (s : State) : Result := .next (s.printerEvent fun t => t.enquire p)

/-- During the wait of PRINTER RESET: the enquiry deadline sends ENQUIRE again; the end of the 2 s replies OK with the
state, ABSENT (R130). -/
def State.resetWaitEvent (s : State) (p : PrinterId) (waitEnds : Bool) : State :=
  if (s.ctl p).resetWait then
    if waitEnds then s.finishReset p else s.transmit p .enquire .enquiry
  else s

def execPrinterResetWait (p : PrinterId) (waitEnds : Bool) (s : State) : Result :=
  .next (s.printerEvent fun t => t.resetWaitEvent p waitEnds)

end Sys2Proof.Machine
end

