-- ==== Sys2Proof/Machine/Dispatch.lean ====
section
/-! DEFINITION. The dispatch of the commands: one arm for each row of spec/opcode_table.json, in its order. -/

namespace Sys2Proof.Machine

def exec (i : Instr) (s : State) : Host.Outcome State Fault Refusal :=
  match i with
  | .readNotices l => Sys2Proof.Machine.execReadNotices l s
  | .setNoticeMask l mask => Sys2Proof.Machine.execSetNoticeMask l mask s
  | .readOutcomes l => Sys2Proof.Machine.execReadOutcomes l s
  | .abort l => Sys2Proof.Machine.execAbort l s
  | .readClock l => Sys2Proof.Machine.execReadClock l s
  | .setClock l stamp day rollHour => Sys2Proof.Machine.execSetClock l stamp day rollHour s
  | .signOn l clerk float => Sys2Proof.Machine.execSignOn l clerk float s
  | .void l issue => Sys2Proof.Machine.execVoid l issue s
  | .lift l session amount => Sys2Proof.Machine.execLift l session amount s
  | .setThresholds l high low => Sys2Proof.Machine.execSetThresholds l high low s
  | .readTill l session => Sys2Proof.Machine.execReadTill l session s
  | .readJournal l session position => Sys2Proof.Machine.execReadJournal l session position s
  | .writeBody l bytes => Sys2Proof.Machine.execWriteBody l bytes s
  | .issue l kind passengers base index tender coupons named text => Sys2Proof.Machine.execIssue l kind passengers base index tender coupons named text s
  | .cancel l issue => Sys2Proof.Machine.execCancel l issue s
  | .abortJob l issue => Sys2Proof.Machine.execAbortJob l issue s
  | .divert l printerA printerB => Sys2Proof.Machine.execDivert l printerA printerB s
  | .setWindowMap l session entries => Sys2Proof.Machine.execSetWindowMap l session entries s
  | .setDiscount l index rate floor step => Sys2Proof.Machine.execSetDiscount l index rate floor step s
  | .setStockKind l kind letter1 letter2 threshold => Sys2Proof.Machine.execSetStockKind l kind letter1 letter2 threshold s
  | .receivePack l kind first count => Sys2Proof.Machine.execReceivePack l kind first count s
  | .loadPack l slot printer => Sys2Proof.Machine.execLoadPack l slot printer s
  | .unloadPack l printer => Sys2Proof.Machine.execUnloadPack l printer s
  | .closePack l slot => Sys2Proof.Machine.execClosePack l slot s
  | .purgePack l slot => Sys2Proof.Machine.execPurgePack l slot s
  | .readPack l slot => Sys2Proof.Machine.execReadPack l slot s
  | .readException l => Sys2Proof.Machine.execReadException l s
  | .auditSet l slot serial => Sys2Proof.Machine.execAuditSet l slot serial s
  | .auditNext l => Sys2Proof.Machine.execAuditNext l s
  | .setPrinter l printer kind feed settle => Sys2Proof.Machine.execSetPrinter l printer kind feed settle s
  | .release l printer => Sys2Proof.Machine.execRelease l printer s
  | .takeOffline l printer => Sys2Proof.Machine.execTakeOffline l printer s
  | .bringOnline l printer => Sys2Proof.Machine.execBringOnline l printer s
  | .printerReset l printer => Sys2Proof.Machine.execPrinterReset l printer s
  | .readPrinters l => Sys2Proof.Machine.execReadPrinters l s
  | .readFaults l start => Sys2Proof.Machine.execReadFaults l start s
  | .acknowledge l entry => Sys2Proof.Machine.execAcknowledge l entry s
  | .cashupBegin l session => Sys2Proof.Machine.execCashupBegin l session s
  | .declareCash l session index count => Sys2Proof.Machine.execDeclareCash l session index count s
  | .declareCard l session total => Sys2Proof.Machine.execDeclareCard l session total s
  | .declareWarrants l session count total => Sys2Proof.Machine.execDeclareWarrants l session count total s
  | .cashupCommit l session => Sys2Proof.Machine.execCashupCommit l session s
  | .cashupAbandon l session => Sys2Proof.Machine.execCashupAbandon l session s
  | .setDenomination l index face => Sys2Proof.Machine.execSetDenomination l index face s
  | .setTolerance l tolerance => Sys2Proof.Machine.execSetTolerance l tolerance s
  | .readCashup l => Sys2Proof.Machine.execReadCashup l s
  | .review l record => Sys2Proof.Machine.execReview l record s
  | .unknownRequest l code => Sys2Proof.Machine.execUnknownRequest l code s
  | .rejected l first => Sys2Proof.Machine.execRejected l first s
  | .gapTimer l => Sys2Proof.Machine.execGapTimer l s
  | .frameSent l => Sys2Proof.Machine.execFrameSent l s
  | .engageAnswer p answer => Sys2Proof.Machine.execEngageAnswer p answer s
  | .liftAnswer p answer => Sys2Proof.Machine.execLiftAnswer p answer s
  | .advanceAnswer p answer => Sys2Proof.Machine.execAdvanceAnswer p answer s
  | .readStripAnswer p answer => Sys2Proof.Machine.execReadStripAnswer p answer s
  | .printLineAnswer p answer => Sys2Proof.Machine.execPrintLineAnswer p answer s
  | .ejectAnswer p answer => Sys2Proof.Machine.execEjectAnswer p answer s
  | .enquireAnswer p answer => Sys2Proof.Machine.execEnquireAnswer p answer s
  | .sensorChange p set => Sys2Proof.Machine.execSensorChange p set s
  | .printerFrameSetAside p content => Sys2Proof.Machine.execPrinterFrameSetAside p content s
  | .printerFrameDiscarded p => Sys2Proof.Machine.execPrinterFrameDiscarded p s
  | .printerLineGap p => Sys2Proof.Machine.execPrinterLineGap p s
  | .operationDeadline p => Sys2Proof.Machine.execOperationDeadline p s
  | .settleTime p => Sys2Proof.Machine.execSettleTime p s
  | .idleLiftTimer p => Sys2Proof.Machine.execIdleLiftTimer p s
  | .enquiryTimer p => Sys2Proof.Machine.execEnquiryTimer p s
  | .printerResetWait p waitEnds => Sys2Proof.Machine.execPrinterResetWait p waitEnds s
  | .drawerPulseEnd n => Sys2Proof.Machine.execDrawerPulseEnd n s
  | .lampFlash p => Sys2Proof.Machine.execLampFlash p s
  | .clockTick => Sys2Proof.Machine.execClockTick s
  | .dayRoll => Sys2Proof.Machine.execDayRoll s
  | .pfailAsserted => Sys2Proof.Machine.execPfailAsserted s
  | .rstAsserted => Sys2Proof.Machine.execRstAsserted s
  | .startUp straps stage => Sys2Proof.Machine.execStartUp straps stage s
  | .requestLineByteArrives l byte => Sys2Proof.Machine.execRequestLineByteArrives l byte s
  | .printerLineByteArrives p byte => Sys2Proof.Machine.execPrinterLineByteArrives p byte s
  | .backupSupplyLost how => Sys2Proof.Machine.execBackupSupplyLost how s

end Sys2Proof.Machine
end

