-- ==== Sys2Proof/WellFormed.lean ====
section
/-! DEFINITION. Well-formed commands: those a frame of the request or printer lines can carry (R177, R201-R204). A request's
fields fit the widths of its layout, an ISSUE names a printer on the office line alone, and a body fits a frame; a read
serial fits its three bytes; an UNKNOWN_REQUEST frame carries a code that names no request. A field may still be out of its
range: the owning rule refuses it. -/

namespace Sys2Proof

/-- A number fits a field of `w` bytes (R201). -/
def fits (w n : Nat) : Bool := n < 256 ^ w

/-- The request codes (R203). -/
def isRequestCode (code : Byte) : Bool :=
  let n := code.toNat
  (1 ≤ n && n ≤ 0x06) || (0x10 ≤ n && n ≤ 0x16) || (0x20 ≤ n && n ≤ 0x25) || (0x30 ≤ n && n ≤ 0x39) ||
    (0x40 ≤ n && n ≤ 0x47) || (0x50 ≤ n && n ≤ 0x59)

/-- A command that the lines can carry. -/
def Instr.wellFormed : Instr → Bool
  | .readNotices _ => true
  | .setNoticeMask _ _ => true
  | .readOutcomes _ => true
  | .abort _ => true
  | .readClock _ => true
  | .setClock _ stamp day rollHour => fits 4 stamp && fits 2 day && fits 1 rollHour
  | .signOn _ clerk float => fits 2 clerk && fits 4 float
  | .void _ number => fits 3 number
  | .lift _ session amount => fits 1 session && fits 4 amount
  | .setThresholds _ high low => fits 4 high && fits 4 low
  | .readTill _ session => fits 1 session
  | .readJournal _ session position => fits 1 session && fits 1 position
  | .writeBody _ bytes => bytes.length ≤ 249
  | .issue l kind passengers base index tender coupons named text =>
    fits 1 kind && fits 1 passengers && fits 4 base && fits 1 index && fits 1 tender && fits 1 coupons &&
      (named.isSome == (l == officeLine)) && named.all (fits 1) && text.length ≤ 12
  | .cancel _ number => fits 3 number
  | .abortJob _ number => fits 3 number
  | .divert _ printerA printerB => fits 1 printerA && fits 1 printerB
  | .setWindowMap _ session entries => fits 1 session && entries.toList.all fun e => fits 1 e.1 && fits 1 e.2
  | .setDiscount _ index rate floor step => fits 1 index && fits 2 rate && fits 4 floor && fits 1 step
  | .setStockKind _ kind _ _ threshold => fits 1 kind && fits 2 threshold
  | .receivePack _ kind first count => fits 1 kind && fits 3 first && fits 2 count
  | .loadPack _ slot printer => fits 1 slot && fits 1 printer
  | .unloadPack _ printer => fits 1 printer
  | .closePack _ slot => fits 1 slot
  | .purgePack _ slot => fits 1 slot
  | .readPack _ slot => fits 1 slot
  | .readException _ => true
  | .auditSet _ slot serial => fits 1 slot && fits 3 serial
  | .auditNext _ => true
  | .setPrinter _ printer kind feed settle => fits 1 printer && fits 1 kind && fits 1 feed && fits 1 settle
  | .release _ printer => fits 1 printer
  | .takeOffline _ printer => fits 1 printer
  | .bringOnline _ printer => fits 1 printer
  | .printerReset _ printer => fits 1 printer
  | .readPrinters _ => true
  | .readFaults _ start => fits 2 start
  | .acknowledge _ entry => fits 2 entry
  | .cashupBegin _ session => fits 1 session
  | .declareCash _ session index count => fits 1 session && fits 1 index && fits 2 count
  | .declareCard _ session total => fits 1 session && fits 4 total
  | .declareWarrants _ session count total => fits 1 session && fits 2 count && fits 4 total
  | .cashupCommit _ session => fits 1 session
  | .cashupAbandon _ session => fits 1 session
  | .setDenomination _ index face => fits 1 index && fits 2 face
  | .setTolerance _ tolerance => fits 2 tolerance
  | .readCashup _ => true
  | .review _ record => fits 2 record
  | .unknownRequest _ code => !isRequestCode code
  | .rejected _ _ => true
  | .gapTimer _ => true
  | .frameSent _ => true
  | .engageAnswer _ _ => true
  | .liftAnswer _ _ => true
  | .advanceAnswer _ _ => true
  | .readStripAnswer _ answer =>
    match answer with
    | .strip _ _ _ serial _ => fits 3 serial
    | .noForm _ => true
    | .refused _ => true
  | .printLineAnswer _ _ => true
  | .ejectAnswer _ _ => true
  | .enquireAnswer _ _ => true
  | .sensorChange _ _ => true
  | .printerFrameSetAside _ _ => true
  | .printerFrameDiscarded _ => true
  | .printerLineGap _ => true
  | .operationDeadline _ => true
  | .settleTime _ => true
  | .idleLiftTimer _ => true
  | .enquiryTimer _ => true
  | .printerResetWait _ _ => true
  | .drawerPulseEnd _ => true
  | .lampFlash _ => true
  | .clockTick => true
  | .dayRoll => true
  | .pfailAsserted => true
  | .rstAsserted => true
  | .startUp _ _ => true
  | .requestLineByteArrives _ _ => true
  | .printerLineByteArrives _ _ => true
  | .backupSupplyLost _ => true

end Sys2Proof
end

