-- ==== Sys2Proof/Safety.lean ====
section
/-! DEFINITION. What a safe state of the TC-46 is, block by block, in the terms the claims use: the bounds of its stores, the
agreement of its tables, and the lines that are ready for a request. -/

namespace Sys2Proof.Machine

/-! ## Requests and replies -/

/-- A line that takes requests: the lines are open, no deferred request is held and fewer than 4 replies wait (R179, R180,
R182). -/
abbrev State.Ready (s : State) (l : Line) : Prop :=
  s.phase = .running ∧ (s.line l).deferred = none ∧ (s.line l).replies.length < 4

/-- The state with a reply made on a line, before its transmitter looks: the receiver in WAIT LEAD and the reply behind the
waiting ones (R178-R180). -/
def State.answered (s : State) (l : Line) (code : Byte) (status : Status) (fields : List Byte) : State :=
  (s.frameEnded l).queueReply l ⟨replyBody code status fields, none⟩

/-- The state with a reply made on a line, an idle transmitter taking what waits (R179). -/
def State.said (s : State) (l : Line) (code : Byte) (status : Status) (fields : List Byte) : State :=
  (s.answered l code status fields).pump l

/-- The drawer state of a session has been evaluated anew: a change from the state before it into HIGH or LOW raises that
state's notice (R62). -/
def State.drawerNoticed (s : State) (n : SessionId) (before : DrawerState) : State :=
  if (s.session n).drawer = before then s
  else match (s.session n).drawer with
    | .high => s.raise .drawerHigh (.session n)
    | .low => s.raise .drawerLow (.session n)
    | .normal => s

/-- A line has nothing queued and sends nothing. -/
abbrev LineState.Quiet (ln : LineState) : Prop := ln.replies = [] ∧ ln.sending = none ∧ ln.notice = false

/-! ## Commands in a row, and frames in bytes (R177, R204) -/

/-- Commands run one after another, each on the state the one before leaves. -/
def runCommands : List Instr → State → Result
  | [], s => .next s
  | c :: rest, s =>
    match exec c s with
    | .next t => runCommands rest t
    | other => other

/-- The result part of an answer to an operation other than READ STRIP (R204). -/
def answerBytes : Answer → List Byte
  | .ok x => [0x00, Sensors.toByte x]
  | .refused .jam => [0x01]
  | .refused .noForms => [0x02]
  | .refused .coverOpen => [0x03]
  | .refused .headFault => [0x04]

/-- The result part of an answer to READ STRIP (R204). -/
def stripBytes : StripAnswer → List Byte
  | .noForm x => [0x00, Sensors.toByte x, 0x00]
  | .strip good letter1 letter2 serial x =>
    [0x00, Sensors.toByte x, 0x01, if good then 1 else 0, letter1, letter2] ++ be 3 serial
  | .refused why => answerBytes (.refused why)

/-- The printer, the lead byte and the body of the frame of a printer's command (R204); none for a command that no frame of
R204 carries. -/
def printerBody : Instr → Option (PrinterId × Byte × List Byte)
  | .engageAnswer p a => some (p, 0xA5, 0x81 :: answerBytes a)
  | .liftAnswer p a => some (p, 0xA5, 0x82 :: answerBytes a)
  | .advanceAnswer p a => some (p, 0xA5, 0x83 :: answerBytes a)
  | .readStripAnswer p a => some (p, 0xA5, 0x84 :: stripBytes a)
  | .printLineAnswer p a => some (p, 0xA5, 0x85 :: answerBytes a)
  | .ejectAnswer p a => some (p, 0xA5, 0x86 :: answerBytes a)
  | .enquireAnswer p a => some (p, 0xA5, 0x87 :: answerBytes a)
  | .sensorChange p x => some (p, 0xA6, [0x7F, Sensors.toByte x])
  | _ => none

/-- The body of a well-framed A5h frame is that of an answer: an operation's code + 80h, one of the five results, and the
length the result asks, for READ STRIP by its form byte (R204, R205). -/
def printerAnswerFits (first : Byte) (rest : List Byte) : Bool :=
  decide (0x81 ≤ first.toNat ∧ first.toNat ≤ 0x87) &&
    match rest with
    | [result] => decide (1 ≤ result.toNat ∧ result.toNat ≤ 4)
    | [result, _] => result == 0 && first != 0x84
    | [result, _, form] => first == 0x84 && result == 0 && form == 0
    | [result, _, form, _, _, _, _, _, _] => first == 0x84 && result == 0 && form == 1
    | _ => false

/-! ## Physical faults (R106, R118, R120, R137) -/

/-- A sensor set shows a sensor bad that was good in the set kept before it, or with no set kept (R137). -/
def Sensors.worsens (x : Sensors) (kept : Option Sensors) : Bool :=
  (!x.coverClosed && kept.all (·.coverClosed)) || (!x.headGood && kept.all (·.headGood)) ||
    (!x.formsPresent && kept.all (·.formsPresent))

/-- What a sensor set does to a printer that is not ABSENT once the result of the answer that carries it has been taken
(R106, R137): it is kept, and the fault of each sensor it newly shows bad arises, COVER OPEN first, then HEAD FAULT, then NO
FORMS. -/
def State.struck (r : State) (p : PrinterId) (x : Sensors) : State :=
  let fell (sensor : Sensors → Bool) : Bool := !sensor x && (r.ctl p).sensors.all sensor
  let r1 := r.putCtl p { r.ctl p with sensors := some x }
  let r2 := if fell (·.coverClosed) then r1.physicalFault p .coverOpen else r1
  let r3 := if fell (·.headGood) then r2.physicalFault p .headFault else r2
  if fell (·.formsPresent) then r3.physicalFault p .noForms else r3

/-- A form of the job in progress is at the head and VERIFIED, the job not marked, its controller `d` (R70, R76, R112, R115,
R116): the form-in-hand mark is set, the body expanded for the cursor's serial with its flags, and the first line sent. -/
def State.printBegun (s : State) (p : PrinterId) (g : Progress) (serial : Nat) (d : Controller) : State :=
  let lines := expandBody (s.bodyFacts g.job serial) g.job.body
  let j := { g.job with
    substituted := g.job.substituted || lines.2.1, truncated := g.job.truncated || lines.2.2 }
  let sent (op : Operation) (st : PrinterState) (n : Nat) : State := s.putCtl p { d with
    state := st, idleLift := false, expansion := lines.1, linesSent := n
    outstanding := some ⟨op, .loop, false⟩, sending := some op.frame }
  match lines.1 with
  | first :: _ => (sent (.printLine first) .printing 1).putProgress p (some ⟨j, true⟩)
  | [] => (sent .eject .ejecting 0).putProgress p (some ⟨j, true⟩)

/-- A pack after its cursor has moved past one form: SPENT at its end, its stock-low flag set by the movement that brings the
remaining count to the threshold (R11-R13). A pack that is not LOADED stays (log entry 28). -/
def Pack.pastOne (k : Pack) (threshold : Nat) : Pack :=
  if k.state = .loaded then
    { k with
      cursor := k.cursor + 1
      state := if k.cursor + 1 = k.first + k.count then .spent else .loaded
      lowFlag := k.lowFlag || (decide (threshold < k.first + k.count - k.cursor) &&
        decide (k.first + k.count - (k.cursor + 1) ≤ threshold)) }
  else k

/-- A fault now would spoil the form in hand: the job is at work, its form-in-hand mark set and a line sent (R118). -/
def State.formAtRisk (s : State) (p : PrinterId) : Bool :=
  (s.ctl p).state.busy && decide (0 < (s.ctl p).linesSent) && (s.loadedPack p).isSome &&
    (s.inProgress p).any fun g => g.job.state == .printing && g.formInHand

/-- The printer after a physical fault: in FAULT, or OFFLINE as it was, with no loop, waste eject or load left, the head and
the form position as R118 and R120 say. -/
abbrev Controller.FaultedFrom (c d : Controller) (k : FaultKind) (spoiled : Bool) : Prop :=
  d.state = (if c.state = .offline then .offline else .fault) ∧ d.faultOpen = true ∧
  d.expansion = [] ∧ d.settling = false ∧ d.load = none ∧ d.waiting.all (fun w => !w.isWork) = true ∧
  d.outstanding.all (fun o => !o.purpose.isWork) = true ∧ (k = .linkLost → d.linkLost = true) ∧
  d.head = (if k = .coverOpen then .lifted else c.head) ∧
  d.position = (if k = .headFault ∧ spoiled = false then c.position else .unknown)

/-- A physical fault has stopped a printer's work (R10, R93, R95, R100, R106, R118, R120, R125): from the state before it to
one after it. The printer is as above, and its OPEN entry, new with the job's session or the one before, has the kind of the
fault as its own or among the later ones (R137-R139). A form at risk is SPOILED: its record, the cursor, the failure count. A
job at work is SUSPENDED, or has ended by its third failure or its abort mark with an INCOMPLETE record a printed coupon;
another job stays as it is. -/
abbrev State.StoppedBy (s t : State) (p : PrinterId) (k : FaultKind) : Prop :=
  (s.ctl p).FaultedFrom (t.ctl p) k (s.formAtRisk p) ∧
  t.log.entries.any (fun e => e.isOpenOf p && (e.kind == k || e.laterKinds.getLsbD (k.code - 1)) &&
    ((s.openEntry p).isSome || (e.number == s.log.next && e.openedAt == ⟨s.clock.now, s.clock.day⟩ && e.strip == none &&
      e.session == (s.inProgress p).map (·.job.session)))) = true ∧
  (∀ slot, t.pack slot = if s.formAtRisk p = true ∧ s.loaded p = some slot then
      (s.pack slot).map fun x => x.pastOne (s.kind x.kind).threshold
    else s.pack slot) ∧
  (s.inProgress p = none → t.inProgress p = none ∧ t.stock.exceptions = s.stock.exceptions) ∧
  ∀ g, s.inProgress p = some g →
    let j := g.job
    let made (reason : Reason) (c : Coupon) : ExceptionRecord :=
      ⟨c.slot, c.serial, 1, reason, some j.session, (s.session j.session).clerk, ⟨s.clock.now, s.clock.day⟩, false⟩
    let spoiled := if s.formAtRisk p then (s.loadedPack p).toList.map fun x => made .spoiled ⟨x.1, x.2.cursor⟩ else []
    if j.state = .printing ∧ (s.ctl p).state.busy = true then
      if 3 ≤ j.failures + spoiled.length ∨ j.abortMark = true then
        t.inProgress p = none ∧ t.stock.exceptions = s.stock.exceptions ++ spoiled ++ j.printed.map (made .incomplete)
      else
        t.inProgress p = some ⟨{ j with
          state := .suspended, failures := j.failures + spoiled.length, reservation := j.reservation - spoiled.length },
          false⟩ ∧
        t.stock.exceptions = s.stock.exceptions ++ spoiled
    else t.inProgress p = some g ∧ t.stock.exceptions = s.stock.exceptions

/-- What a physical fault on a printer leaves alone: the settings and the clock, the lanes, the drawer outputs, the other
printers and their jobs, the other sessions, and of each line its body, mask, receiver and frame being sent. -/
abbrev State.FaultFrame (s t : State) (p : PrinterId) : Prop :=
  t.discounts = s.discounts ∧ t.maps = s.maps ∧ t.configs = s.configs ∧ t.clock = s.clock ∧ t.audit = s.audit ∧
  t.pending = s.pending ∧ t.draws = s.draws ∧ t.pfail = s.pfail ∧ t.rst = s.rst ∧ t.straps = s.straps ∧
  t.startResult = s.startResult ∧ t.setAside = s.setAside ∧ t.phase = s.phase ∧ t.lanes = s.lanes ∧ t.drawers = s.drawers ∧ t.stock.loaded = s.stock.loaded ∧
  t.stock.kinds = s.stock.kinds ∧ t.till = { s.till with sessions := t.till.sessions } ∧
  (∀ q, q ≠ p → t.ctl q = s.ctl q ∧ t.inProgress q = s.inProgress q) ∧
  (∀ n, (s.inProgress p).all (fun g => g.job.session != n) = true → t.session n = s.session n) ∧
  ∀ l, (t.line l).body = (s.line l).body ∧ (t.line l).mask = (s.line l).mask ∧
    (t.line l).receiver = (s.line l).receiver ∧ (t.line l).sending = (s.line l).sending

/-- The end that a physical fault brings a job at work to: by its third failure, else by its abort mark, else none (R95,
R100, R118). -/
def State.faultEnds (s : State) (p : PrinterId) : Option JobResult :=
  if s.midForm p then (s.inProgress p).bind fun g =>
    if 3 ≤ g.job.failures + (if s.formAtRisk p then 1 else 0) then some .failures
    else if g.job.abortMark then some .aborted else none
  else none

/-- The notices a physical fault raises: PRINTER CHANGE on the move to the group FAULT, FAULT OPENED for a new entry or a kind
new to the OPEN one, ISSUE FAILED for a job it ends, STOCK LOW for the spoiled form that brings its pack to the threshold
(R13, R95, R138, R139, R185). -/
def State.faultNotices (s : State) (p : PrinterId) (k : FaultKind) : List (NoticeClass × Subject) :=
  (if (s.ctl p).state ∈ [.fault, .offline] then [] else [(.printerChange, .printer p)]) ++
  (match s.openEntry p with
    | none => [(if k = .noPack then .noPack else .faultOpened, .printer p)]
    | some e => if k = e.kind ∨ e.laterKinds.getLsbD (k.code - 1) = true then [] else [(.faultOpened, .printer p)]) ++
  (match s.faultEnds p, s.inProgress p with
    | some _, some g => [(.issueFailed, .session g.job.session)]
    | _, _ => []) ++
  (match s.loadedPack p with
    | some (_, x) => match x.location with
      | some q => if s.formAtRisk p ∧ x.lowFlag = false ∧ (x.pastOne (s.kind x.kind).threshold).lowFlag = true then
          [(.stockLow, .printer q)] else []
      | none => []
    | none => [])

/-- What a physical fault on a printer tells and counts (R10, R19, R21, R50, R52, R95, R96, R118, R137-R139, R182, R185): the
log as the arising of its kind leaves it; on each line the notices it raises; the LOAD PACK in hand replied ABORTED; the
outcome, the charge and the coupons of a job it ends; the failed form of the job's kind; the reservation and the records-low
condition; and the word VALID after an update of the retained store. -/
abbrev State.FaultTold (s t : State) (p : PrinterId) (k : FaultKind) : Prop :=
  t.log = (s.enterFault p k none).log ∧
  (∀ l, t.line l =
    let ln := ((s.faultNotices p k).foldl (fun u x => u.raise x.1 x.2) s).line l
    let ln := match s.faultEnds p, s.inProgress p with
      | some r, some g => if l ≠ officeLine ∧ g.job.session = l then { ln with
          outcomes := joinOutcome ln.outcomes
            ⟨l, g.job.issue, r, g.job.printed, g.job.substituted, g.job.truncated⟩ } else ln
      | _, _ => ln
    match ln.deferred with
    | some d => if l = officeLine ∧ (s.ctl p).load.isSome = true then
        let code : Byte := match d with
          | .loadPack _ => 0x32
          | .printerReset _ => 0x44
        { ln with deferred := none, replies := ln.replies ++ [⟨replyBody code .aborted [], none⟩] } else ln
    | none => ln) ∧
  (∀ g, s.inProgress p = some g →
    let j := g.job
    let n := j.session
    let x := s.session n
    let old := x.counters[j.kind]
    let y := x.tally j.tender
    let ends := (s.faultEnds p).isSome
    let counters := x.counters.set j.kind { old with
      failed := if s.formAtRisk p then min (old.failed + 1) 9999999 else old.failed
      incomplete := if ends = true ∧ j.printed ≠ [] then min (old.incomplete + j.printed.length) 9999999
        else old.incomplete }
    t.session n = { (if ends then x.setTally j.tender { y with
        pendingTotal := y.pendingTotal - j.total, pendingCount := y.pendingCount - 1 } else x) with counters := counters } ∧
    t.stock.reservation = s.stock.reservation -
      (if ends then j.reservation else if s.formAtRisk p then 1 else 0)) ∧
  (s.inProgress p = none → t.till = s.till ∧ t.stock = s.stock) ∧
  t.stock.recordsLow = decide (256 - (t.stock.exceptions.length + t.stock.reservation) < 32) ∧
  t.signature = if t.log = s.log ∧ t.progress = s.progress then s.signature else .valid

/-! ## Bounds (R53, R67, R89, R150, R168, R179, R188) -/

/-- Lanes, journals, outcome lists, body buffers and reply queues hold no more than they may. -/
abbrev State.QueuesBounded (s : State) : Prop :=
  (∀ p, (s.lane p).office.length ≤ 2 ∧ (s.lane p).window.length ≤ 8) ∧
  (∀ n, (s.session n).journal.length ≤ 32) ∧
  (∀ l, (s.line l).outcomes.length ≤ 8 ∧ (s.line l).body.length ≤ 192) ∧
  (s.line officeLine).outcomes = []

/-- No line holds more than 4 waiting replies, but for the office line's fifth, the reply of a deferred request or of the
ABORT that ends it; no window line holds a deferred request (R179, R182). -/
abbrev State.RepliesBounded (s : State) : Prop :=
  ∀ l, if l = officeLine then
      (s.line l).replies.length + (if (s.line l).deferred.isSome then 1 else 0) ≤ 5
    else (s.line l).replies.length ≤ 4 ∧ (s.line l).deferred = none

/-- At most 32 entries, at most one OPEN entry per printer, and none of the part (R143, R150, R151). -/
abbrev State.LogSound (s : State) : Prop :=
  s.log.entries.length ≤ 32 ∧ (∀ e ∈ s.log.entries, e.state = .opened → e.source.isSome) ∧
  ∀ p, (s.log.entries.filter (·.isOpenOf p)).length ≤ 1

/-- No two entries share a number, and the next entry number is held by none (R136). -/
abbrev State.NumbersDistinct (s : State) : Prop :=
  s.log.entries.length ≤ 32 ∧ (s.log.entries.map (·.number)).Nodup ∧ s.log.next ∉ s.log.entries.map (·.number)

/-! ## The till (R48, R49, R60) -/

/-- Every drawer estimate equals float + cash settled − cash voided − lifts (R60). -/
abbrev State.EstimatesRight (s : State) : Prop :=
  ∀ n, (s.session n).estimate + (s.session n).cash.voidedTotal + (s.session n).liftsTotal =
    (s.session n).float + (s.session n).cash.settledTotal

/-- The charges of the ISSUED journal entries of a tender. -/
def issuedTotal (t : Tender) (journal : List JournalEntry) : Nat :=
  ((journal.filter fun e => !e.isVoided && e.tender == t).map (·.total)).sum

/-- What is voided and what may still be voided was settled (R48, R57). -/
abbrev State.VoidsCovered (s : State) : Prop :=
  ∀ n t, ((s.session n).tally t).voidedTotal + issuedTotal t (s.session n).journal ≤ ((s.session n).tally t).settledTotal

/-- The jobs of a session and tender in any lane or in progress (R49). -/
def State.outstandingJobs (s : State) (n : SessionId) (t : Tender) : List Job :=
  (printers.flatMap fun p =>
    (s.lane p).office ++ (s.lane p).window ++ ((s.inProgress p).map (·.job)).toList).filter
      fun j => j.session == n && j.tender == t

/-- Every pending total is the sum of the charges of the jobs outstanding, and every pending count their number (R49). -/
abbrev State.PendingRight (s : State) : Prop :=
  ∀ n t, ((s.session n).tally t).pendingTotal = ((s.outstandingJobs n t).map (·.total)).sum ∧
    ((s.session n).tally t).pendingCount = (s.outstandingJobs n t).length

/-! ## Exception records (R20, R21) -/

/-- A job in progress as R21 needs it: fewer than 3 failures, a coupon still to print of at most 4, and a reservation that
covers what it may yet write. -/
abbrev Job.Covered (j : Job) : Prop :=
  j.failures ≤ 2 ∧ j.printed.length < j.requested ∧ j.requested ≤ 4 ∧ j.reservation ≤ 6 ∧ 6 ≤ j.reservation + j.failures

/-- A queued job as R80 and R101 leave it: no coupon printed, fewer than 3 failures, 1-4 coupons requested. -/
abbrev Job.Waiting (j : Job) : Prop := j.printed = [] ∧ j.failures ≤ 2 ∧ 1 ≤ j.requested ∧ j.requested ≤ 4

/-- The reservations of the jobs in progress. -/
def State.reserved (s : State) : Nat :=
  (printers.map fun p => match s.inProgress p with
    | some g => g.job.reservation
    | none => 0).sum

/-- The reservation count is the sum of the jobs' reservations; with the records in use it never passes 256; every job is
covered (R20, R21). -/
abbrev State.RecordsCovered (s : State) : Prop :=
  s.stock.reservation = s.reserved ∧ s.stock.exceptions.length + s.stock.reservation ≤ 256 ∧
  (∀ p g, s.inProgress p = some g → g.job.Covered) ∧
  ∀ p, (∀ j ∈ (s.lane p).office, j.Waiting) ∧ ∀ j ∈ (s.lane p).window, j.Waiting

/-! ## Packs (R3, R4, R6, R7) -/

/-- A pack's figures and its state agree (R3, R6). -/
abbrev Pack.Sound (k : Pack) : Prop :=
  1 ≤ k.count ∧ k.first + k.count ≤ 1000000 ∧ k.first ≤ k.cursor ∧ k.cursor ≤ k.endSerial ∧
  (k.state = .received ∨ k.state = .unloaded → k.cursor < k.endSerial ∧ k.location = none) ∧
  (k.state = .loaded → k.cursor < k.endSerial ∧ k.location.isSome = true) ∧
  (k.state = .spent → k.cursor = k.endSerial) ∧
  (k.state = .closed → k.cursor = k.endSerial ∧ k.location = none)

/-- The pack in a slot, if any, is sound, and its location and the printers' loaded packs name each other; a loaded pack is
of its printer's kind; a load in hand is of a pack in the office, on a printer of its kind with no pack loaded (R6-R8). -/
abbrev State.PacksSound (s : State) : Prop :=
  (∀ slot k, s.pack slot = some k → k.Sound ∧ (∀ p, k.location = some p ↔ s.loaded p = some slot) ∧
    ∀ p, k.location = some p → (s.config p).kind = some k.kind) ∧
  (∀ slot, s.pack slot = none → ∀ p, s.loaded p ≠ some slot) ∧
  (s.printersRun = true → ∀ p g, (s.ctl p).load = some g →
    (s.pack g.slot).isSome = true ∧ ∀ k, s.pack g.slot = some k →
      (k.state = .received ∨ k.state = .unloaded) ∧ s.loaded p = none ∧ (s.config p).kind = some k.kind)

/-! ## The printers, their work and their entries (R8, R107, R125, R126, R143, R182) -/

/-- A printer's OPEN entries. -/
def State.openCount (s : State) (p : PrinterId) : Nat := (s.log.entries.filter (·.isOpenOf p)).length

/-- A step of the coupon loop or of a waste eject. -/
def Waiting.isLoop : Waiting → Bool
  | .loopStart => true
  | .loadStep => false
  | .op _ purpose => purpose == .loop || purpose == .waste

/-- A step of a load. -/
def Waiting.isLoad : Waiting → Bool
  | .loopStart => false
  | .loadStep => true
  | .op _ purpose => purpose == .load

/-- The steps of the coupon loop or of a waste eject that a controller has outstanding, waiting or settling. -/
def Controller.loopSteps (c : Controller) : Nat :=
  (match c.outstanding with
    | some o => if o.purpose = .loop ∨ o.purpose = .waste then 1 else 0
    | none => 0) + c.waiting.countP (·.isLoop) + if c.settling && c.load.isNone then 1 else 0

/-- The steps of a load that a controller has outstanding, waiting or settling. -/
def Controller.loadSteps (c : Controller) : Nat :=
  (match c.outstanding with
    | some o => if o.purpose = .load then 1 else 0
    | none => 0) + c.waiting.countP (·.isLoad) + if c.settling && c.load.isSome then 1 else 0

/-- The state of a printer whose load was taken in a state (R8). -/
abbrev Load.Placed (g : Load) (st : PrinterState) : Prop :=
  (g.takenIn = .idle ∧ st.busy = true) ∨ (g.takenIn = .held ∧ st = .held) ∨ (g.takenIn = .offline ∧ st = .offline)

/-- A controller whose faults, hold and work agree with its state: a physical fault is open in FAULT, and elsewhere only in
OFFLINE; the held flag is set in HELD, and elsewhere only in FAULT and OFFLINE; at most one step of a loop or of a load is
under way, a loop's only in ENGAGING to EJECTING; a load shows the state it was taken in; the operation outstanding has its
frame on the line; nothing waits without an operation outstanding or behind a step of a loop or load, and the idle-lift timer
runs in IDLE alone (R8, R104, R107, R109, R122, R125, R204). -/
abbrev Controller.Sound (c : Controller) : Prop :=
  (c.faultOpen = true → c.state = .fault ∨ c.state = .offline) ∧
  (c.state = .fault → c.faultOpen = true) ∧
  (c.state = .held → c.held = true) ∧
  (c.held = true → c.state = .held ∨ c.state = .fault ∨ c.state = .offline) ∧
  c.loopSteps ≤ 1 ∧ (0 < c.loopSteps → c.state.busy = true ∧ c.load = none) ∧
  c.loadSteps ≤ 1 ∧ (0 < c.loadSteps → c.load.isSome) ∧
  c.outstanding.all (fun o => c.sending == some o.op.frame) = true ∧
  (c.waiting ≠ [] → c.outstanding.any (fun o => !o.purpose.isWork) = true) ∧ c.waiting.dropLast.any (·.isWork) = false ∧
  (c.idleLift = true → c.state = .idle) ∧
  ∀ g, c.load = some g → g.Placed c.state

/-- A printer has one OPEN entry while a physical fault is open or its held flag set, and none otherwise; and a load taken
from HELD has a NO PACK entry OPEN (R8, R143). -/
abbrev State.EntryMatches (s : State) (p : PrinterId) : Prop :=
  s.openCount p = (if (s.ctl p).faultOpen || (s.ctl p).held then 1 else 0) ∧
  ∀ g, (s.ctl p).load = some g → g.takenIn = .held → s.heldForNoPack p = true

/-- A load is in hand on a printer exactly while its LOAD PACK is the office line's deferred request, and a reset waits
exactly while its PRINTER RESET is (R8, R130, R182). -/
abbrev State.DeferredMatches (s : State) (p : PrinterId) : Prop :=
  ((s.ctl p).load.isSome ↔ (s.line officeLine).deferred = some (.loadPack p)) ∧
  ((s.ctl p).resetWait = true ↔ (s.line officeLine).deferred = some (.printerReset p))

/-- The printers run, their work, their entries and the deferred request agreeing; before that no request is deferred, and
when start-up is about to set the controllers no entry is OPEN (R143, R153, R182, R190). -/
abbrev State.PrintersSound (s : State) : Prop :=
  (∀ l, l ≠ officeLine ∨ s.phase ≠ .running → (s.line l).deferred = none) ∧
  (s.printersRun = true → ∀ p, (s.ctl p).Sound ∧ s.EntryMatches p ∧ s.DeferredMatches p) ∧
  (s.phase = .starting 6 → ∀ p, s.openCount p = 0)

/-! ## Invariants of every step -/

/-- The queues hold no more than they may, and so do the waiting replies; a request is deferred on a running part's office
line only. -/
abbrev State.BoundsKept (s : State) : Prop := s.QueuesBounded ∧ s.RepliesBounded

/-- The log holds at most 32 entries and one OPEN entry per printer, and no number twice (R136, R143, R150). -/
abbrev State.LogKept (s : State) : Prop := s.LogSound ∧ s.NumbersDistinct

/-- Estimates and voids agree with the tallies (R48, R57, R60). -/
abbrev State.TillKept (s : State) : Prop := s.EstimatesRight ∧ s.VoidsCovered

/-- An office lane holds session 7's jobs, and a window lane those of the windows (R89). -/
abbrev State.LanesApart (s : State) : Prop :=
  ∀ p, (∀ j ∈ (s.lane p).office, j.session = officeLine) ∧ ∀ j ∈ (s.lane p).window, j.session ≠ officeLine

/-- A session with a job outstanding is OPEN (R49, R156). -/
abbrev State.OpenWhilePending (s : State) : Prop := ∀ n, (s.session n).state = .opened ∨ (s.session n).outstanding = 0

/-- No job in a lane has its abort mark set, nor a SUSPENDED one: ABORT JOB ends such a job at once (R81, R100). -/
abbrev State.MarksSettled (s : State) : Prop :=
  (∀ p, ∀ j ∈ (s.lane p).office ++ (s.lane p).window, j.abortMark = false) ∧
  ∀ p g, s.inProgress p = some g → g.job.state = .suspended → g.job.abortMark = false

/-- The pending tallies agree with the jobs, the lanes are apart and the abort marks settled while the part runs; on the way there a kept store has lost its jobs in progress
printer by printer, then its pending tallies, then its lanes (R49, R65, R198, R199). -/
abbrev State.PendingKept (s : State) : Prop :=
  (∀ n, s.phase = .starting n →
    (s.startResult = .storeKept → ∀ p : PrinterId, p.val + 2 ≤ n → s.inProgress p = none) ∧
    (6 ≤ n → ∀ p, s.inProgress p = none) ∧
    (6 ≤ n → ∀ x t, ((s.session x).tally t).pendingTotal = 0 ∧ ((s.session x).tally t).pendingCount = 0) ∧
    (7 ≤ n → ∀ p, s.lane p = ⟨[], []⟩)) ∧
  (s.phase = .running → s.PendingRight ∧ s.LanesApart ∧ s.OpenWhilePending ∧ s.MarksSettled)

/-- The records are covered, and the records-low condition is right (R20-R22). -/
abbrev State.RecordsKept (s : State) : Prop :=
  s.RecordsCovered ∧ s.stock.recordsLow = decide (256 - (s.stock.exceptions.length + s.stock.reservation) < 32)

/-- No two packs of one kind share a serial (R5). -/
abbrev State.PacksApart (s : State) : Prop :=
  ∀ a x, s.pack a = some x → ∀ b y, s.pack b = some y →
    a = b ∨ x.kind ≠ y.kind ∨ x.endSerial ≤ y.first ∨ y.endSerial ≤ x.first

/-- The packs are sound and apart, and the loads in hand are the office line's deferred request (R3-R8, R182). -/
abbrev State.PacksKept (s : State) : Prop :=
  s.PacksSound ∧ s.PacksApart ∧ (∀ l, l ≠ officeLine ∨ s.phase ≠ .running → (s.line l).deferred = none) ∧
  (s.printersRun = true → ∀ p, s.DeferredMatches p)

/-- The log and the printers agree (R107, R125, R126, R143). -/
abbrev State.PrintersKept (s : State) : Prop := s.LogSound ∧ s.PrintersSound

/-- The cash-up store holds at most 24 records with distinct numbers, none of them the next; a record's review state agrees
with its outcome (R166-R168, R172). -/
abbrev State.CashupsKept (s : State) : Prop :=
  s.till.cashups.length ≤ 24 ∧ (s.till.cashups.map (·.number)).Nodup ∧ s.till.nextCashup ∉ s.till.cashups.map (·.number) ∧
  (1 ≤ s.till.nextCashup ∧ s.till.nextCashup ≤ 65535) ∧
  (∀ r ∈ s.till.cashups, 1 ≤ r.number ∧ r.number ≤ 65535 ∧ (r.review = .notNeeded ↔ r.isBalanced = true))

/-- The settings are within their ranges, and the clock reads a date and a time (R1, R2, R28, R29, R61, R82, R107, R159,
R160, R191, R192). -/
abbrev State.SettingsKept (s : State) : Prop :=
  (s.till.low ≤ s.till.high ∧ s.till.high ≤ 9999999 ∧ s.till.tolerance ≤ 10000) ∧
  (∀ i : Fin 12, s.till.denominations[i] ≤ 10000 ∧
    ∀ j : Fin 12, i ≠ j → s.till.denominations[i] = s.till.denominations[j] → s.till.denominations[i] = 0) ∧
  (s.discounts[0] = ⟨0, 0, 1⟩ ∧
    ∀ i : Fin 16, s.discounts[i].rate ≤ 1000 ∧ s.discounts[i].floor ≤ 99999 ∧ s.discounts[i].step ∈ [1, 5, 10]) ∧
  (∀ k, ((s.kind k).letter1 = 0x2D ∧ (s.kind k).letter2 = 0x2D ∨
      0x41 ≤ (s.kind k).letter1.toNat ∧ (s.kind k).letter1.toNat ≤ 0x5A ∧
        0x41 ≤ (s.kind k).letter2.toNat ∧ (s.kind k).letter2.toNat ≤ 0x5A) ∧ (s.kind k).threshold ≤ 2000) ∧
  (∀ p, (s.config p).feedClass ≤ 3 ∧ (s.config p).settleClass ≤ 3) ∧
  (∀ (n : Fin 6) (k : Kind), s.maps[n][k].primary = s.maps[n][k].alternate → s.maps[n][k].primary = none) ∧
  (s.clock.now.date.valid = true ∧ s.clock.now.time.valid = true ∧ 1 ≤ s.clock.day ∧ s.clock.day ≤ 9999 ∧
    s.clock.rollHour ≤ 23)

end Sys2Proof.Machine
end

