-- ==== Sys2Proof/Certificates/Slice0/Obligations.lean ====
section
/-! DEFINITION. The statements about the TC-46, for the provers: each names the rules it rests on, and the log entry of
a clause that is the model's choice. OBLIGATIONS.json says which are stated by a rule and which are derived. -/

open Sys2Proof Sys2Proof.Machine

/-! ## The machine and the part -/

/-- A step takes the command at the front of the queue and is exec of it on the state with the queue's rest; on an empty
queue it idles. Every command answers a next state from every state, and none touches the queue. R180 has a line take
its requests in the order their frames complete; the one queue and the idling are the model's choice (log entry 1). -/
def Obligations.StepRunsFrontCommand : Prop :=
  ((∀ (c : Instr) (rest : List Instr) (s : State), s.pending = c :: rest →
     step s = exec c { s with pending := rest }) ∧
   ∀ s : State, s.pending = [] → step s = .next s) ∧
  (∀ (c : Instr) (s : State), ∃ t, exec c s = .next t ∧ t.pending = s.pending)

/-- The state after reset satisfies every invariant below: bounded queues and replies, the log, the till, the pending
tallies, the records, the packs, the printers, the cash-up store and the settings. (R20, R27, R60, R66, R137, R143,
R150, R154, R175, R199) -/
def Obligations.InvariantsHoldAtReset : Prop :=
  State.reset.BoundsKept ∧ State.reset.LogKept ∧ State.reset.TillKept ∧ State.reset.PendingKept ∧ State.reset.RecordsKept ∧
  State.reset.PacksKept ∧ State.reset.PrintersKept ∧ State.reset.CashupsKept ∧ State.reset.SettingsKept

/-! ## The till unit -/

/-- SIGN ON on a ready line (R46, R62): the checks in their order; then the session as SIGN ON opens it, its drawer
state evaluated from NORMAL, the pulse, and the reply. That an idle line sends the reply before a notice raised in the
same event is the model's choice (log entry 36). -/
def Obligations.SignOnOpensSession : Prop :=
  ∀ (s : State) (l : Line) (clerk float : Nat), s.Ready l →
    exec (.signOn l clerk float) s = .next (
      if (s.session l).state ≠ .closed then s.said l 0x10 .sessionOpen []
      else if clerk < 1 ∨ 9999 < clerk ∨ 500000 < float then s.said l 0x10 .badParameter []
      else
        let x : Session :=
          { state := .opened, clerk := some clerk, float := float, signOn := some ⟨s.clock.now, s.clock.day⟩,
            cash := ⟨0, 0, 0, 0, 0, 0⟩, card := ⟨0, 0, 0, 0, 0, 0⟩, warrant := ⟨0, 0, 0, 0, 0, 0⟩, liftsTotal := 0,
            liftsCount := 0, counters := Vector.replicate 8 ⟨0, 0, 0, 0⟩, journal := [], nextIssue := 1,
            estimate := float, drawer := drawerStateOf s.till.high s.till.low float,
            declared := ⟨Vector.replicate 12 0, 0, 0, 0⟩, owner := none }
        ((((s.putSession l x).drawerNoticed l .normal).putDrawer l true).answered l 0x10 .ok
          (byteOf (l.val + 1) :: be 2 s.clock.day)).pumpAll)

/-- VOID on a ready line (R56, R57): the seven checks in their order; then one VOIDED record per coupon, in coupon
order, the journal entry VOIDED, the voided tally and the voided counter, and for CASH the drawer. That an idle line
sends the reply before a notice raised in the same event is the model's choice (log entry 36). -/
def Obligations.VoidUndoesIssue : Prop :=
  (∀ (s : State) (l : Line) (number : Nat), s.Ready l →
    ((s.session l).state = .closed → exec (.void l number) s = .next (s.said l 0x11 .noSession [])) ∧
    ((s.session l).state = .cashup → exec (.void l number) s = .next (s.said l 0x11 .inCashup [])) ∧
    ((s.session l).state = .opened → number < 1 ∨ 99999 < number →
      exec (.void l number) s = .next (s.said l 0x11 .badParameter [])) ∧
    ((s.session l).state = .opened → 1 ≤ number → number ≤ 99999 → (∀ e ∈ (s.session l).journal, e.issue ≠ number) →
      exec (.void l number) s = .next (s.said l 0x11 .tooOld []))) ∧
  ∀ (s : State) (l : Line), s.Ready l → (s.session l).state = .opened →
    ∀ newer e older, (s.session l).journal = newer ++ e :: older →
    (∀ f ∈ newer ++ older, f.issue ≠ e.issue) → 1 ≤ e.issue → e.issue ≤ 99999 →
    let x := s.session l
    let n := e.coupons.length
    exec (.void l e.issue) s = .next (
      if e.isVoided then s.said l 0x11 .wrongState []
      else if 256 - (s.stock.exceptions.length + s.stock.reservation) ≤ n then s.said l 0x11 .recordsFull []
      else if e.tender = .cash ∧ x.estimate < e.total then s.said l 0x11 .drawerShort []
      else
        let records := e.coupons.map fun c =>
          (⟨c.slot, c.serial, 1, .voided, some l, x.clerk, ⟨s.clock.now, s.clock.day⟩, false⟩ : ExceptionRecord)
        let lowAfter (m : Nat) := decide (256 - (s.stock.exceptions.length + m + s.stock.reservation) < 32)
        let u := if n = 0 then s
          else s.putStock { s.stock with exceptions := s.stock.exceptions ++ records, recordsLow := lowAfter n }
        let u := if 0 < n ∧ lowAfter n = true ∧ (s.stock.recordsLow && lowAfter 1) = false then u.raise .recordsLow .nothing else u
        let t := x.tally e.tender
        let y := { x.setTally e.tender { t with voidedTotal := t.voidedTotal + e.total, voidedCount := t.voidedCount + 1 } with
          journal := newer ++ { e with isVoided := true } :: older
          counters := x.counters.set e.kind
            { x.counters[e.kind] with voided := min (x.counters[e.kind].voided + n) 9999999 } }
        let u := if e.tender = .cash then
            let left := x.estimate - e.total
            ((u.putSession l { y with estimate := left, drawer := drawerStateOf s.till.high s.till.low left }).drawerNoticed
              l x.drawer).putDrawer l true
          else u.putSession l y
        (u.answered l 0x11 .ok (be 3 e.issue ++ be 4 e.total ++ [byteOf e.tender.code])).pumpAll)

/-- LIFT (R59, R62, R63): on a window line it is refused NOT PERMITTED; on the office line, the checks in their order;
then the lifts, the estimate, the drawer state and the pulse of the session named. That an idle line sends the reply
before a notice raised in the same event is the model's choice (log entry 36). -/
def Obligations.LiftTakesCash : Prop :=
  (∀ (s : State) (l : Line) (session amount : Nat), l ≠ officeLine → s.Ready l →
    exec (.lift l session amount) s = .next (s.said l 0x12 .notPermitted [])) ∧
  ∀ (s : State) (amount : Nat), s.Ready officeLine →
    (∀ session, session < 1 ∨ 7 < session →
      exec (.lift officeLine session amount) s = .next (s.said officeLine 0x12 .badParameter [])) ∧
    ∀ n : SessionId,
      let x := s.session n
      exec (.lift officeLine (n.val + 1) amount) s = .next (
        if amount < 1 ∨ 9999999 < amount then s.said officeLine 0x12 .badParameter []
        else if x.state = .closed then s.said officeLine 0x12 .wrongState []
        else if x.state = .cashup then s.said officeLine 0x12 .inCashup []
        else if x.estimate < amount then s.said officeLine 0x12 .drawerShort []
        else if x.liftsCount = 65535 then s.said officeLine 0x12 .badParameter []
        else
          let left := x.estimate - amount
          let y := { x with
            liftsTotal := x.liftsTotal + amount, liftsCount := x.liftsCount + 1, estimate := left,
            drawer := drawerStateOf s.till.high s.till.low left }
          ((((s.putSession n y).drawerNoticed n x.drawer).putDrawer n true).answered officeLine 0x12 .ok
            (be 4 left)).pumpAll)

/-- READ TILL and READ JOURNAL on a ready line (R44, R55, R64): the session's figures, and the journal entries, as the
reply carries them; nothing else changes. -/
def Obligations.TillIsRead : Prop :=
  ∀ (s : State) (l : Line), s.Ready l →
    (∀ session, session < 1 ∨ 7 < session →
      exec (.readTill l session) s = .next (s.said l 0x14 .badParameter []) ∧
      ∀ position, exec (.readJournal l session position) s = .next (s.said l 0x15 .badParameter [])) ∧
    ∀ n : SessionId,
      let x := s.session n
      (exec (.readTill l (n.val + 1)) s = .next (
        if l ≠ officeLine ∧ n ≠ l then s.said l 0x14 .notPermitted []
        else s.said l 0x14 .ok (
          be 1 x.state.code ++ be 2 (x.clerk.getD 0) ++ be 4 x.float ++
          (match x.signOn with
            | some at_ => be 4 at_.at_.toStamp ++ be 2 at_.day
            | none => be 4 0xFFFFFFFF ++ be 2 0) ++
          ([x.cash, x.card, x.warrant].flatMap fun t =>
            be 4 t.settledTotal ++ be 3 t.settledCount ++ be 4 t.voidedTotal ++ be 3 t.voidedCount ++
            be 4 t.pendingTotal ++ be 3 t.pendingCount) ++
          be 4 x.liftsTotal ++ be 2 x.liftsCount ++ be 4 x.estimate ++ be 1 x.drawer.code ++ be 3 x.nextIssue ++
          be 1 x.journal.length ++
          (x.counters.toList.flatMap fun c => be 3 c.issued ++ be 3 c.voided ++ be 3 c.incomplete ++ be 3 c.failed) ++
          be 4 s.till.high ++ be 4 s.till.low))) ∧
      ∀ position,
        exec (.readJournal l (n.val + 1) position) s = .next (
          if position < 1 ∨ 32 < position then s.said l 0x15 .badParameter []
          else if x.journal.length < position then s.said l 0x15 .notFound []
          else if l ≠ officeLine ∧ n ≠ l then s.said l 0x15 .notPermitted []
          else s.said l 0x15 .ok (
            be 1 x.journal.length ++ be 1 (min 4 (x.journal.length - (position - 1))) ++
            ((x.journal.drop (position - 1)).take 4).flatMap JournalEntry.bytes))

/-! ## The tables the office sets, and the stock -/

/-- On the ready office line SET THRESHOLDS, SET TOLERANCE, SET DISCOUNT, SET DENOMINATION, SET STOCK KIND and SET
WINDOW MAP make their checks in order and change nothing when refused; else the table holds what the request gives and
the reply carries what its rule lists. The widths of rate, floor and step in the reply of SET DISCOUNT are the model's
choice (log entry 14). (R1, R29, R61, R82, R159, R160) -/
def Obligations.OfficeSetsTables : Prop :=
  (∀ (s : State), s.Ready officeLine →
     (∀ high low, exec (.setThresholds officeLine high low) s = .next (
       if 9999999 < high ∨ high < low then s.said officeLine 0x13 .badParameter []
       else (s.putTill { s.till with high := high, low := low }).said officeLine 0x13 .ok (be 4 high ++ be 4 low))) ∧
     (∀ tolerance, exec (.setTolerance officeLine tolerance) s = .next (
       if 10000 < tolerance then s.said officeLine 0x57 .badParameter []
       else (s.putTill { s.till with tolerance := tolerance }).said officeLine 0x57 .ok (be 2 tolerance))) ∧
     (∀ index rate floor step, 15 < index → exec (.setDiscount officeLine index rate floor step) s =
       .next (s.said officeLine 0x25 .badParameter [])) ∧
     (∀ (index : Fin 16) (rate floor step : Nat), exec (.setDiscount officeLine index.val rate floor step) s = .next (
       if index.val = 0 ∨ 1000 < rate ∨ 99999 < floor ∨ step ∉ [1, 5, 10] then s.said officeLine 0x25 .badParameter []
       else (s.putDiscount index ⟨rate, floor, step⟩).said officeLine 0x25 .ok
         (byteOf index.val :: be 2 rate ++ be 4 floor ++ [byteOf step]))) ∧
     (∀ index face, 11 < index → exec (.setDenomination officeLine index face) s =
       .next (s.said officeLine 0x56 .badParameter [])) ∧
     (∀ (index : Fin 12) (face : Nat), exec (.setDenomination officeLine index.val face) s = .next (
       if 10000 < face ∨ (face ≠ 0 ∧ ∃ other : Fin 12, other ≠ index ∧ s.till.denominations[other] = face) then
         s.said officeLine 0x56 .badParameter []
       else if ∃ n : SessionId, (s.session n).state = .cashup then s.said officeLine 0x56 .inUse []
       else (s.putTill { s.till with denominations := s.till.denominations.set index face }).said officeLine 0x56 .ok
         (byteOf index.val :: be 2 face))) ∧
     (∀ kind letter1 letter2 threshold, kind < 1 ∨ 8 < kind →
       exec (.setStockKind officeLine kind letter1 letter2 threshold) s =
         .next (s.said officeLine 0x30 .badParameter [])) ∧
     ∀ (k : Kind) (letter1 letter2 : Byte) (threshold : Nat),
       exec (.setStockKind officeLine (k.val + 1) letter1 letter2 threshold) s = .next (
         if letter1.toNat < 0x41 ∨ 0x5A < letter1.toNat ∨ letter2.toNat < 0x41 ∨ 0x5A < letter2.toNat ∨ 2000 < threshold then
           s.said officeLine 0x30 .badParameter []
         else if ∃ slot : Slot, (s.pack slot).any (fun x => x.kind = k ∧ x.state ≠ .closed) = true then
           s.said officeLine 0x30 .inUse []
         else (s.putKind k ⟨letter1, letter2, threshold⟩).said officeLine 0x30 .ok [])) ∧
  (∀ (s : State), s.Ready officeLine →
     (∀ session entries, session < 1 ∨ 6 < session → exec (.setWindowMap officeLine session entries) s =
       .next (s.said officeLine 0x24 .badParameter [])) ∧
     (∀ (session : Nat) (entries : Vector (Nat × Nat) 8), (∃ k : Fin 8, 4 < entries[k].1 ∨ 4 < entries[k].2) →
       exec (.setWindowMap officeLine session entries) s = .next (s.said officeLine 0x24 .badParameter [])) ∧
     ∀ (n : Fin 6) (m : Vector MapEntry 8),
       exec (.setWindowMap officeLine (n.val + 1) (m.map fun e => (numberOf e.primary, numberOf e.alternate))) s = .next (
         if ∃ k : Fin 8, m[k].primary = m[k].alternate ∧ m[k].primary ≠ none then s.said officeLine 0x24 .badParameter []
         else (s.putMap n m).said officeLine 0x24 .ok []))

/-- RECEIVE PACK on the office line (R5): the checks in their order; then the lowest-numbered free slot holds the pack,
RECEIVED, its cursor at its first serial. -/
def Obligations.PackIsReceived : Prop :=
  ∀ (s : State), s.Ready officeLine →
    (∀ kind first count, kind < 1 ∨ 8 < kind → exec (.receivePack officeLine kind first count) s =
      .next (s.said officeLine 0x31 .badParameter [])) ∧
    (∀ (k : Kind) (first count : Nat),
      (s.kind k = ⟨0x2D, 0x2D, (s.kind k).threshold⟩ ∨ 999999 < first ∨ count < 1 ∨ 2000 < count ∨ 1000000 < first + count →
        exec (.receivePack officeLine (k.val + 1) first count) s = .next (s.said officeLine 0x31 .badParameter [])) ∧
      (s.kind k ≠ ⟨0x2D, 0x2D, (s.kind k).threshold⟩ → first ≤ 999999 → 1 ≤ count → count ≤ 2000 →
        first + count ≤ 1000000 →
        ((∃ slot : Slot, (s.pack slot).any (fun x =>
            x.kind = k ∧ first < x.first + x.count ∧ x.first < first + count) = true) →
          exec (.receivePack officeLine (k.val + 1) first count) s = .next (s.said officeLine 0x31 .overlap [])) ∧
        ((∀ slot : Slot, (s.pack slot).all (fun x =>
            x.kind ≠ k ∨ x.first + x.count ≤ first ∨ first + count ≤ x.first) = true) →
          ((∀ slot, s.pack slot ≠ none) →
            exec (.receivePack officeLine (k.val + 1) first count) s = .next (s.said officeLine 0x31 .recordsFull [])) ∧
          ∀ slot : Slot, s.pack slot = none → (∀ lower, lower < slot → s.pack lower ≠ none) →
            exec (.receivePack officeLine (k.val + 1) first count) s = .next (
              (s.putPack slot (some
                { kind := k, first := first, count := count, cursor := first, state := .received, location := none,
                  dayReceived := s.clock.day, lowFlag := false })).said officeLine 0x31 .ok [byteOf (slot.val + 1)]))))

/-- LOAD PACK on the office line (R8, R104, R182): the checks in their order; then the request is deferred, the load is
in hand, and its first operation is sent, ENGAGE to a LIFTED head, else READ STRIP, or waits behind the one outstanding.
That a load from IDLE behind a LIFT shows ENGAGING is read from R104 and R122 (log entry 35). -/
def Obligations.LoadPackBegins : Prop :=
  ∀ (s : State), s.Ready officeLine →
    (∀ slot printer, slot < 1 ∨ 64 < slot ∨ printer < 1 ∨ 4 < printer →
      exec (.loadPack officeLine slot printer) s = .next (s.said officeLine 0x32 .badParameter [])) ∧
    ∀ (slot : Slot) (p : PrinterId),
      (s.pack slot = none →
        exec (.loadPack officeLine (slot.val + 1) (p.val + 1)) s = .next (s.said officeLine 0x32 .notFound [])) ∧
      ∀ k : Pack, s.pack slot = some k → (s.ctl p).outstanding.isSome ∨ (s.ctl p).waiting = [] →
        exec (.loadPack officeLine (slot.val + 1) (p.val + 1)) s = .next (
          let c := s.ctl p
          if k.state ≠ .received ∧ k.state ≠ .unloaded then s.said officeLine 0x32 .wrongState []
          else if (s.loaded p).isSome then s.said officeLine 0x32 .inUse []
          else if (s.config p).kind ≠ some k.kind then s.said officeLine 0x32 .badParameter []
          else if c.state ∉ [.idle, .offline, .held] ∨
              (c.state = .held ∧ (s.openEntry p).map (·.kind) ≠ some .noPack) then
            s.said officeLine 0x32 .wrongState []
          else
            let t := s.frameEnded officeLine
            let t := t.putLine officeLine { t.line officeLine with deferred := some (.loadPack p) }
            let c := { c with load := some ⟨slot, 0, c.state⟩ }
            let waiting := c.waiting.filter (!·.isIdleLift)
            let behindLift := c.outstanding.any (·.op == .lift) || waiting.any fun w => match w with
              | .op .lift _ => true
              | _ => false
            let c := if c.state = .idle then
                { c with
                  state := if c.head = .lifted ∨ behindLift = true then .engaging else .reading
                  idleLift := false
                  waiting := waiting }
              else c
            let c := if c.outstanding.isSome then { c with waiting := c.waiting ++ [.loadStep] }
              else
                let op : Operation := if c.head = .lifted then .engage else .readStrip
                { c with outstanding := some ⟨op, .load, false⟩, sending := some op.frame }
            (t.putCtl p c).afterEvent)

/-- UNLOAD PACK on the office line (R14): the checks in their order; then the pack is in the office, a LOADED one
UNLOADED, no pack is loaded, the form position is UNKNOWN, and the cursor does not move. That an idle line sends the
reply before a notice raised in the same event is the model's choice (log entry 36). -/
def Obligations.UnloadPackTakesOut : Prop :=
  ∀ (s : State), s.Ready officeLine →
    (∀ printer, printer < 1 ∨ 4 < printer →
      exec (.unloadPack officeLine printer) s = .next (s.said officeLine 0x33 .badParameter [])) ∧
    ∀ (p : PrinterId),
      (s.loaded p = none →
        exec (.unloadPack officeLine (p.val + 1)) s = .next (s.said officeLine 0x33 .wrongState [])) ∧
      ∀ slot, s.loaded p = some slot → ∀ k, s.pack slot = some k →
        exec (.unloadPack officeLine (p.val + 1)) s = .next (
          if (s.ctl p).state.busy then
            s.said officeLine 0x33
              (if (s.inProgress p).map (·.job.state) = some .printing then .inProgress else .wrongState) []
          else
            let taken := { k with state := if k.state = .loaded then .unloaded else k.state, location := none }
            ((((s.putPack slot (some taken)).putLoaded p none).putCtl p { s.ctl p with position := .unknown }).answered
              officeLine 0x33 .ok (byteOf (slot.val + 1) :: be 3 k.cursor)).afterEvent)

/-- On the ready office line CLOSE PACK and PURGE PACK make their checks in order. CLOSE PACK writes one RETURNED record
of the remaining count if it is above 0, sets the cursor to the end and the pack CLOSED, and replies with the span.
PURGE PACK removes the pack's exception records, the rest in order, frees the slot, unsets an audit cursor in it, and
replies with the number removed. The records-low condition follows. That an idle line sends the reply before a notice
raised in the same event is the model's choice (log entry 36). (R15, R16, R22, R24) -/
def Obligations.PacksAreClosedAndPurged : Prop :=
  (∀ (s : State), s.Ready officeLine →
     (∀ slot, slot < 1 ∨ 64 < slot → exec (.closePack officeLine slot) s = .next (s.said officeLine 0x34 .badParameter [])) ∧
     ∀ slot : Slot,
       (s.pack slot = none → exec (.closePack officeLine (slot.val + 1)) s = .next (s.said officeLine 0x34 .notFound [])) ∧
       ∀ k : Pack, s.pack slot = some k →
         exec (.closePack officeLine (slot.val + 1)) s = .next (
           let left := k.first + k.count - k.cursor
           let free := 256 - (s.stock.exceptions.length + s.stock.reservation)
           if k.state = .loaded ∨ k.state = .closed ∨ (k.state = .spent ∧ k.location ≠ none) then
             s.said officeLine 0x34 .wrongState []
           else if 0 < left ∧ free < 1 then s.said officeLine 0x34 .recordsFull []
           else
             let u := if 0 < left then
                 s.putStock { s.stock with
                   exceptions := s.stock.exceptions ++
                     [⟨slot, k.cursor, left, .returned, none, none, ⟨s.clock.now, s.clock.day⟩, false⟩]
                   recordsLow := decide (free - 1 < 32) }
               else s
             let u := if 0 < left ∧ free - 1 < 32 ∧ s.stock.recordsLow = false then u.raise .recordsLow .nothing else u
             ((u.putPack slot (some { k with cursor := k.first + k.count, state := .closed })).answered officeLine 0x34 .ok
               (be 2 left)).pumpAll)) ∧
  (∀ (s : State), s.Ready officeLine →
     (∀ slot, slot < 1 ∨ 64 < slot → exec (.purgePack officeLine slot) s = .next (s.said officeLine 0x35 .badParameter [])) ∧
     ∀ slot : Slot,
       (s.pack slot = none → exec (.purgePack officeLine (slot.val + 1)) s = .next (s.said officeLine 0x35 .notFound [])) ∧
       ∀ k : Pack, s.pack slot = some k →
         exec (.purgePack officeLine (slot.val + 1)) s = .next (
           if k.state ≠ .closed then s.said officeLine 0x35 .wrongState []
           else if (∃ r ∈ s.stock.exceptions, r.slot = slot ∧ r.isRead = false) ∨
               (∃ n : SessionId, (s.session n).state ≠ .closed ∧
                 ∃ e ∈ (s.session n).journal, e.isVoided = false ∧ ∃ c ∈ e.coupons, c.slot = slot) ∨
               (∃ p : PrinterId, (s.inProgress p).any (fun g => g.job.printed.any (·.slot == slot)) = true) then
             s.said officeLine 0x35 .inUse []
           else
             let kept := s.stock.exceptions.filter (·.slot != slot)
             let low := decide (256 - (kept.length + s.stock.reservation) < 32)
             let u := s.putStock { s.stock with packs := s.stock.packs.set slot none, exceptions := kept, recordsLow := low }
             let u := if low = true ∧ s.stock.recordsLow = false then u.raise .recordsLow .nothing else u
             ((u.putAudit (if s.audit.map (·.1) = some slot then none else s.audit)).answered officeLine 0x35 .ok
               (be 2 (s.stock.exceptions.length - kept.length))).afterEvent))

/-- On the ready office line READ PACK returns the pack's record with its counts, READ EXCEPTION the oldest unread
record, which is then read, AUDIT SET places the cursor within a pack, and AUDIT NEXT returns the disposition of the
serial at the cursor and moves it on until the pack's last serial, marked END. That an exception record is returned as
it stood unread is the model's choice (log entry 15). (R17, R23, R24, R25, R206) -/
def Obligations.StockIsReadAndAudited : Prop :=
  (∀ (s : State), s.Ready officeLine →
     (∀ slot, slot < 1 ∨ 64 < slot → exec (.readPack officeLine slot) s = .next (s.said officeLine 0x36 .badParameter [])) ∧
     (∀ slot : Slot,
       (s.pack slot = none → exec (.readPack officeLine (slot.val + 1)) s = .next (s.said officeLine 0x36 .notFound [])) ∧
       ∀ k : Pack, s.pack slot = some k →
         exec (.readPack officeLine (slot.val + 1)) s = .next (s.said officeLine 0x36 .ok (
           [byteOf (slot.val + 1), byteOf (k.kind.val + 1)] ++ be 3 k.first ++ be 2 k.count ++ be 3 k.cursor ++
           [byteOf k.state.code, byteOf (numberOf k.location)] ++ be 2 k.dayReceived ++ [flagByte k.lowFlag] ++
           be 2 (k.first + k.count - k.cursor) ++ be 2 (s.stock.exceptions.countP (·.slot == slot)) ++
           be 2 (s.stock.exceptions.countP fun r => r.slot == slot && !r.isRead)))) ∧
     ((∀ r ∈ s.stock.exceptions, r.isRead = true) →
       exec (.readException officeLine) s = .next (s.said officeLine 0x37 .notFound [])) ∧
     ∀ older r newer, s.stock.exceptions = older ++ r :: newer → (∀ q ∈ older, q.isRead = true) → r.isRead = false →
       exec (.readException officeLine) s = .next (
         (s.putStock { s.stock with exceptions := older ++ { r with isRead := true } :: newer }).said officeLine 0x37 .ok
           r.bytes)) ∧
  (∀ (s : State), s.Ready officeLine →
     (∀ slot serial, slot < 1 ∨ 64 < slot →
       exec (.auditSet officeLine slot serial) s = .next (s.said officeLine 0x38 .badParameter [])) ∧
     (∀ (slot : Slot) (serial : Nat),
       (s.pack slot = none →
         exec (.auditSet officeLine (slot.val + 1) serial) s = .next (s.said officeLine 0x38 .notFound [])) ∧
       ∀ k : Pack, s.pack slot = some k → exec (.auditSet officeLine (slot.val + 1) serial) s = .next (
         if serial < k.first ∨ k.first + k.count - 1 < serial then s.said officeLine 0x38 .badParameter []
         else (s.putAudit (some (slot, serial))).said officeLine 0x38 .ok [])) ∧
     (s.audit = none → exec (.auditNext officeLine) s = .next (s.said officeLine 0x39 .wrongState [])) ∧
     ∀ slot serial, s.audit = some (slot, serial) → ∀ k, s.pack slot = some k →
       let atEnd := decide (k.first + k.count - 1 ≤ serial)
       let t := if atEnd then s else s.putAudit (some (slot, serial + 1))
       let covers (r : ExceptionRecord) := decide (r.slot = slot ∧ r.first ≤ serial ∧ serial < r.first + r.span)
       let reply (disposition first span : Nat) := t.said officeLine 0x39 .ok
         (byteOf (slot.val + 1) :: be 3 serial ++ byteOf disposition :: be 3 first ++ be 2 span ++ [flagByte atEnd])
       (k.cursor ≤ serial → exec (.auditNext officeLine) s = .next (reply 0 0xFFFFFF 0)) ∧
       (serial < k.cursor → (∀ r ∈ s.stock.exceptions, covers r = false) →
         exec (.auditNext officeLine) s = .next (reply 8 0xFFFFFF 0)) ∧
       ∀ older r newer, s.stock.exceptions = older ++ r :: newer → (∀ q ∈ older, covers q = false) → covers r = true →
         serial < k.cursor → exec (.auditNext officeLine) s = .next (reply r.reason.code r.first r.span))

/-! ## The print queue -/

/-- ISSUE (R83, R84, R85): the checks in their order; then the charge joins pending, the issue number is taken, and the
job joins the end of its lane on the printer it is routed to. A window line names no printer, the office line one; a
frame that differs, or a text above 12 characters, is refused as test 5 of R180 has it (log entry 22). That an idle line
sends the reply before a notice raised in the same event is the model's choice (log entry 36). -/
def Obligations.IssueQueuesJob : Prop :=
  (∀ (s : State) (l : Line) (kind passengers base index tender coupons : Nat) (named : Option Nat) (text : List Byte),
    s.Ready l → (named.isSome ≠ (l == officeLine) ∨ 12 < text.length →
      exec (.issue l kind passengers base index tender coupons named text) s =
        .next (s.said l 0x20 .badParameter []))) ∧
  ∀ (s : State) (l : Line), s.Ready l →
    let x := s.session l
    let named (p : Nat) := if l = officeLine then some p else none
    (∀ (kind passengers base index tender coupons p : Nat) (text : List Byte), text.length ≤ 12 →
      (x.state = .closed →
        exec (.issue l kind passengers base index tender coupons (named p) text) s = .next (s.said l 0x20 .noSession [])) ∧
      (x.state = .cashup →
        exec (.issue l kind passengers base index tender coupons (named p) text) s = .next (s.said l 0x20 .inCashup [])) ∧
      (x.state = .opened → s.clock.isSet = false →
        exec (.issue l kind passengers base index tender coupons (named p) text) s = .next (s.said l 0x20 .clockNotSet [])) ∧
      (x.state = .opened → s.clock.isSet = true →
        kind < 1 ∨ 8 < kind ∨ 15 < index ∨ tender < 1 ∨ 3 < tender ∨ (l = officeLine ∧ (p < 1 ∨ 4 < p)) →
        exec (.issue l kind passengers base index tender coupons (named p) text) s =
          .next (s.said l 0x20 .badParameter []))) ∧
    ∀ (k : Kind) (index : Fin 16) (t : Tender) (passengers base coupons : Nat) (p : PrinterId) (text : List Byte),
      text.length ≤ 12 → x.state = .opened → s.clock.isSet = true →
      exec (.issue l (k.val + 1) passengers base index.val t.code coupons (named (p.val + 1)) text) s = .next (
        let charge := perPassenger base s.discounts[index]
        let total := charge * passengers
        let y := x.tally t
        let route := if h : l.val < 6 then s.routeWindow s.maps[l.val][k] k else s.routeOffice p k
        if (s.kind k = ⟨0x2D, 0x2D, (s.kind k).threshold⟩) ∨ passengers < 1 ∨ 9 < passengers ∨ 99999 < base ∨ coupons < 1 ∨
            4 < coupons ∨ (∃ b ∈ text, b.toNat < 0x20 ∨ 0x7E < b.toNat) ∨ (t = .warrant ∧ text = []) ∨
            (t = .card ∧ 8 < text.length) ∨ (t = .cash ∧ text ≠ []) ∨ (s.line l).body = [] then
          s.said l 0x20 .badParameter []
        else if 4 ≤ x.cash.pendingCount + x.card.pendingCount + x.warrant.pendingCount then s.said l 0x20 .queueFull []
        else if 99999999 < y.settledTotal + y.pendingTotal + total ∨ 999999 < y.settledCount + y.pendingCount + 1 then
          s.said l 0x20 .tallyLimit []
        else match route with
          | .error status => s.said l 0x20 status []
          | .ok q =>
            let j : Job :=
              { session := l, issue := x.nextIssue, kind := k, tender := t, passengers := passengers, index := index,
                charge := charge, total := total, requested := coupons, printed := [], failures := 0, reference := text,
                body := (s.line l).body, state := .queued, printer := q, reservation := 0, abortMark := false,
                substituted := false, truncated := false }
            let x' := { x.setTally t { y with pendingTotal := y.pendingTotal + total, pendingCount := y.pendingCount + 1 } with
              nextIssue := if x.nextIssue = 99999 then 1 else x.nextIssue + 1 }
            let lanes := if l = officeLine then { s.lane q with office := (s.lane q).office ++ [j] }
              else { s.lane q with window := (s.lane q).window ++ [j] }
            (((s.putSession l x').putLane q lanes).answered l 0x20 .ok
              (be 3 x.nextIssue ++ be 4 total ++ [byteOf (q.val + 1)])).afterEvent)

/-- Routing (R86, R87, R88). A printer serves a kind when it is configured for it and is in service; it waits when it is
FAULT or HELD. A window's job goes to the first of primary serving, alternate serving, primary waiting, alternate
waiting with room in its window lane; else QUEUE FULL if one of the two is neither ABSENT nor OFFLINE and full; else NO
PRINTER. An office job goes to the printer named. -/
def Obligations.IssueIsRouted : Prop :=
  ∀ (s : State) (k : Kind),
    let serves (p : PrinterId) := decide ((s.config p).kind = some k ∧
      (s.ctl p).state ∈ [.idle, .engaging, .feeding, .reading, .printing, .ejecting])
    let waits (p : PrinterId) := decide ((s.config p).kind = some k ∧ (s.ctl p).state ∈ [.fault, .held])
    let stands (p : PrinterId) := decide ((s.config p).kind = some k ∧ (s.ctl p).state ∉ [.absent, .offline])
    let room (p : PrinterId) := decide ((s.lane p).window.length < 8)
    (∀ e : MapEntry, s.routeWindow e k =
      if e.primary.any (fun p => serves p && room p) then .ok (e.primary.getD 0)
      else if e.alternate.any (fun p => serves p && room p) then .ok (e.alternate.getD 0)
      else if e.primary.any (fun p => waits p && room p) then .ok (e.primary.getD 0)
      else if e.alternate.any (fun p => waits p && room p) then .ok (e.alternate.getD 0)
      else if e.primary.any (fun p => stands p && !room p) ∨ e.alternate.any (fun p => stands p && !room p) then
        .error .queueFull
      else .error .noPrinter) ∧
    ∀ p : PrinterId, s.routeOffice p k =
      if stands p then (if (s.lane p).office.length < 2 then .ok p else .error .queueFull) else .error .noPrinter

/-- On a ready line CANCEL makes its checks in order; else the queued job leaves its lane and its charge leaves pending.
ABORT JOB ends a SUSPENDED job at once, marks one at work to end at its next form boundary, the mark volatile and no
update of the retained store, and takes a QUEUED one from its lane with an ABORTED outcome and ISSUE FAILED. The byte of
ABORT JOB's reply is a free value (log entry 3). That an idle line sends the reply before a notice raised in the same
event is the model's choice (log entry 36). That a job in progress is taken before a queued one of the same number is
the model's choice (log entry 33). (R50, R80, R95, R96, R99, R100, R107, R196) -/
def Obligations.JobsAreWithdrawn : Prop :=
  (∀ (s : State) (l : Line) (number : Nat), s.Ready l →
     let queued := printers.flatMap fun p => (s.lane p).office ++ (s.lane p).window
     let named (j : Job) := decide (j.session = l ∧ j.issue = number)
     let released (j : Job) :=
       let x := s.session l
       let t := x.tally j.tender
       s.putSession l (x.setTally j.tender
         { t with pendingTotal := t.pendingTotal - j.total, pendingCount := t.pendingCount - 1 })
     (number < 1 ∨ 99999 < number → exec (.cancel l number) s = .next (s.said l 0x21 .badParameter [])) ∧
     (1 ≤ number → number ≤ 99999 →
       ((∃ p, (s.inProgress p).any (fun g => named g.job) = true) →
         exec (.cancel l number) s = .next (s.said l 0x21 .inProgress [])) ∧
       ((∀ p, (s.inProgress p).all (fun g => !named g.job) = true) →
         ((∀ j ∈ queued, named j = false) → exec (.cancel l number) s = .next (s.said l 0x21 .notFound [])) ∧
         (queued.countP named = 1 → ∀ p : PrinterId,
           (∀ before j after, (s.lane p).office = before ++ j :: after → named j = true →
             exec (.cancel l number) s = .next (
               (((released j).putLane p { s.lane p with office := before ++ after }).answered l 0x21 .ok
                 (be 3 number ++ be 4 j.total)).afterEvent)) ∧
           ∀ before j after, (s.lane p).window = before ++ j :: after → named j = true →
             exec (.cancel l number) s = .next (
               (((released j).putLane p { s.lane p with window := before ++ after }).answered l 0x21 .ok
                 (be 3 number ++ be 4 j.total)).afterEvent))))) ∧
  (∀ (s : State) (l : Line) (number : Nat), s.Ready l →
     let queued := printers.flatMap fun p => (s.lane p).office ++ (s.lane p).window
     let named (j : Job) := decide (j.session = l ∧ j.issue = number)
     (number < 1 ∨ 99999 < number → exec (.abortJob l number) s = .next (s.said l 0x22 .badParameter [])) ∧
     (1 ≤ number → number ≤ 99999 →
       (∀ p : PrinterId, (∀ q, q ≠ p → (s.inProgress q).all (fun g => !named g.job) = true) →
         ∀ g, s.inProgress p = some g → named g.job = true →
         exec (.abortJob l number) s = .next (
           if g.job.state = .suspended then
             ((s.endJob p .aborted).answered l 0x22 .ok [Config.abortJobByte true]).afterEvent
           else ((s.markProgress p (some { g with job := { g.job with abortMark := true } })).answered l 0x22 .ok
             [Config.abortJobByte false]).afterEvent)) ∧
       ((∀ p, (s.inProgress p).all (fun g => !named g.job) = true) →
         ((∀ j ∈ queued, named j = false) → exec (.abortJob l number) s = .next (s.said l 0x22 .notFound [])) ∧
         (queued.countP named = 1 → ∀ p : PrinterId,
           let ended (j : Job) (lanes : Lanes) :=
             let x := s.session l
             let t := x.tally j.tender
             let u := (s.putSession l (x.setTally j.tender
               { t with pendingTotal := t.pendingTotal - j.total, pendingCount := t.pendingCount - 1 })).putLane p lanes
             let outcome : Outcome := ⟨l, number, .aborted, [], j.substituted, j.truncated⟩
             let old := (s.line l).outcomes
             let u := if l = officeLine then u else u.putLine l { u.line l with
               outcomes := if old.length < 8 then old ++ [outcome] else old.drop (old.length - 7) ++ [outcome] }
             ((u.raise .issueFailed (.session l)).answered l 0x22 .ok [Config.abortJobByte true]).afterEvent
           (∀ before j after, (s.lane p).office = before ++ j :: after → named j = true →
             exec (.abortJob l number) s = .next (ended j { s.lane p with office := before ++ after })) ∧
           ∀ before j after, (s.lane p).window = before ++ j :: after → named j = true →
             exec (.abortJob l number) s = .next (ended j { s.lane p with window := before ++ after })))))

/-- DIVERT on the office line (R21, R89, R101): two printers of one kind; A's suspended job without a printed coupon,
then the jobs of A's lanes, go to the ends of B's lanes as far as there is room; JOBS DIVERTED is raised for the
sessions of the jobs that moved; the reply carries how many moved and how many are left. That an idle line sends the
reply before a notice raised in the same event is the model's choice (log entry 36). -/
def Obligations.DivertMovesJobs : Prop :=
  ∀ (s : State), s.Ready officeLine →
    (∀ x y, x < 1 ∨ 4 < x ∨ y < 1 ∨ 4 < y →
      exec (.divert officeLine x y) s = .next (s.said officeLine 0x23 .badParameter [])) ∧
    ∀ a b : PrinterId,
      exec (.divert officeLine (a.val + 1) (b.val + 1)) s = .next (
        if a = b ∨ (s.config a).kind = none ∨ (s.config b).kind ≠ (s.config a).kind then
          s.said officeLine 0x23 .badParameter []
        else
          let moved (j : Job) : Job := { j with printer := b, state := .queued, reservation := 0 }
          let here := s.inProgress a
          let first := (here.toList.map (·.job)).filter fun j => j.state = .suspended ∧ j.printed = [] ∧
            (if j.session = officeLine then (s.lane b).office.length < 2 else (s.lane b).window.length < 8)
          let reserved := s.stock.reservation - (first.map (·.reservation)).sum
          let low := decide (256 - (s.stock.exceptions.length + reserved) < 32)
          let u := if first = [] then s
            else (s.putProgress a none).putStock { s.stock with reservation := reserved, recordsLow := low }
          let u := if first ≠ [] ∧ low = true ∧ s.stock.recordsLow = false then u.raise .recordsLow .nothing else u
          let office := (s.lane b).office ++ (first.filter (·.session = officeLine)).map moved
          let window := (s.lane b).window ++ (first.filter (·.session ≠ officeLine)).map moved
          let fromOffice := (s.lane a).office.take (2 - office.length)
          let fromWindow := (s.lane a).window.take (8 - window.length)
          let u := (u.putLane a ⟨(s.lane a).office.drop fromOffice.length, (s.lane a).window.drop fromWindow.length⟩).putLane b
            ⟨office ++ fromOffice.map moved, window ++ fromWindow.map moved⟩
          let all := first ++ fromOffice ++ fromWindow
          let u := all.foldl (fun t j => t.raise .jobsDiverted (.session j.session)) u
          let left := (s.lane a).office.length - fromOffice.length + ((s.lane a).window.length - fromWindow.length) +
            (if first = [] ∧ here.any (·.job.state == .suspended) then 1 else 0)
          (u.answered officeLine 0x23 .ok [byteOf all.length, byteOf left]).afterEvent)

/-! ## The printers and the fault log, on request -/

/-- On the ready office line SET PRINTER makes its checks in order, else replaces the configuration and raises PRINTER
CHANGE. RELEASE is refused WRONG STATE unless the printer is HELD for a cause other than NO PACK; else its entry is
cleared, the held flag too, the form position is UNKNOWN and the printer IDLE, the idle-lift timer running if its head
is ENGAGED. That an idle line sends the reply before a notice raised in the same event is the model's choice (log entry
36). (R110, R122, R129, R145) -/
def Obligations.PrinterIsSetAndReleased : Prop :=
  (∀ (s : State), s.Ready officeLine →
     (∀ printer kind feed settle, printer < 1 ∨ 4 < printer ∨ 8 < kind ∨ 3 < feed ∨ 3 < settle →
       exec (.setPrinter officeLine printer kind feed settle) s = .next (s.said officeLine 0x40 .badParameter [])) ∧
     ∀ (p : PrinterId) (kind : Option Kind) (feed settle : Fin 4),
       exec (.setPrinter officeLine (p.val + 1) (numberOf kind) feed.val settle.val) s = .next (
         if kind.any (fun k => s.kind k = ⟨0x2D, 0x2D, (s.kind k).threshold⟩) then s.said officeLine 0x40 .badParameter []
         else if s.loaded p ≠ none ∨ (s.lane p).office ≠ [] ∨ (s.lane p).window ≠ [] ∨ s.inProgress p ≠ none then
           s.said officeLine 0x40 .inUse []
         else
           ((((s.putConfig p ⟨kind, feed.val, settle.val⟩).raise .printerChange (.printer p))).answered officeLine 0x40 .ok
             [byteOf (numberOf kind), byteOf feed.val, byteOf settle.val]).afterEvent)) ∧
  (∀ (s : State), s.Ready officeLine →
     (∀ printer, printer < 1 ∨ 4 < printer →
       exec (.release officeLine printer) s = .next (s.said officeLine 0x41 .badParameter [])) ∧
     ∀ p : PrinterId, exec (.release officeLine (p.val + 1)) s = .next (
       let c := s.ctl p
       let mine (e : FaultEntry) := e.source == some p && e.state == .opened
       if c.state ≠ .held then s.said officeLine 0x41 .wrongState []
       else if (s.log.entries.find? mine).map (·.kind) = some .noPack then s.said officeLine 0x41 .wrongState []
       else
         let entries := s.log.entries.map fun e =>
           if mine e then { e with state := .cleared, clearedAt := some s.clock.now } else e
         let u := if s.log.entries.any mine then (s.putLog { s.log with entries := entries }).raise .faultCleared (.printer p)
           else s
         let c := { c with state := .idle, held := false, position := .unknown, idleLift := decide (c.head = Head.engaged) }
         (((u.putCtl p c).raise .printerChange (.printer p)).answered officeLine 0x41 .ok []).afterEvent))

/-- TAKE OFFLINE and BRING ONLINE on the office line (R122, R127, R128): the checks in their order; then OFFLINE, an
ENGAGED head lifted; or FAULT, HELD or IDLE by what is open on the printer, and ENQUIRE. That an idle line sends the
reply before a notice raised in the same event is the model's choice (log entry 36). -/
def Obligations.PrinterGoesOffAndOn : Prop :=
  ∀ (s : State), s.Ready officeLine →
    (∀ printer, printer < 1 ∨ 4 < printer →
      exec (.takeOffline officeLine printer) s = .next (s.said officeLine 0x42 .badParameter []) ∧
      exec (.bringOnline officeLine printer) s = .next (s.said officeLine 0x43 .badParameter [])) ∧
    ∀ p : PrinterId,
      (exec (.takeOffline officeLine (p.val + 1)) s = .next (
        let c := s.ctl p
        if c.state ∈ [.engaging, .feeding, .reading, .printing, .ejecting] then s.said officeLine 0x42 .inProgress []
        else if c.state ∈ [.offline, .absent] then s.said officeLine 0x42 .wrongState []
        else
          let c := { c with state := .offline, idleLift := false, waiting := c.waiting.filter (!·.isIdleLift) }
          let c := if c.head = .lifted then c
            else if c.outstanding = none ∧ c.waiting = [] then
              { c with outstanding := some ⟨.lift, .offlineLift, false⟩, sending := some (Operation.frame .lift) }
            else { c with waiting := c.waiting ++ [.op .lift .offlineLift] }
          (((s.putCtl p c).raise .printerChange (.printer p)).answered officeLine 0x42 .ok [10]).afterEvent)) ∧
      exec (.bringOnline officeLine (p.val + 1)) s = .next (
        let c := s.ctl p
        if c.state ≠ .offline then s.said officeLine 0x43 .wrongState []
        else
          let cause := (s.openEntry p).any fun e => e.kind ∈ [.stockGap, .stockDisorder, .wrongStock, .noPack]
          let st : PrinterState := if c.faultOpen then .fault else if c.held ∨ cause then .held else .idle
          let c : Controller := { c with
            state := st
            held := c.held || decide (st = PrinterState.held)
            idleLift := decide (st = PrinterState.idle) && decide (c.head = Head.engaged)
            waiting := if st = PrinterState.idle then c.waiting else c.waiting.filter (!·.isIdleLift) }
          let c : Controller := if c.outstanding = none ∧ c.waiting = [] then
              { c with
                outstanding := some ⟨.enquire, .enquiry, c.linkLost || c.resetWait⟩
                sending := some (Operation.frame .enquire) }
            else { c with waiting := c.waiting ++ [.op .enquire .enquiry] }
          (((s.putCtl p c).raise .printerChange (.printer p)).answered officeLine 0x43 .ok [byteOf st.code]).afterEvent)

/-- PRINTER RESET on the office line (R98, R130, R146, R182): the job in progress ends, the open entry is cleared, the
controller's account starts again, ABSENT, and ENQUIRE goes out; the request is deferred. -/
def Obligations.PrinterResetStartsAgain : Prop :=
  ∀ (s : State), s.Ready officeLine →
    (∀ printer, printer < 1 ∨ 4 < printer →
      exec (.printerReset officeLine printer) s = .next (s.said officeLine 0x44 .badParameter [])) ∧
    ∀ p : PrinterId, exec (.printerReset officeLine (p.val + 1)) s = .next (
      let c := s.ctl p
      let t := s.frameEnded officeLine
      let t := t.putLine officeLine { t.line officeLine with deferred := some (.printerReset p) }
      let t := t.endJob p .printerReset
      let mine (e : FaultEntry) := e.source == some p && e.state == .opened
      let entries := t.log.entries.map fun e =>
        if mine e then { e with state := .cleared, clearedAt := some s.clock.now } else e
      let t := if t.log.entries.any mine then (t.putLog { t.log with entries := entries }).raise .faultCleared (.printer p)
        else t
      let t := if c.state = .absent then t else t.raise .printerChange (.printer p)
      (t.putCtl p { c with
        state := .absent, held := false, missed := 0, sensors := none, position := .unknown, head := .lifted,
        outstanding := some ⟨.enquire, .enquiry, true⟩, sending := some (Operation.frame .enquire), waiting := [],
        expansion := [], linesSent := 0, settling := false, idleLift := false, faultOpen := false, linkLost := false, load := none,
        resetWait := true }).afterEvent)

/-- How a job in progress ends without settling (R11, R21, R50, R95, R98, R100, R115): one INCOMPLETE record for each
printed coupon, counted; for PRINTER RESET the LOST record of a form in hand, whose pack's cursor moves by one, with
SPENT and STOCK LOW; its charge leaves pending; its reservation is released; the session's line gets the outcome; ISSUE
FAILED is raised. The reservation covers the records of every job (RecordsStayCovered). -/
def Obligations.JobEndsUnsettled : Prop :=
  ∀ (s : State) (p : PrinterId) (r : JobResult) (g : Progress), s.inProgress p = some g →
    g.job.printed.length + (if r = .printerReset ∧ g.formInHand = true then 1 else 0) ≤ g.job.reservation →
    g.job.reservation ≤ s.stock.reservation →
    let j := g.job
    let n := j.session
    let t := s.endJob p r
    let lost := if r = .printerReset ∧ g.formInHand then
        (s.loadedPack p).toList.map fun k => (⟨k.1, k.2.cursor⟩ : Coupon)
      else []
    let made (reason : Reason) (c : Coupon) : ExceptionRecord :=
      ⟨c.slot, c.serial, 1, reason, some n, (s.session n).clerk, ⟨s.clock.now, s.clock.day⟩, false⟩
    t.inProgress p = none ∧ (∀ q, q ≠ p → t.inProgress q = s.inProgress q) ∧ t.lanes = s.lanes ∧
    t.controllers = s.controllers ∧ t.log = s.log ∧ t.clock = s.clock ∧ t.drawers = s.drawers ∧
    t.stock.exceptions = s.stock.exceptions ++ j.printed.map (made .incomplete) ++ lost.map (made .lost) ∧
    t.stock.reservation = s.stock.reservation - j.reservation ∧ t.stock.loaded = s.stock.loaded ∧
    t.stock.recordsLow = decide (256 - (t.stock.exceptions.length + t.stock.reservation) < 32) ∧
    (∀ slot k, s.pack slot = some k → t.pack slot = some (
      if lost ≠ [] ∧ s.loaded p = some slot then k.pastOne (s.kind k.kind).threshold else k)) ∧
    (∀ slot, s.pack slot = none → t.pack slot = none) ∧
    (∀ slot k, s.loadedPack p = some (slot, k) → ∀ q, k.location = some q → s.phase = .running → lost ≠ [] →
      k.lowFlag = false → (k.pastOne (s.kind k.kind).threshold).lowFlag = true →
      (t.line officeLine).pendingSet.getLsbD NoticeClass.stockLow.bit = true) ∧
    (∀ m, m ≠ n → t.session m = s.session m) ∧
    (let x := s.session n
      let y := x.tally j.tender
      let old := x.counters[j.kind]
      t.session n = { x.setTally j.tender
        { y with pendingTotal := y.pendingTotal - j.total, pendingCount := y.pendingCount - 1 } with
          counters := x.counters.set j.kind { old with
            incomplete := if j.printed = [] then old.incomplete else min (old.incomplete + j.printed.length) 9999999
            failed := if lost = [] then old.failed else min (old.failed + 1) 9999999 } }) ∧
    (∀ l : Line, (t.line l).outcomes = if n ≠ officeLine ∧ l = n then
        joinOutcome (s.line l).outcomes ⟨n, j.issue, r, j.printed, j.substituted, j.truncated⟩
      else (s.line l).outcomes) ∧
    (s.phase = .running → (t.line n).pendingSet.getLsbD 1 = true ∧ (t.line officeLine).pendingSet.getLsbD 1 = true)

/-- On a ready line READ PRINTERS returns each printer's state, configuration, pack, job, lanes, open entry, sensors and
lamp; the bytes whose absent value no rule states are free (log entry 2). READ FAULTS returns up to 4 entries from the
one named, none from the next number, else NOT FOUND with the counts (log entry 27). ACKNOWLEDGE makes its checks in
order, else a CLEARED entry is ACKNOWLEDGED and an ACKNOWLEDGED one left as it is, with no update of the retained store
(log entry 19). (R131, R147, R148, R196, R201, R206) -/
def Obligations.PrintersAndFaultsAreRead : Prop :=
  (∀ (s : State) (l : Line), s.Ready l →
     let free (p : PrinterId) (i : Nat) := Config.unstatedByte s.draws (p.val * 25 + i)
     let shown (p : PrinterId) : List Byte :=
       let c := s.ctl p
       [byteOf c.state.code, byteOf c.head.code, byteOf c.position.code, flagByte c.held,
         byteOf (numberOf (s.config p).kind), byteOf (s.config p).feedClass, byteOf (s.config p).settleClass] ++
       (match s.loadedPack p with
         | some (slot, k) => [byteOf (slot.val + 1), byteOf k.state.code] ++ be 3 k.cursor
         | none => [0, free p 8, 0xFF, 0xFF, 0xFF]) ++
       (match s.inProgress p with
         | some g => [byteOf (g.job.session.val + 1)] ++ be 3 g.job.issue ++
             [byteOf g.job.state.code, byteOf g.job.printed.length, byteOf g.job.failures]
         | none => [0, free p 13, free p 14, free p 15, free p 16, free p 17, free p 18]) ++
       [byteOf (s.lane p).office.length, byteOf (s.lane p).window.length] ++
       (match s.openEntry p with
         | some e => be 2 e.number
         | none => [0, 0]) ++
       [(match c.sensors with
         | some x => Sensors.toByte x
         | none => 0xFF), byteOf c.lamp.code]
     exec (.readPrinters l) s =
       .next ((s.putDraws (s.draws + 1)).said l 0x45 .ok (shown 0 ++ shown 1 ++ shown 2 ++ shown 3))) ∧
  (∀ (s : State) (l : Line), s.Ready l →
     let counts := be 2 s.log.next ++ [byteOf s.log.entries.length, byteOf (s.log.entries.countP (·.state == .opened))]
     let reply (entries : List FaultEntry) :=
       s.said l 0x46 .ok (counts ++ [byteOf (entries.take 4).length] ++ (entries.take 4).flatMap FaultEntry.bytes)
     exec (.readFaults l 0) s = .next (reply s.log.entries) ∧
     (∀ older e newer, s.log.entries = older ++ e :: newer → (∀ f ∈ older, f.number ≠ e.number) → e.number ≠ 0 →
       exec (.readFaults l e.number) s = .next (reply (e :: newer))) ∧
     ∀ number, number ≠ 0 → (∀ e ∈ s.log.entries, e.number ≠ number) →
       exec (.readFaults l number) s = .next (
         if number = s.log.next then reply [] else s.said l 0x46 .notFound (counts ++ [0]))) ∧
  (∀ (s : State) (number : Nat), s.Ready officeLine →
     (number < 1 ∨ 65535 < number →
       exec (.acknowledge officeLine number) s = .next (s.said officeLine 0x47 .badParameter [])) ∧
     (1 ≤ number → number ≤ 65535 → (∀ e ∈ s.log.entries, e.number ≠ number) →
       exec (.acknowledge officeLine number) s = .next (s.said officeLine 0x47 .notFound [])) ∧
     ∀ older e newer, s.log.entries = older ++ e :: newer → (∀ f ∈ older ++ newer, f.number ≠ e.number) →
       1 ≤ e.number → e.number ≤ 65535 →
       exec (.acknowledge officeLine e.number) s = .next (
         if e.state = .opened then s.said officeLine 0x47 .wrongState []
         else if e.state = .acknowledged then s.said officeLine 0x47 .ok (be 2 e.number)
         else (s.putLog { s.log with entries := older ++ { e with state := .acknowledged } :: newer }).said officeLine 0x47 .ok
           (be 2 e.number)))

/-! ## Cash-up -/

/-- On a ready line the five requests make their checks in order, changing nothing when refused. BEGIN puts the session
in CASHUP with its owner, no declaration and a drawer pulse; ABANDON sets every declaration to 0, clears the owner and
opens the session; a DECLARE replaces what it declares, DECLARE CASH replying with the counted cash so far. (R163, R171)
-/
def Obligations.CashupIsDeclared : Prop :=
  (∀ (s : State) (l : Line), s.Ready l →
     (∀ session, session < 1 ∨ 7 < session →
       exec (.cashupBegin l session) s = .next (s.said l 0x50 .badParameter []) ∧
       exec (.cashupAbandon l session) s = .next (s.said l 0x55 .badParameter [])) ∧
     ∀ n : SessionId,
       let x := s.session n
       let none_ : Declarations := ⟨Vector.replicate 12 0, 0, 0, 0⟩
       (exec (.cashupBegin l (n.val + 1)) s = .next (
         if l ≠ officeLine ∧ n ≠ l then s.said l 0x50 .notPermitted []
         else if x.state = .closed then s.said l 0x50 .noSession []
         else if x.state = .cashup then s.said l 0x50 .inCashup []
         else if 0 < x.cash.pendingCount + x.card.pendingCount + x.warrant.pendingCount then s.said l 0x50 .pendingJobs []
         else ((s.putSession n { x with state := .cashup, owner := some l, declared := none_ }).putDrawer n true).said l 0x50
           .ok [byteOf (n.val + 1), byteOf (l.val + 1)])) ∧
       exec (.cashupAbandon l (n.val + 1)) s = .next (
         if l ≠ officeLine ∧ n ≠ l then s.said l 0x55 .notPermitted []
         else if x.state ≠ .cashup then s.said l 0x55 .wrongState []
         else if l ≠ officeLine ∧ x.owner ≠ some l then s.said l 0x55 .notOwner []
         else (s.putSession n { x with state := .opened, owner := none, declared := none_ }).said l 0x55 .ok [])) ∧
  (∀ (s : State) (l : Line), s.Ready l →
     (∀ session index count total, session < 1 ∨ 7 < session →
       exec (.declareCash l session index count) s = .next (s.said l 0x51 .badParameter []) ∧
       exec (.declareCard l session total) s = .next (s.said l 0x52 .badParameter []) ∧
       exec (.declareWarrants l session count total) s = .next (s.said l 0x53 .badParameter [])) ∧
     ∀ (n : SessionId) (index count total : Nat),
       let x := s.session n
       let refused : Option Status :=
         if l ≠ officeLine ∧ n ≠ l then some .notPermitted
         else if x.state ≠ .cashup then some .wrongState
         else if x.owner ≠ some l then some .notOwner
         else none
       (∀ status, refused = some status →
         exec (.declareCash l (n.val + 1) index count) s = .next (s.said l 0x51 status []) ∧
         exec (.declareCard l (n.val + 1) total) s = .next (s.said l 0x52 status []) ∧
         exec (.declareWarrants l (n.val + 1) count total) s = .next (s.said l 0x53 status [])) ∧
       (refused = none → 11 < index →
         exec (.declareCash l (n.val + 1) index count) s = .next (s.said l 0x51 .badParameter [])) ∧
       (refused = none → ∀ i : Fin 12, exec (.declareCash l (n.val + 1) i.val count) s = .next (
         if s.till.denominations[i] = 0 ∨ 65535 < count then s.said l 0x51 .badParameter []
         else
           let cash := x.declared.cash.set i count
           let counted : Nat := ((List.finRange 12).map fun k => cash[k] * s.till.denominations[k]).sum
           (s.putSession n { x with declared := { x.declared with cash := cash } }).said l 0x51 .ok
             (byteOf i.val :: be 2 count ++ beSigned 5 counted))) ∧
       (refused = none → exec (.declareCard l (n.val + 1) total) s = .next (
         if 99999999 < total then s.said l 0x52 .badParameter []
         else (s.putSession n { x with declared := { x.declared with card := total } }).said l 0x52 .ok (be 4 total))) ∧
       (refused = none → exec (.declareWarrants l (n.val + 1) count total) s = .next (
         if 999 < count ∨ 99999999 < total then s.said l 0x53 .badParameter []
         else (s.putSession n { x with
           declared := { x.declared with warrantCount := count, warrantTotal := total } }).said l 0x53 .ok
             (be 2 count ++ be 4 total))))

/-- CASHUP COMMIT (R164, R165, R166, R168, R169): the checks in their order; then the figures and their classes, the
record, the store with room made for it, the session CLOSED, and CASHUP STORED. The next number passes over those held.
That an idle line sends the reply before a notice raised in the same event is the model's choice (log entry 36). -/
def Obligations.CommitStoresCashup : Prop :=
  ∀ (s : State) (l : Line), s.Ready l →
    (∀ session, session < 1 ∨ 7 < session →
      exec (.cashupCommit l session) s = .next (s.said l 0x54 .badParameter [])) ∧
    ∀ n : SessionId, exec (.cashupCommit l (n.val + 1)) s = .next (
      let x := s.session n
      let may (r : CashupRecord) := r.isRead && decide (r.review ≠ .needed)
      if l ≠ officeLine ∧ n ≠ l then s.said l 0x54 .notPermitted []
      else if x.state ≠ .cashup then s.said l 0x54 .wrongState []
      else if x.owner ≠ some l then s.said l 0x54 .notOwner []
      else if 24 ≤ s.till.cashups.length ∧ s.till.cashups.all (fun r => !may r) then s.said l 0x54 .storeFull []
      else
        let coins : Nat := ((List.finRange 12).map fun k => x.declared.cash[k] * s.till.denominations[k]).sum
        let counted : Int := coins
        let expected : Int := (x.float : Int) + x.cash.settledTotal - x.cash.voidedTotal - x.liftsTotal
        let card : Int := (x.card.settledTotal : Int) - x.card.voidedTotal
        let warrants : Int := (x.warrant.settledCount : Int) - x.warrant.voidedCount
        let value : Int := (x.warrant.settledTotal : Int) - x.warrant.voidedTotal
        let tolerance := s.till.tolerance
        let judged (v : Int) : CashupClass := if (tolerance : Int) < v then .over else if v < -(tolerance : Int) then .short else .balanced
        let cashClass := judged (counted - expected)
        let cardClass := judged (x.declared.card - card)
        let warrantClass : CashupClass :=
          if (x.declared.warrantCount : Int) = warrants ∧ (x.declared.warrantTotal : Int) = value then .balanced else .mismatch
        let balanced := decide (cashClass = .balanced) && decide (cardClass = .balanced) && decide (warrantClass = .balanced)
        let r : CashupRecord :=
          { number := s.till.nextCashup, session := n, clerk := x.clerk, owner := l, signOn := x.signOn,
            commit := ⟨s.clock.now, s.clock.day⟩, float := x.float, cash := x.cash, card := x.card, warrant := x.warrant,
            liftsTotal := x.liftsTotal, liftsCount := x.liftsCount,
            denominations := (List.finRange 12).map fun k => (s.till.denominations[k], x.declared.cash[k]),
            cardDeclared := x.declared.card, warrantCountDeclared := x.declared.warrantCount,
            warrantTotalDeclared := x.declared.warrantTotal,
            figures := ⟨counted, expected, counted - x.float, counted - expected, card, x.declared.card - card, warrants,
              x.declared.warrantCount - warrants, value, x.declared.warrantTotal - value⟩,
            tolerance := tolerance, cashClass := cashClass, cardClass := cardClass, warrantClass := warrantClass,
            isBalanced := balanced, counters := x.counters, isRead := false,
            review := if balanced then .notNeeded else .needed }
        let kept := if s.till.cashups.length < 24 then s.till.cashups else s.till.cashups.eraseP may
        let numbers := (kept ++ [r]).map (·.number)
        let u := s.putSession n { x with state := .closed, owner := none }
        let u := u.putTill { u.till with cashups := kept ++ [r], nextCashup := nextNumber numbers 25 s.till.nextCashup }
        let fields := be 2 r.number ++ [if balanced then 1 else 2, byteOf cashClass.code, byteOf cardClass.code,
          byteOf warrantClass.code] ++ beSigned 5 counted ++ beSigned 5 expected ++ beSigned 5 (counted - x.float) ++
          beSigned 5 (counted - expected) ++ beSigned 5 (x.declared.card - card) ++
          beSigned 5 (x.declared.warrantCount - warrants) ++ beSigned 5 (x.declared.warrantTotal - value)
        ((u.raise .cashupStored (.session n)).answered l 0x54 .ok fields).pumpAll)

/-- READ CASHUP and REVIEW on the office line (R170, R172, R203): the oldest UNREAD record in two frames, which is then
READ; the record of a number reviewed, one already DONE left as it is (R196, log entry 19). That the record is returned
as it stood is the model's choice (log entry 15). -/
def Obligations.CashupsAreReadAndReviewed : Prop :=
  ∀ (s : State), s.Ready officeLine →
    ((∀ r ∈ s.till.cashups, r.isRead = true) →
      exec (.readCashup officeLine) s = .next (s.said officeLine 0x58 .notFound [])) ∧
    (∀ older r newer, s.till.cashups = older ++ r :: newer → (∀ q ∈ older, q.isRead = true) → r.isRead = false →
      exec (.readCashup officeLine) s = .next (
        let t := s.putTill { s.till with cashups := older ++ { r with isRead := true } :: newer }
        ((t.frameEnded officeLine).queueReply officeLine
          ⟨0xD8 :: 0x00 :: 0x01 :: r.part1, some (0xD8 :: 0x00 :: 0x02 :: r.part2)⟩).pump officeLine)) ∧
    (∀ number, number < 1 ∨ 65535 < number →
      exec (.review officeLine number) s = .next (s.said officeLine 0x59 .badParameter [])) ∧
    (∀ number, 1 ≤ number → number ≤ 65535 → (∀ r ∈ s.till.cashups, r.number ≠ number) →
      exec (.review officeLine number) s = .next (s.said officeLine 0x59 .notFound [])) ∧
    ∀ older r newer, s.till.cashups = older ++ r :: newer → (∀ q ∈ older ++ newer, q.number ≠ r.number) →
      1 ≤ r.number → r.number ≤ 65535 →
      exec (.review officeLine r.number) s = .next (
        if r.review = .notNeeded then s.said officeLine 0x59 .wrongState []
        else if r.review = .done then s.said officeLine 0x59 .ok (be 2 r.number)
        else (s.putTill { s.till with cashups := older ++ { r with review := .done } :: newer }).said officeLine 0x59 .ok
          (be 2 r.number))

/-! ## The request lines -/

/-- On a ready line each of the first five replies with what its rule lists and changes the one field of the line its
rule names, READ CLOCK none; WRITE BODY above 192 bytes is refused, and the one byte of its reply's count is the model's
choice (log entry 14). On the ready office line SET CLOCK is refused BAD PARAMETER out of range; else the four items are
replaced, the flag set, and CLOCK SET is raised. That an idle line sends the reply before a notice raised in the same
event is the model's choice (log entry 36). (R68, R187, R189, R193, R194) -/
def Obligations.LineReadsAndWrites : Prop :=
  (∀ (s : State) (l : Line), s.Ready l →
     let ln := s.line l
     exec (.readNotices l) s = .next ((s.putLine l { ln with pendingSet := 0 }).said l 0x01 .ok
       (be 2 ln.pendingSet.toNat ++ [if s.startResult = .storeKept then 0 else 1])) ∧
     (∀ mask : BitVec 16, exec (.setNoticeMask l mask) s = .next ((s.putLine l { ln with mask := mask }).said l 0x02 .ok
       (be 2 mask.toNat ++ be 2 ln.pendingSet.toNat))) ∧
     exec (.readOutcomes l) s = .next ((s.putLine l { ln with outcomes := [] }).said l 0x03 .ok
       (byteOf ln.outcomes.length :: ln.outcomes.flatMap Outcome.bytes)) ∧
     exec (.readClock l) s = .next (s.said l 0x05 .ok
       (be 4 s.clock.now.toStamp ++ be 2 s.clock.day ++ [byteOf s.clock.rollHour, if s.clock.isSet then 1 else 0])) ∧
     ∀ bytes : List Byte, exec (.writeBody l bytes) s = .next (
       if 192 < bytes.length then s.said l 0x16 .badParameter []
       else (s.putLine l { ln with body := bytes }).said l 0x16 .ok [byteOf bytes.length])) ∧
  (∀ (s : State) (stamp day rollHour : Nat), s.Ready officeLine →
     (36525 * 86400 ≤ stamp →
       exec (.setClock officeLine stamp day rollHour) s = .next (s.said officeLine 0x06 .badParameter [])) ∧
     ∀ now : DateTime, now.date.valid = true → now.time.valid = true →
       exec (.setClock officeLine now.toStamp day rollHour) s = .next (
         if day < 1 ∨ 9999 < day ∨ 23 < rollHour then s.said officeLine 0x06 .badParameter []
         else
           (((s.putClock ⟨now, day, rollHour, true⟩).raise .clockSet .nothing).answered officeLine 0x06 .ok
             (be 4 now.toStamp ++ be 2 day ++ [byteOf rollHour, 1])).pumpAll))

/-- The tests of a line on any request (R179, R180, R181, R182, R195): a halted part takes nothing; a frame that
completes behind 4 waiting replies is discarded; then STARTING, BUSY to all but ABORT, and NOT PERMITTED on a window
line. -/
def Obligations.LineTestsComeFirst : Prop :=
  ∀ (s : State) (i : Instr) (l : Line) (body : List Byte), requestBody i = some (l, body) →
    let code := body.headD 0
    (s.phase = .halted → exec i s = .next s) ∧
    (s.phase ≠ .halted → 4 ≤ (s.line l).replies.length → exec i s = .next (s.frameEnded l)) ∧
    (s.phase ≠ .halted → (s.line l).replies.length < 4 →
      (s.phase ≠ .running → exec i s = .next (s.said l code .starting [])) ∧
      (s.phase = .running →
        ((s.line l).deferred ≠ none → code ≠ 0x04 → exec i s = .next (s.said l code .busy [])) ∧
        ((s.line l).deferred = none ∨ code = 0x04 → l ≠ officeLine →
          code ∉ [0x01, 0x02, 0x03, 0x04, 0x05, 0x10, 0x11, 0x14, 0x15, 0x16, 0x20, 0x21, 0x22, 0x45, 0x46, 0x50, 0x51, 0x52,
            0x53, 0x54, 0x55] →
          exec i s = .next (s.said l code .notPermitted []))))

/-- An unknown code and a rejected frame are answered as the line's state asks; the gap timer frees the receiver; at a
frame's end the transmitter takes the second frame, the oldest reply, else the waiting notice. ABORT with nothing
deferred replies OK; else the load or reset wait ends, the deferred request's ABORTED reply joins the queue and ABORT's
OK after it. That FRAME_SENT with nothing being sent changes nothing is the model's choice (log entry 17). That an idle
line sends the reply before a notice raised in the same event is the model's choice (log entry 36). (R10, R130, R178,
R179, R180, R183, R203) -/
def Obligations.OtherFramesAreAnswered : Prop :=
  (∀ (s : State) (l : Line),
     (∀ code : Byte, isRequestCode code = false → exec (.unknownRequest l code) s = .next (
       if s.phase = .halted then s
       else if 4 ≤ (s.line l).replies.length then s.frameEnded l
       else s.said l code (if s.phase ≠ .running then .starting else if (s.line l).deferred ≠ none then .busy
         else .unknownRequest) [])) ∧
     (∀ first : Option Byte, exec (.rejected l first) s = .next (
       if s.phase = .halted then s
       else if 4 ≤ (s.line l).replies.length then s.frameEnded l
       else s.said l (first.getD 0x80) .rejected [])) ∧
     exec (.gapTimer l) s = .next (s.putLine l { s.line l with receiver := .waitLead }) ∧
     exec (.frameSent l) s = .next (
       let ln := s.line l
       match ln.sending with
       | none => s
       | some f =>
         match f.second with
         | some frame => s.putLine l { ln with sending := some ⟨frame, none⟩ }
         | none =>
           match ln.replies with
           | first :: rest => s.putLine l { ln with
               replies := rest, sending := some ⟨frameOf 0xA5 first.body, first.second.map (frameOf 0xA5)⟩ }
           | [] =>
             if ln.notice = true ∧ ln.pendingSet ≠ 0 then
               s.putLine l { ln with
                 notice := false
                 sending := some ⟨frameOf 0xA6 (be 2 ln.pendingSet.toNat ++ [byteOf s.startResult.code]), none⟩ }
             else s.putLine l { ln with notice := false, sending := none })) ∧
  (∀ (s : State) (l : Line), s.phase = .running → (s.line l).replies.length < 4 →
     ((s.line l).deferred = none → exec (.abort l) s = .next ((s.answered l 0x04 .ok []).afterEvent)) ∧
     ∀ p : PrinterId,
       let t := s.putLine officeLine { s.line officeLine with deferred := none }
       ((s.line officeLine).deferred = some (.printerReset p) → l = officeLine →
         exec (.abort l) s = .next (
           (((t.putCtl p { s.ctl p with resetWait := false }).answered l 0x44 .aborted []).answered l 0x04 .ok []).afterEvent)) ∧
       ∀ g, (s.ctl p).load = some g → (s.line officeLine).deferred = some (.loadPack p) → l = officeLine →
         exec (.abort l) s = .next (
           let c := s.ctl p
           let c := { c with
             load := none
             settling := false
             waiting := c.waiting.filter (!·.isWork)
             outstanding := c.outstanding.map fun o => if o.purpose = .load then { o with purpose := .stopped } else o }
           let u := t.putCtl p c
           let u := match g.takenIn with
             | .idle => u.setPrinterState p .idle
             | .offline => u.liftOffline p
             | _ => u
           ((u.answered l 0x32 .aborted []).answered l 0x04 .ok []).afterEvent))

/-! ## Clock, halts and start-up -/

/-- A second makes the time one second later; one that passes into the roll hour advances the booking day in the same
event and raises DAY ROLL, which open lines alone receive. CLOCK_TICK is any second; DAY_ROLL is that of the passing,
and at another time it changes nothing. Stamps count the seconds of the calendar one to one. A drawer pulse ends; a
flashing lamp toggles, a steady or dark one does not. After an event every lamp shows the indication of its printer's
state and its loaded pack's stock-low flag, lit from the start if it is new (log entry 25). That DAY_ROLL changes
nothing at another time, and that the clock without its supply in a halted part stands, are the model's (log entries 9,
19). That the running clock's own writes leave the signature word as it is is the model's choice (log entry 39). That
the end of a pulse that does not run changes nothing is the model's choice (log entry 17). (R63, R78, R132, R191, R192,
R196, R201) -/
def Obligations.ClockTicksAndRolls : Prop :=
  (∀ s : State,
     let c := s.clock
     let passes := decide (c.now.next.time = ⟨c.rollHour, 0, 0⟩)
     let stands := decide (s.phase = .halted ∧ s.signature = .other)
     let rolled : State := { s with clock := { c with now := c.now.next, day := if c.day = 9999 then 1 else c.day + 1 } }
     let second := if passes then (rolled.raise .dayRoll .nothing).pumpAll else { s with clock := { c with now := c.now.next } }
     exec .clockTick s = .next (if stands then s else second) ∧
     exec .dayRoll s = .next (if passes && !stands then second else s) ∧
     (s.phase ≠ .running → rolled.raise .dayRoll .nothing = rolled)) ∧
  ((∀ n, n < 36525 * 86400 → ∃ x, DateTime.ofStamp n = some x ∧ x.date.valid = true ∧ x.time.valid = true ∧ x.toStamp = n) ∧
   (∀ n, 36525 * 86400 ≤ n → DateTime.ofStamp n = none) ∧
   (∀ x : DateTime, x.date.valid = true → x.time.valid = true →
     x.toStamp < 36525 * 86400 ∧ DateTime.ofStamp x.toStamp = some x ∧
     x.next.date.valid = true ∧ x.next.time.valid = true ∧ x.next.toStamp = (x.toStamp + 1) % (36525 * 86400)) ∧
   DateTime.toStamp ⟨⟨2000, 1, 1⟩, ⟨0, 0, 0⟩⟩ = 0) ∧
  ((∀ (s : State) (p : PrinterId),
     let t := s.afterEvent
     let lamp : Lamp :=
       if (t.ctl p).state = .held ∨ (t.ctl p).state = .offline then .steady
       else if (t.ctl p).state = .fault then .fastFlash
       else if (t.loadedPack p).any (·.2.lowFlag) then .slowFlash
       else .off
     (t.ctl p).lamp = lamp ∧
     (t.ctl p).lampOn = if lamp = (s.ctl p).lamp then (s.ctl p).lampOn else decide (lamp ≠ .off)) ∧
   ∀ s : State,
     (∀ n : SessionId, exec (.drawerPulseEnd n) s = .next { s with drawers := s.drawers.set n false }) ∧
     ∀ p : PrinterId, s.phase = .running → exec (.lampFlash p) s = .next (
       let c := s.ctl p
       if c.lamp = .slowFlash ∨ c.lamp = .fastFlash then s.putCtl p { c with lampOn := !c.lampOn } else s))

/-- PFAIL, RST and a supply loss that cuts an update short make outputs inactive and lines silent and keep what is
retained; a lost supply changes the signature word. Until start-up a command that finds the part halted leaves every
block and every line as it was but the clock, the signature word, the inputs, and the body buffers that PFAIL empties.
What else a halt ends, and the supply's two ways, are the model's reading (log entries 18, 19). That a halt takes the
last operation frame from a printer line is the model's choice (log entry 38). (R67, R132, R190, R191, R195, R196) -/
def Obligations.PartHalts : Prop :=
  (∀ s : State,
     let quietLine (keep : Bool) (l : Line) : LineState :=
       { s.line l with
         receiver := .waitLead, replies := [], notice := false, sending := none, deferred := none
         body := if keep then (s.line l).body else [] }
     let quiet (p : PrinterId) : Controller :=
       { s.ctl p with
         outstanding := none, sending := none, waiting := [], settling := false, idleLift := false, resetWait := false,
         load := none, lamp := .off, lampOn := false, receiver := .waitLead }
     let halted (keep : Bool) : State :=
       { s with
         phase := .halted, drawers := Vector.replicate 7 false, controllers := Vector.ofFn quiet,
         lines := Vector.ofFn (quietLine keep) }
     exec .pfailAsserted s = .next { halted false with pfail := true } ∧
     exec .rstAsserted s = .next { halted true with rst := true } ∧
     exec (.backupSupplyLost .cutShort) s = .next { halted true with signature := .updating } ∧
     exec (.backupSupplyLost .belowRange) s = .next { s with signature := .other }) ∧
  (∀ (c : Instr) (s t : State), s.phase = .halted → s.drawers = Vector.replicate 7 false →
     (∀ p, s.ctl p = (s.ctl p).halted) → (∀ l, s.line l = (s.line l).halted) →
     (∀ straps stage, c ≠ .startUp straps stage) → exec c s = .next t →
     t.phase = .halted ∧ t.drawers = s.drawers ∧ t.controllers = s.controllers ∧
     (∀ l, t.line l = if c = .pfailAsserted then { s.line l with body := [] } else s.line l) ∧
     t.stock = s.stock ∧ t.till = s.till ∧ t.discounts = s.discounts ∧ t.maps = s.maps ∧ t.configs = s.configs ∧
     t.progress = s.progress ∧ t.log = s.log ∧ t.lanes = s.lanes ∧ t.setAside = s.setAside ∧ t.audit = s.audit ∧
     t.straps = s.straps ∧ t.startResult = s.startResult)

/-- Start-up of a halted part whose signature word does not read VALID gives the state right after reset (R27, R28, R61,
R66, R82, R110, R133, R151, R154, R175, R190, R191, R197, R199), with the straps as wired and the queue as it was. -/
def Obligations.StartUpAfterStoreLoss : Prop :=
  ∀ (s : State) (straps : Straps), s.phase = .halted → s.signature ≠ .valid →
    exec (.startUp straps .opened) s =
      .next { State.reset with pending := s.pending, draws := s.draws, straps := straps }

/-- Start-up from a halted part with VALID signature and no job in progress keeps the retained items, empties the
pending tallies, clears OPEN entries, evaluates the records-low condition, sets the volatile state, and opens the lines
with the START-UP notice, each window line's list holding the outcomes set aside for it in their order. A stage that
recovers a printer's job writes INCOMPLETE and LOST records, moves the cursor, counts, sets the outcome POWER aside, and
releases the reservation. Every start-up command, with jobs in progress too, is its stages in their order; the stage of
a printer without a job goes on alone, and that behind the last recovery is one update. Outcomes set aside stand through
a start-up broken off (log entry 34), and the stages as an operand are the model's (log entry 6). (R26, R65, R98, R103,
R115, R133, R153, R190, R195, R197, R198, R199) -/
def Obligations.StartUpWithKeptStore : Prop :=
  (∀ (s : State) (straps : Straps), s.phase = .halted → s.signature = .valid → s.progress = Vector.replicate 4 none →
     let unpended (t : Tally) : Tally := { t with pendingTotal := 0, pendingCount := 0 }
     let session (n : SessionId) : Session :=
       { s.session n with
         cash := unpended (s.session n).cash, card := unpended (s.session n).card,
         warrant := unpended (s.session n).warrant }
     let cleared (e : FaultEntry) : FaultEntry :=
       if e.state = .opened then { e with state := .cleared, clearedAt := some s.clock.now } else e
     let lowFlag (p : PrinterId) := (s.loadedPack p).any (·.2.lowFlag)
     let controller (p : PrinterId) : Controller :=
       { Controller.startUp with lamp := if lowFlag p then .slowFlash else .off, lampOn := lowFlag p }
     let mine (l : Line) : List Outcome := s.setAside.filter fun o => o.session == l
     let notice : List Byte := frameOf 0xA6 [0x80, 0x00, 0x00]
     let line (l : Line) : LineState :=
       { receiver := .waitLead, replies := [], notice := false, sending := some ⟨notice, none⟩, deferred := none,
         mask := 0xFFFF, pendingSet := 0x8000, body := []
         outcomes := if l = officeLine then [] else (mine l).drop ((mine l).length - 8) }
     exec (.startUp straps .opened) s = .next { s with
       phase := .running, pfail := false, rst := false, straps := straps, startResult := .storeKept, setAside := []
       till := { s.till with sessions := Vector.ofFn session }
       log := { s.log with entries := s.log.entries.map cleared }
       stock := { s.stock with
         recordsLow := decide (256 - (s.stock.exceptions.length + s.stock.reservation) < 32) }
       lanes := Vector.replicate 4 ⟨[], []⟩, audit := none, drawers := Vector.replicate 7 false
       controllers := Vector.ofFn controller
       lines := Vector.ofFn line }) ∧
  (∀ (s : State) (straps : Straps),
     (s.phase = .halted → s.signature = .valid → exec (.startUp straps .first) s = .next { s with
       phase := .starting 1, pfail := false, rst := false, straps := straps, startResult := .storeKept
       lines := Vector.replicate 7
         { receiver := .waitLead, replies := [], notice := false, sending := none, deferred := none,
           mask := 0xFFFF, pendingSet := 0x8000, outcomes := [], body := [] } }) ∧
     (s.phase = .starting 6 → (∀ l, (s.line l).outcomes = []) →
       ∃ t, exec (.startUp straps .volatile) s = .next t ∧ t.phase = .starting 7 ∧ t.setAside = s.setAside ∧
         (∀ l, t.line l = { s.line l with
           outcomes := if l = officeLine then [] else
             (s.setAside.filter fun o => o.session == l).drop
               ((s.setAside.filter fun o => o.session == l).length - 8) }) ∧
         t.lanes = Vector.replicate 4 ⟨[], []⟩ ∧ t.audit = none ∧ t.drawers = Vector.replicate 7 false ∧
         (∀ p, t.ctl p = { Controller.startUp with
           lamp := if (s.loadedPack p).any (·.2.lowFlag) then .slowFlash else .off
           lampOn := (s.loadedPack p).any (·.2.lowFlag) }) ∧
         t.stock = s.stock ∧ t.till = s.till ∧ t.log = s.log ∧ t.clock = s.clock ∧ t.progress = s.progress ∧
         t.discounts = s.discounts ∧ t.maps = s.maps ∧ t.configs = s.configs ∧ t.signature = s.signature ∧
         t.startResult = s.startResult) ∧
     (s.phase = .starting 7 →
       ∃ t, exec (.startUp straps .opened) s = .next t ∧ t.phase = .running ∧ t.setAside = [] ∧
         (∀ l, (t.line l).outcomes = (s.line l).outcomes ∧
           (t.line l).pendingSet = (s.line l).pendingSet ||| 0x8000 ∧ (t.line l).body = (s.line l).body ∧
           t.line l =
             let ln := { s.line l with pendingSet := (s.line l).pendingSet ||| 0x8000 }
             if ln.sending ≠ none then { ln with notice := true }
             else match ln.replies with
               | first :: rest => { ln with
                   notice := true, replies := rest
                   sending := some ⟨frameOf 0xA5 first.body, first.second.map (frameOf 0xA5)⟩ }
               | [] => { ln with
                   notice := false
                   sending := some ⟨frameOf 0xA6 (be 2 ln.pendingSet.toNat ++
                     [match s.startResult with | .storeKept => 0x00 | .storeLost => 0x01]), none⟩ }) ∧
         t.discounts = s.discounts ∧ t.maps = s.maps ∧ t.configs = s.configs ∧ t.signature = s.signature ∧
         t.startResult = s.startResult ∧ t.audit = s.audit ∧ t.drawers = s.drawers ∧
         t.stock = s.stock ∧ t.till = s.till ∧ t.log = s.log ∧ t.clock = s.clock ∧ t.progress = s.progress ∧
         t.controllers = s.controllers ∧ t.lanes = s.lanes)) ∧
  (∀ (s : State) (straps : Straps) (p : PrinterId), s.phase = .starting (p.val + 1) → s.startResult = .storeKept →
     ∀ g, s.inProgress p = some g →
     g.job.printed.length + (if g.formInHand then 1 else 0) ≤ g.job.reservation → g.job.reservation ≤ s.stock.reservation →
     let j := g.job
     let n := j.session
     let lost : List Coupon := if g.formInHand then (s.loadedPack p).toList.map (fun k => ⟨k.1, k.2.cursor⟩) else []
     let made (reason : Reason) (c : Coupon) : ExceptionRecord :=
       ⟨c.slot, c.serial, 1, reason, some n, (s.session n).clerk, ⟨s.clock.now, s.clock.day⟩, false⟩
     let old := (s.session n).counters[j.kind]
     ∃ t, exec (.startUp straps (.recover p)) s = .next t ∧
       t.phase = .starting (p.val + 2) ∧ t.inProgress p = none ∧ (∀ q, q ≠ p → t.inProgress q = s.inProgress q) ∧
       t.setAside = s.setAside ++ [⟨n, j.issue, .power, j.printed, false, false⟩] ∧
       t.stock.exceptions = s.stock.exceptions ++ j.printed.map (made .incomplete) ++ lost.map (made .lost) ∧
       t.stock.reservation = s.stock.reservation - j.reservation ∧
       (∀ slot k, s.pack slot = some k → t.pack slot = some (
         if lost ≠ [] ∧ s.loaded p = some slot then k.pastOne (s.kind k.kind).threshold else k)) ∧
       (∀ m, m ≠ n → t.session m = s.session m) ∧
       t.session n = { s.session n with
         counters := (s.session n).counters.set j.kind { old with
           incomplete := if j.printed = [] then old.incomplete else min (old.incomplete + j.printed.length) 9999999
           failed := if lost = [] then old.failed else min (old.failed + 1) 9999999 } } ∧
       t.controllers = s.controllers ∧ t.log = s.log ∧ t.clock = s.clock ∧ t.lines = s.lines) ∧
  (∀ (s : State) (straps : Straps),
     (∀ stage : StartStage,
       let order : List StartStage := [.first, .recover 0, .recover 1, .recover 2, .recover 3, .retained, .volatile, .opened]
       let taken := match s.phase with
         | .halted => 0
         | .starting n => n
         | .running => 8
       exec (.startUp straps stage) s =
         runCommands (((order.take (order.idxOf stage + 1)).drop taken).map fun x => .startUp straps x) s) ∧
     (s.phase = .halted → s.signature ≠ .valid → exec (.startUp straps .first) s = .next { s with
       phase := .starting 1, pfail := false, rst := false, straps := straps, startResult := .storeLost
       signature := .updating
       lines := Vector.replicate 7
         { receiver := .waitLead, replies := [], notice := false, sending := none, deferred := none,
           mask := 0xFFFF, pendingSet := 0x8000, outcomes := [], body := [] } }) ∧
     (∀ p : PrinterId, s.phase = .starting (p.val + 1) → s.startResult = .storeLost ∨ s.inProgress p = none →
       exec (.startUp straps (.recover p)) s = .next { s with phase := .starting (p.val + 2) }) ∧
     (s.phase = .starting 5 → s.startResult = .storeKept →
       let unpended (t : Tally) : Tally := { t with pendingTotal := 0, pendingCount := 0 }
       let session (n : SessionId) : Session :=
         { s.session n with
           cash := unpended (s.session n).cash, card := unpended (s.session n).card,
           warrant := unpended (s.session n).warrant }
       let cleared (e : FaultEntry) : FaultEntry :=
         if e.state = .opened then { e with state := .cleared, clearedAt := some s.clock.now } else e
       exec (.startUp straps .retained) s = .next { s with
         phase := .starting 6, signature := .valid
         till := { s.till with sessions := Vector.ofFn session }
         log := { s.log with entries := s.log.entries.map cleared }
         stock := { s.stock with
           recordsLow := decide (256 - (s.stock.exceptions.length + s.stock.reservation) < 32) } }) ∧
     (s.phase = .starting 5 → s.startResult = .storeLost → exec (.startUp straps .retained) s = .next { s with
       phase := .starting 6, signature := .valid, setAside := []
       clock := State.reset.clock, stock := State.reset.stock, till := State.reset.till, log := State.reset.log
       discounts := State.reset.discounts, maps := State.reset.maps, configs := State.reset.configs
       progress := State.reset.progress }))

/-! ## Frames and notices -/

/-- The body of every well-formed request reads back as that request, and every body that reads as a request is the body
of that request, which is well-formed: reading and writing a body are inverse on all 47 layouts. (R201, R203) -/
def Obligations.RequestLayoutsRoundTrip : Prop :=
  (∀ (i : Instr) (l : Line) (code : Byte) (rest : List Byte), requestBody i = some (l, code :: rest) →
     i.wellFormed = true → readRequest l code rest = some i) ∧
  (∀ (l : Line) (code : Byte) (rest : List Byte) (i : Instr), readRequest l code rest = some i →
     i.wellFormed = true ∧ requestBody i = some (l, code :: rest))

/-- A request's frame, byte by byte, is that request (R177, R178, R180, R203): on a line in WAIT LEAD the bytes of the
frame of a well-formed request leave what the request itself leaves, in every state of the part. -/
def Obligations.RequestBytesRunRequest : Prop :=
  ∀ (i : Instr) (l : Line) (body : List Byte), requestBody i = some (l, body) → i.wellFormed = true →
    ∀ s : State, (s.line l).receiver = .waitLead →
      runCommands ((frameOf 0xA5 body).map (.requestLineByteArrives l)) s = exec i s

/-- Other bytes of a request line (R178, R180, R203): outside a frame all but A5h, which begins one, is discarded; a bad
length or a bad check is REJECTED; a code that names no request is UNKNOWN REQUEST; a length that fits no layout is BAD
PARAMETER. -/
def Obligations.OddBytesAreJudged : Prop :=
  ∀ (s : State) (l : Line), (s.line l).receiver = .waitLead →
    (∀ b : Byte, b ≠ 0xA5 → exec (.requestLineByteArrives l b) s = .next s) ∧
    (s.phase ≠ .halted →
      exec (.requestLineByteArrives l 0xA5) s = .next (s.putLine l { s.line l with receiver := .length 0xA5 })) ∧
    (∀ len : Byte, len = 0 ∨ 250 < len.toNat →
      runCommands ([0xA5, len].map (.requestLineByteArrives l)) s = exec (.rejected l none) s) ∧
    ∀ (first : Byte) (rest : List Byte), rest.length ≤ 249 →
      (∀ check : Byte, check ≠ checkByte (first :: rest) →
        runCommands ((0xA5 :: byteOf (rest.length + 1) :: first :: rest ++ [check]).map (.requestLineByteArrives l)) s =
          exec (.rejected l (some first)) s) ∧
      (isRequestCode first = false →
        runCommands ((frameOf 0xA5 (first :: rest)).map (.requestLineByteArrives l)) s = exec (.unknownRequest l first) s) ∧
      (isRequestCode first = true → readRequest l first rest = none → s.Ready l →
        l = officeLine ∨ first.toNat ∉ officeCodes →
        runCommands ((frameOf 0xA5 (first :: rest)).map (.requestLineByteArrives l)) s =
          .next (s.said l first .badParameter []))

/-- The frames of a printer line (R104, R105, R204, R205). An operation that is sent is outstanding with its frame on
the line: A5h, the length, its code, for PRINT LINE the characters, and the check byte that makes the sum 0 modulo 256;
behind another operation it waits. While the printers run, in every state of the receiver a byte answers the state its
receive state names; with the last one a frame is judged: a bad check is discarded, a body that fits an answer or a
SENSOR CHANGE runs that command, and any other is a frame set aside that carries nothing. So the frame of an answer,
byte by byte, is that answer; bits 3 to 7 of a sensor byte are ignored and a strip check byte other than 01h is bad (log
entries 21, 30). -/
def Obligations.PrinterBytesRunAnswer : Prop :=
  (∀ (s : State) (p : PrinterId) (op : Operation) (purpose : Purpose),
    let c := s.ctl p
    let body : List Byte := match op with
      | .engage => [0x01]
      | .lift => [0x02]
      | .advance => [0x03]
      | .readStrip => [0x04]
      | .printLine chars => 0x05 :: chars
      | .eject => [0x06]
      | .enquire => [0x07]
    let check : Byte := 0 - (BitVec.ofNat 8 body.length + body.foldr (· + ·) 0)
    op.frame = 0xA5 :: BitVec.ofNat 8 body.length :: body ++ [check] ∧
    (c.outstanding = none → c.waiting = [] → s.sendOp p op purpose = s.putCtl p { c with
      outstanding := some ⟨op, purpose, decide (op = .enquire ∧ (c.state = .absent ∨ c.linkLost = true ∨ c.resetWait = true))⟩
      sending := some op.frame }) ∧
    (c.outstanding ≠ none ∨ c.waiting ≠ [] →
      s.sendOp p op purpose = s.putCtl p { c with waiting := c.waiting ++ [.op op purpose] })) ∧
  ∀ (s : State) (p : PrinterId), s.phase = .running →
    let into (r : Receiver) : State := s.putCtl p { s.ctl p with receiver := r }
    (∀ b : Byte, ∃ t, exec (.printerLineByteArrives p b) s = .next t) ∧
    ((s.ctl p).receiver = .waitLead →
      (∀ b : Byte, exec (.printerLineByteArrives p b) s =
        .next (if b = 0xA5 ∨ b = 0xA6 then into (.length b) else s)) ∧
      (∀ (i : Instr) (lead : Byte) (body : List Byte), printerBody i = some (p, lead, body) → i.wellFormed = true →
        runCommands ((frameOf lead body).map (.printerLineByteArrives p)) s = exec i s) ∧
      (∀ (lead first : Byte) (rest : List Byte), lead = 0xA5 ∨ lead = 0xA6 → rest.length ≤ 249 →
        (∀ check : Byte, check ≠ checkByte (first :: rest) →
          runCommands ((lead :: byteOf (rest.length + 1) :: first :: rest ++ [check]).map (.printerLineByteArrives p)) s =
            exec (.printerFrameDiscarded p) s) ∧
        ((lead = 0xA5 ∧ printerAnswerFits first rest = false) ∨ (lead = 0xA6 ∧ (first ≠ 0x7F ∨ rest.length ≠ 1)) →
          runCommands ((frameOf lead (first :: rest)).map (.printerLineByteArrives p)) s =
            exec (.printerFrameSetAside p .other) s)) ∧
      ∀ sensors : Byte,
        let x : Sensors := ⟨sensors.getLsbD 0, sensors.getLsbD 1, sensors.getLsbD 2⟩
        let sent (lead : Byte) (body : List Byte) : Host.Outcome State Fault Refusal :=
          runCommands ((frameOf lead body).map (.printerLineByteArrives p)) s
        sent 0xA5 [0x81, 0, sensors] = exec (.engageAnswer p (.ok x)) s ∧
        sent 0xA5 [0x82, 0, sensors] = exec (.liftAnswer p (.ok x)) s ∧
        sent 0xA5 [0x83, 0, sensors] = exec (.advanceAnswer p (.ok x)) s ∧
        sent 0xA5 [0x84, 0, sensors, 0] = exec (.readStripAnswer p (.noForm x)) s ∧
        (∀ check l1 l2 s1 s2 s3 : Byte, sent 0xA5 [0x84, 0, sensors, 1, check, l1, l2, s1, s2, s3] =
          exec (.readStripAnswer p
            (.strip (check == 1) l1 l2 (s1.toNat * 65536 + s2.toNat * 256 + s3.toNat) x)) s) ∧
        sent 0xA5 [0x85, 0, sensors] = exec (.printLineAnswer p (.ok x)) s ∧
        sent 0xA5 [0x86, 0, sensors] = exec (.ejectAnswer p (.ok x)) s ∧
        sent 0xA5 [0x87, 0, sensors] = exec (.enquireAnswer p (.ok x)) s ∧
        sent 0xA6 [0x7F, sensors] = exec (.sensorChange p x) s) ∧
    (∀ lead, (s.ctl p).receiver = .length lead → ∀ b : Byte, exec (.printerLineByteArrives p b) s =
      .next (into (if 1 ≤ b.toNat ∧ b.toNat ≤ 250 then .body lead b.toNat [] else .waitLead))) ∧
    (∀ lead len got, (s.ctl p).receiver = .body lead len got → ∀ b : Byte, exec (.printerLineByteArrives p b) s =
      .next (into (if got.length + 1 < len then .body lead len (got ++ [b]) else .check lead len (got ++ [b])))) ∧
    ∀ (lead : Byte) (len : Nat) (first : Byte) (rest : List Byte), (s.ctl p).receiver = .check lead len (first :: rest) →
      len = rest.length + 1 →
      (∀ b : Byte, b ≠ checkByte (first :: rest) → exec (.printerLineByteArrives p b) s = .next (into .waitLead)) ∧
      (∀ i : Instr, printerBody i = some (p, lead, first :: rest) → i.wellFormed = true →
        exec (.printerLineByteArrives p (checkByte (first :: rest))) s = exec i (into .waitLead)) ∧
      ((lead = 0xA5 ∧ printerAnswerFits first rest = false) ∨ (lead = 0xA6 ∧ (first ≠ 0x7F ∨ rest.length ≠ 1)) →
        exec (.printerLineByteArrives p (checkByte (first :: rest))) s =
          exec (.printerFrameSetAside p .other) (into .waitLead))

/-- A class raised on open lines joins the pending sets of the lines that R184 names and of no other, and a line that
has it enabled and not yet pending gets a waiting notice (R184, R186); before the lines open nothing is raised (R199).
-/
def Obligations.NoticesReachTheirLines : Prop :=
  ∀ (s : State) (c : NoticeClass) (sub : Subject) (l : Line),
    let named (p : PrinterId) := if h : l.val < 6 then
        decide (∃ k : Kind, s.maps[l.val][k].primary = some p ∨ s.maps[l.val][k].alternate = some p) else false
    let reached : Bool :=
      if l = officeLine then decide (c ≠ .issueDone ∨ sub = .session officeLine)
      else decide (c ∈ [.dayRoll, .clockSet, .startUp]) ||
        (decide (c ∉ [.recordsLow, .loadDone]) && match sub with
          | .session n => decide (n = l)
          | .printer p => named p
          | .nothing => false)
    let ln := s.line l
    (s.phase ≠ .running → s.raise c sub = s) ∧
    (s.phase = .running → reached = false → (s.raise c sub).line l = ln) ∧
    (s.phase = .running → reached = true → (s.raise c sub).line l =
      if ln.pendingSet.getLsbD c.bit then ln
      else { ln with
        pendingSet := ln.pendingSet ||| BitVec.ofNat 16 (2 ^ c.bit), notice := ln.notice || ln.mask.getLsbD c.bit }) ∧
    { s.raise c sub with lines := s.lines } = s

/-! ## The fare unit and the ticket body -/

/-- The charge of one passenger (R31, R32, R33, R34): the discount, the rounding to the nearest multiple of the step, an
exact half upward, the base cap and the floor. -/
def Obligations.ChargeStaysInBounds : Prop :=
  ∀ (base : Nat) (e : Discount), 0 < e.step → e.rate ≤ 1000 →
    let d := base * e.rate / 1000
    let u := base - d
    let q := e.step * ((2 * u + e.step) / (2 * e.step))
    let capped := if base < q then q - e.step else q
    let c := max capped (min e.floor base)
    (base ≤ 99999 → base * e.rate ≤ 99999000) ∧ d ≤ base ∧ (e.rate = 0 → d = 0) ∧ (e.rate = 1000 → d = base) ∧
    (e.step = 1 → q = u) ∧ (u = 0 → q = 0) ∧ e.step ∣ q ∧ 2 * q ≤ 2 * u + e.step ∧ 2 * u < 2 * q + e.step ∧
    e.step ∣ capped ∧ capped ≤ base ∧ (base < q → capped < u) ∧
    min e.floor base ≤ c ∧ c ≤ base ∧ perPassenger base e = c ∧ (base = 0 → c = 0)

/-- The check value is the sum of R38 modulo 17,576, exact for the largest figures, and each value has one form of three
capital letters. An amount is printed as its whole units without a leading zero, a point and two digits. (R38) -/
def Obligations.CheckCodesAndAmounts : Prop :=
  ((∀ serial total day kind coupon,
     checkValue serial total day kind coupon = (serial * 37 + total * 11 + day * 5 + kind * 3 + coupon) % 17576 ∧
     (serial ≤ 999999 → total ≤ 899991 → day ≤ 9999 → kind ≤ 8 → coupon ≤ 4 →
       serial * 37 + total * 11 + day * 5 + kind * 3 + coupon ≤ 46949887) ∧
     checkValue serial total day kind coupon < 17576) ∧
   (∀ c d, c < 17576 → d < 17576 → checkLetters c = checkLetters d → c = d) ∧
   (∀ c, c < 17576 → (checkLetters c).length = 3 ∧ ∀ b ∈ checkLetters c, 0x41 ≤ b.toNat ∧ b.toNat ≤ 0x5A) ∧
   checkLetters 0 = [0x41, 0x41, 0x41] ∧ checkLetters 17575 = [0x5A, 0x5A, 0x5A]) ∧
  (∀ n, n < 10 ^ 12 → ∃ whole : List Byte,
     printedAmount n = whole ++ [0x2E, byteOf (0x30 + n / 10 % 10), byteOf (0x30 + n % 10)] ∧
     (∀ b ∈ whole, 0x30 ≤ b.toNat ∧ b.toNat ≤ 0x39) ∧
     whole.foldl (fun m b => m * 10 + (b.toNat - 0x30)) 0 = n / 100 ∧
     (whole = [0x30] ∨ ∃ first rest, whole = first :: rest ∧ first ≠ 0x30))

/-- The expansion of a body (R39, R70, R71, R72, R73, R74, R75): the body divided at its 0Ah bytes; a printable byte
places itself, a field code the characters of its field, from the job, its session, the form's serial and the clock, and
any other byte a question mark, 3Fh, and is substituted; of the first 12 lines each the characters of its bytes up to
the 40th; TRUNCATED when a line has a 41st or there is a 13th line, SUBSTITUTED when the question mark of a substituted
byte is within the first 40. -/
def Obligations.BodyExpandsToLines : Prop :=
  (∀ body : List Byte, (∀ line ∈ bodyLines [] body, (0x0A : Byte) ∉ line) ∧
    (bodyLines [] body).flatMap (· ++ [0x0A]) =
      if body = [] ∨ body.getLast? = some 0x0A then body else body ++ [0x0A]) ∧
  (∀ (s : State) (j : Job) (serial : Nat), s.bodyFacts j serial =
    { letter1 := (s.kind j.kind).letter1, letter2 := (s.kind j.kind).letter2, serial := serial, total := j.total
      charge := j.charge, now := s.clock.now, day := s.clock.day, session := j.session
      clerk := (s.session j.session).clerk.getD 0, coupon := j.printed.length + 1, requested := j.requested
      passengers := j.passengers, kind := j.kind.val + 1, issue := j.issue }) ∧
  (∀ (f : BodyFacts) (b : Byte),
    let digits (w n : Nat) : List Byte := (List.range w).map fun i => byteOf (0x30 + n / 10 ^ (w - 1 - i) % 10)
    let v := checkValue f.serial f.total f.day f.kind f.coupon
    (0x20 ≤ b.toNat → b.toNat ≤ 0x7E → byteChars f b = ([b], false)) ∧
    (b ≠ 0x0A → b.toNat < 0x20 ∨ b = 0x7F ∨ 0x8B < b.toNat → byteChars f b = ([0x3F], true)) ∧
    byteChars f 0x80 = ([f.letter1, f.letter2, 0x20] ++ digits 6 f.serial, false) ∧
    byteChars f 0x81 = (printedAmount f.total, false) ∧
    byteChars f 0x82 = (printedAmount f.charge, false) ∧
    byteChars f 0x83 = (digits 2 f.now.date.day ++ [0x2E] ++ digits 2 f.now.date.month ++ [0x2E] ++
      digits 2 (f.now.date.year % 100), false) ∧
    byteChars f 0x84 = (digits 4 f.day, false) ∧
    byteChars f 0x85 = (digits 2 f.now.time.hour ++ [0x3A] ++ digits 2 f.now.time.minute, false) ∧
    byteChars f 0x86 = (if f.session = officeLine then [0x4F, 0x46] else [0x57, byteOf (0x31 + f.session.val)], false) ∧
    byteChars f 0x87 = (digits 4 f.clerk, false) ∧
    byteChars f 0x88 = (digits 1 f.coupon ++ [0x2F] ++ digits 1 f.requested, false) ∧
    byteChars f 0x89 = (digits 1 f.passengers, false) ∧
    byteChars f 0x8A = ([byteOf (0x41 + v / 676), byteOf (0x41 + v / 26 % 26), byteOf (0x41 + v % 26)], false) ∧
    byteChars f 0x8B = (digits 5 f.issue, false)) ∧
  (∀ (f : BodyFacts) (line : List Byte),
    let all := line.flatMap fun b => (byteChars f b).1
    let x := expandLine f [] line false
    x.chars = all.take 40 ∧ x.truncated = decide (40 < all.length) ∧
    (x.substituted = true ↔ ∃ before b after, line = before ++ b :: after ∧ (byteChars f b).2 = true ∧
      (before.flatMap fun b => (byteChars f b).1).length < 40)) ∧
  ∀ (f : BodyFacts) (body : List Byte),
    let lines := bodyLines [] body
    let x := expandBody f body
    x.1 = (lines.take 12).map (fun line => (expandLine f [] line false).chars) ∧ x.1.length ≤ 12 ∧
    (∀ chars ∈ x.1, chars.length ≤ 40) ∧
    (x.2.1 = true ↔ ∃ line ∈ lines.take 12, (expandLine f [] line false).substituted = true) ∧
    (x.2.2 = true ↔ 12 < lines.length ∨ ∃ line ∈ lines.take 12, (expandLine f [] line false).truncated = true) ∧
    (body ≠ [] → x.1 ≠ [])

/-! ## The printers at work -/

/-- On a running part, and during start-up once the printers run, an OK answer to the outstanding operation of a printer
that is not ABSENT, its set with no sensor newly bad: ENGAGE of a loop or load engages the head and the settle time
follows, over at once for class 0, when a form at the head that is VERIFIED has its first line sent or its marked job
ended; LIFT lifts the head, whatever sent it (log entry 24); ADVANCE leaves a position UNKNOWN as it is (log entry 31)
and is followed by READ STRIP; PRINT LINE by the next line, after the last by EJECT; the answer to stopped work is set
aside (log entry 11). With a sensor newly bad the set is judged after the result and the work stops (log entry 10). Then
what waited behind the operation is sent, the oldest first: an operation goes out, and a loop or a load begins, so that
one that waited behind a LIFT or an ENQUIRE sends ENGAGE to the head then LIFTED, and a loop that waited behind an
ENQUIRE feeds under an ENGAGED head. That nothing waits behind a step of a loop or load, and a waiting loop or load
last, is an invariant (PrintersStaySound). That an idle line sends the reply before a notice raised in the same event is
the model's choice (log entry 36). (R100, R104, R105, R106, R108, R110, R111, R112, R113, R116, R122, R137) -/
def Obligations.AnswersCarryWorkOn : Prop :=
  (∀ (s : State) (p : PrinterId), s.phase = .running ∨ s.phase = .starting 7 →
     ∀ op purpose once, (s.ctl p).outstanding = some ⟨op, purpose, once⟩ → (s.ctl p).linkLost = false →
     (s.ctl p).state ≠ .absent → ∀ x : Sensors,
     let b : Controller := { s.ctl p with outstanding := none, missed := 0 }
     let working : Bool := decide (purpose = .loop ∨ purpose = .load)
     let lowered (d : Controller) : Controller := if working then { d with head := .engaged } else d
     let ended (u : State) : Host.Outcome State Fault Refusal := .next (u.opEnded p).afterEvent
     (Sensors.worsens x (s.ctl p).sensors = false →
       let c : Controller := { b with sensors := some x }
       (c.waiting = [] →
         (op = .engage → working = true →
           ((s.config p).settleClass ≠ 0 →
             exec (.engageAnswer p (.ok x)) s = .next (s.putCtl p { lowered c with settling := true }).afterEvent) ∧
           ((s.config p).settleClass = 0 →
             let u := s.putCtl p { lowered c with settling := false }
             (c.load.isSome → exec (.engageAnswer p (.ok x)) s = ended (u.loadStep p)) ∧
             (c.load = none →
               exec (.engageAnswer p (.ok x)) s = ended (u.positionForm p) ∧
               (c.position = .verified → c.state.busy = true → ∀ g, s.inProgress p = some g →
                 ∀ slot k, s.loadedPack p = some (slot, k) →
                 let d := { lowered c with settling := false, usedAdvances := 0 }
                 exec (.engageAnswer p (.ok x)) s = .next (
                   if g.job.abortMark then (((s.putCtl p d).endJob p .aborted).setPrinterState p .idle).afterEvent
                   else (s.printBegun p g k.cursor d).afterEvent))))) ∧
         (op = .advance → purpose = .loop → c.state.busy = true → exec (.advanceAnswer p (.ok x)) s = .next (
           (s.putCtl p { c with
             state := .reading, idleLift := false, badReads := 0
             outstanding := some ⟨.readStrip, .loop, false⟩, sending := some (Operation.frame .readStrip) }).afterEvent)) ∧
         (op.code = 0x05 → purpose = .loop → c.state.busy = true → exec (.printLineAnswer p (.ok x)) s = .next (
           match c.expansion[c.linesSent]? with
           | some chars => (s.putCtl p { c with
               state := .printing, idleLift := false, linesSent := c.linesSent + 1
               outstanding := some ⟨.printLine chars, .loop, false⟩
               sending := some (Operation.frame (.printLine chars)) }).afterEvent
           | none => (s.putCtl p { c with
               state := .ejecting, idleLift := false, outstanding := some ⟨.eject, .loop, false⟩
               sending := some (Operation.frame .eject) }).afterEvent))) ∧
       (op = .lift → exec (.liftAnswer p (.ok x)) s = ended (s.putCtl p { c with head := .lifted })) ∧
       (op = .enquire → Sensors.allGood x = false ∨ c.faultOpen = false →
         exec (.enquireAnswer p (.ok x)) s = ended (s.putCtl p c)) ∧
       (purpose = .stopped →
         (op = .engage → exec (.engageAnswer p (.ok x)) s = ended (s.putCtl p c)) ∧
         (op = .advance → exec (.advanceAnswer p (.ok x)) s = ended (s.putCtl p c)) ∧
         (op = .readStrip →
           exec (.readStripAnswer p (.noForm x)) s = ended (s.putCtl p c) ∧
           ∀ good l1 l2 serial, exec (.readStripAnswer p (.strip good l1 l2 serial x)) s = ended (s.putCtl p c)) ∧
         (op.code = 0x05 → exec (.printLineAnswer p (.ok x)) s = ended (s.putCtl p c)) ∧
         (op = .eject → exec (.ejectAnswer p (.ok x)) s = ended (s.putCtl p c)))) ∧
     (Sensors.worsens x (s.ctl p).sensors = true →
       (op = .engage → exec (.engageAnswer p (.ok x)) s = ended ((s.putCtl p (lowered b)).struck p x)) ∧
       (op = .lift → exec (.liftAnswer p (.ok x)) s = ended ((s.putCtl p { b with head := .lifted }).struck p x)) ∧
       (op = .advance → exec (.advanceAnswer p (.ok x)) s = ended ((s.putCtl p b).struck p x)) ∧
       (op.code = 0x05 → exec (.printLineAnswer p (.ok x)) s = ended ((s.putCtl p b).struck p x)) ∧
       (op = .enquire → exec (.enquireAnswer p (.ok x)) s = ended ((s.putCtl p b).struck p x)) ∧
       (purpose = .stopped →
         (op = .readStrip →
           exec (.readStripAnswer p (.noForm x)) s = ended ((s.putCtl p b).struck p x) ∧
           ∀ good l1 l2 serial,
             exec (.readStripAnswer p (.strip good l1 l2 serial x)) s = ended ((s.putCtl p b).struck p x)) ∧
         (op = .eject → exec (.ejectAnswer p (.ok x)) s = ended ((s.putCtl p b).struck p x))))) ∧
  (∀ (s : State) (p : PrinterId),
     let c := s.ctl p
     (c.outstanding ≠ none ∨ c.waiting = [] → s.opEnded p = s) ∧
     (c.outstanding = none →
       (∀ rest op purpose, c.waiting = .op op purpose :: rest → s.opEnded p = s.putCtl p { c with
         waiting := rest
         outstanding := some ⟨op, purpose, decide (op = .enquire ∧ (c.state = .absent ∨ c.linkLost = true ∨ c.resetWait = true))⟩
         sending := some op.frame }) ∧
       (c.waiting = [.loopStart] → s.opEnded p = (s.putCtl p { c with waiting := [] }).startPass p) ∧
       (c.waiting = [.loadStep] → s.opEnded p = (s.putCtl p { c with waiting := [] }).loadStep p)) ∧
     (s.phase = .running ∨ s.phase = .starting 7 → c.linkLost = false → c.state.busy = true → ∀ x : Sensors, Sensors.worsens x c.sensors = false →
       let sent (op : Operation) (purpose : Purpose) : State := (s.putCtl p { c with
         waiting := [], head := .lifted, missed := 0, sensors := some x, state := .engaging, idleLift := false
         outstanding := some ⟨op, purpose, false⟩, sending := some op.frame }).afterEvent
       (c.waiting = [.loopStart] → ∀ g, s.inProgress p = some g → g.job.abortMark = false →
         ∀ slot k, s.loadedPack p = some (slot, k) → k.state = .loaded → ∀ purpose once,
         (c.outstanding = some ⟨.lift, purpose, once⟩ → exec (.liftAnswer p (.ok x)) s = .next (sent .engage .loop)) ∧
         (c.outstanding = some ⟨.enquire, purpose, once⟩ → c.faultOpen = false → c.head = .lifted →
           exec (.enquireAnswer p (.ok x)) s = .next (sent .engage .loop)) ∧
         (c.outstanding = some ⟨.enquire, purpose, once⟩ → c.faultOpen = false → c.head = .engaged → c.position = .none →
           exec (.enquireAnswer p (.ok x)) s = .next (s.putCtl p { c with
             waiting := [], missed := 0, sensors := some x, state := .feeding, idleLift := false, usedAdvances := 0
             formKind := .newForm, outstanding := some ⟨.advance, .loop, false⟩
             sending := some (Operation.frame .advance) }).afterEvent)) ∧
       (c.waiting = [.loadStep] → ∀ g, c.load = some g → g.takenIn = .idle → ∀ purpose once,
         (c.outstanding = some ⟨.lift, purpose, once⟩ → exec (.liftAnswer p (.ok x)) s = .next (sent .engage .load)) ∧
         (c.outstanding = some ⟨.enquire, purpose, once⟩ → c.faultOpen = false → c.head = .lifted →
           exec (.enquireAnswer p (.ok x)) s = .next (sent .engage .load)))))

/-- An OK answer to READ STRIP of the coupon loop: the expected serial is VERIFIED and its first line sent, or a marked
job ends; no form is NO FORMS; a bad read is repeated twice, then the form is UNREADABLE or, a head form, passed, its
position left UNKNOWN (log entry 31); a strange prefix, a gap, a used form and a disordered serial are as the rows say,
with their records, holds, suspensions and ends, a third failure by a gap ending the job before its entry opens (log
entry 13). A sensor newly bad is judged after the row (log entry 10), so that a marked job ends behind the fault that
suspends it (log entry 37). A suspension makes the job SUSPENDED and clears the form-in-hand mark; a hold makes the
printer HELD and enters its cause; at a boundary a third failure, else a set mark, ends the job. A printer that enters a
state raises PRINTER CHANGE on a move between service groups, sets its held flag in HELD, starts the idle-lift timer on
becoming IDLE with the head ENGAGED, and outside IDLE stops it and withdraws an idle LIFT not yet sent. (R70, R93, R95,
R100, R106, R112, R113, R114, R115, R120, R126, R185) -/
def Obligations.FormStripIsJudged : Prop :=
  (∀ (s : State) (p : PrinterId), s.phase = .running ∨ s.phase = .starting 7 →
     ∀ once, (s.ctl p).outstanding = some ⟨.readStrip, .loop, once⟩ → (s.ctl p).waiting = [] → (s.ctl p).linkLost = false →
     (s.ctl p).state.busy = true →
     ∀ g, s.inProgress p = some g → ∀ slot k, s.loadedPack p = some (slot, k) → ∀ x : Sensors,
     let b : Controller := { s.ctl p with outstanding := none, missed := 0 }
     let c : Controller := { b with sensors := some x }
     let sent (op : Operation) (purpose : Purpose) (st : PrinterState) (d : Controller) : State :=
       s.putCtl p { d with
         state := st, idleLift := false, outstanding := some ⟨op, purpose, false⟩, sending := some op.frame }
     let l1 := (s.kind g.job.kind).letter1
     let l2 := (s.kind g.job.kind).letter2
     let spent (d : Controller) : State := ((s.putCtl p d).failForm p slot k.cursor 1 .unreadable).endAtBoundary p
     let strange (d : Controller) (kind : FaultKind) (strip : StripRead) : State :=
       (((s.putCtl p { d with position := .unknown }).suspend p).hold p kind (some strip)).endAtBoundary p
     let gap (d : Controller) (strip : StripRead) : State :=
       let u := (s.putCtl p d).failForm p slot k.cursor (strip.serial - k.cursor) .skipped
       let u := u.putCtl p { u.ctl p with position := .verified }
       let u := if 3 ≤ g.job.failures + 1 then u.endJob p .failures else u.suspend p
       (u.hold p .stockGap (some strip)).endAtBoundary p
     let isUsed (serial : Nat) : Bool :=
       decide (b.formKind = .headForm ∧ k.first ≤ serial ∧ serial < k.cursor ∧ b.usedAdvances < 2)
     let isGap (serial : Nat) : Bool := decide (k.cursor < serial ∧ serial ≤ k.cursor + 8 ∧ serial < k.first + k.count)
     (Sensors.worsens x b.sensors = false →
       (∀ a b serial, exec (.readStripAnswer p (.strip false a b serial x)) s = .next (
         if c.badReads < 2 then
           (s.putCtl p { c with
             badReads := c.badReads + 1, outstanding := some ⟨.readStrip, .loop, false⟩
             sending := some (Operation.frame .readStrip) }).afterEvent
         else match c.formKind with
           | .headForm => (sent .advance .loop .feeding { c with formKind := .newForm }).afterEvent
           | .newForm =>
             (((((spent c).setPrinterState p .ejecting).sendOp p .eject .waste).opEnded p).afterEvent))) ∧
       exec (.readStripAnswer p (.noForm x)) s = .next ((s.putCtl p c).physicalFault p .noForms).afterEvent ∧
       (∀ a b serial, a ≠ l1 ∨ b ≠ l2 → exec (.readStripAnswer p (.strip true a b serial x)) s =
         .next (strange c .wrongStock ⟨k.cursor, a, b, serial⟩).afterEvent) ∧
       (exec (.readStripAnswer p (.strip true l1 l2 k.cursor x)) s = .next (
         let u := s.putCtl p { c with position := .verified }
         if g.job.abortMark then ((u.endJob p .aborted).setPrinterState p .idle).afterEvent
         else (s.printBegun p g k.cursor { c with position := .verified }).afterEvent)) ∧
       ∀ serial, serial ≠ k.cursor →
         exec (.readStripAnswer p (.strip true l1 l2 serial x)) s = .next (
           if isUsed serial then
             (sent .advance .loop .feeding { c with formKind := .headForm, usedAdvances := c.usedAdvances + 1 }).afterEvent
           else if isGap serial then (gap c ⟨k.cursor, l1, l2, serial⟩).afterEvent
           else (strange c .stockDisorder ⟨k.cursor, l1, l2, serial⟩).afterEvent)) ∧
     (Sensors.worsens x b.sensors = true →
       (∀ a d serial, exec (.readStripAnswer p (.strip false a d serial x)) s = .next ((
         if b.badReads < 2 then s.putCtl p { b with badReads := b.badReads + 1 }
         else match b.formKind with
           | .headForm => s.putCtl p b
           | .newForm => spent b).struck p x).afterEvent) ∧
       exec (.readStripAnswer p (.noForm x)) s = .next (((s.putCtl p b).physicalFault p .noForms).struck p x).afterEvent ∧
       (∀ a d serial, a ≠ l1 ∨ d ≠ l2 → exec (.readStripAnswer p (.strip true a d serial x)) s =
         .next ((strange b .wrongStock ⟨k.cursor, a, d, serial⟩).struck p x).afterEvent) ∧
       exec (.readStripAnswer p (.strip true l1 l2 k.cursor x)) s =
         .next ((s.putCtl p { b with position := .verified }).struck p x).afterEvent ∧
       ∀ serial, serial ≠ k.cursor →
         exec (.readStripAnswer p (.strip true l1 l2 serial x)) s = .next ((
           if isUsed serial then s.putCtl p { b with usedAdvances := b.usedAdvances + 1 }
           else if isGap serial then gap b ⟨k.cursor, l1, l2, serial⟩
           else strange b .stockDisorder ⟨k.cursor, l1, l2, serial⟩).struck p x).afterEvent)) ∧
  (∀ (s : State) (p : PrinterId),
     let c := s.ctl p
     let group (st : PrinterState) : Nat := match st with
       | .absent => 1
       | .fault => 2
       | .held => 3
       | .offline => 4
       | _ => 0
     (∀ st : PrinterState,
       let u := s.putCtl p { c with
         state := st
         held := c.held || decide (st = .held)
         idleLift := decide (st = .idle) && (if c.state = .idle then c.idleLift else decide (c.head = .engaged))
         waiting := if st = .idle then c.waiting else c.waiting.filter fun w => match w with
           | .op _ .idleLift => false
           | _ => true }
       s.setPrinterState p st = if group st = group c.state then u else u.raise .printerChange (.printer p)) ∧
     (∀ kind strip, s.hold p kind strip = (s.setPrinterState p .held).enterFault p kind strip) ∧
     (s.inProgress p = none → s.endAtBoundary p = s) ∧
     ∀ g, s.inProgress p = some g →
       s.suspend p = s.putProgress p (some ⟨{ g.job with state := .suspended }, false⟩) ∧
       s.endAtBoundary p =
         if 3 ≤ g.job.failures then s.endJob p .failures else if g.job.abortMark then s.endJob p .aborted else s)

/-- An OK answer to READ STRIP of a load: the pack's prefix and cursor verify it, the pack is LOADED, the form VERIFIED,
a NO PACK hold ended, the reply OK and LOAD DONE raised; a strange strip, a third bad read and no form end the load
MISMATCH with their detail, and the printer returns to the state the load was taken in. A sensor newly bad is judged
after that (log entry 10). A load sends ENGAGE to a LIFTED head, else READ STRIP, a printer taken from IDLE showing
ENGAGING or READING; an ENGAGED head on an OFFLINE printer is lifted at once or behind the operation outstanding; the
end of the deferred request queues its reply. That an idle line sends the reply before a notice raised in the same event
is the model's choice (log entry 36). (R8, R9, R10, R104, R106, R127, R145, R182, R203) -/
def Obligations.LoadStripIsJudged : Prop :=
  (∀ (s : State) (p : PrinterId), s.phase = .running ∨ s.phase = .starting 7 →
     ∀ once, (s.ctl p).outstanding = some ⟨.readStrip, .load, once⟩ → (s.ctl p).waiting = [] → (s.ctl p).linkLost = false →
     (s.ctl p).state ≠ .absent →
     ∀ g, (s.ctl p).load = some g → g.takenIn ∈ [.idle, .held, .offline] → ∀ k, s.pack g.slot = some k → ∀ x : Sensors,
     let b : Controller := { s.ctl p with outstanding := none, missed := 0 }
     let c : Controller := { b with sensors := some x }
     let deferred := (s.line officeLine).deferred
     let l1 := (s.kind k.kind).letter1
     let l2 := (s.kind k.kind).letter2
     let replied (u : State) (status : Status) (fields : List Byte) : State :=
       if deferred = some (.loadPack p) then
         u.putLine officeLine { u.line officeLine with
           deferred := none
           replies := (u.line officeLine).replies ++ [⟨replyBody 0x32 status fields, none⟩] }
       else u.endDeferred status fields
     let back (u : State) : State :=
       match g.takenIn with
       | .idle => u.setPrinterState p .idle
       | .offline => u.liftOffline p
       | _ => u
     let again (d : Controller) : State := s.putCtl p { d with load := some { g with badReads := g.badReads + 1 } }
     let mismatched (d : Controller) (detail : Byte) (a b : Byte) (serial : Nat) : State :=
       replied (back (s.putCtl p { d with load := none })) .mismatch ([detail, a, b] ++ be 3 serial)
     let verified (d : Controller) : State :=
       let u := (s.putPack g.slot (some { k with state := .loaded, location := some p })).putLoaded p (some g.slot)
       let heldForIt := (s.openEntry p).any (·.kind == .noPack)
       let u := u.putCtl p { d with load := none, position := .verified, held := d.held && !heldForIt }
       let u := if heldForIt && !d.faultOpen then u.clearEntry p else u
       let u := if g.takenIn = .offline then u.liftOffline p else u.setPrinterState p .idle
       (replied u .ok (byteOf (g.slot.val + 1) :: be 3 k.cursor)).raise .loadDone .nothing
     (Sensors.worsens x b.sensors = false →
       (∀ a d serial, exec (.readStripAnswer p (.strip false a d serial x)) s = .next (
         if g.badReads < 2 then (((again c).loadStep p).opEnded p).afterEvent
         else (mismatched c 1 0x2D 0x2D 0xFFFFFF).afterEvent)) ∧
       exec (.readStripAnswer p (.noForm x)) s = .next (mismatched c 2 0x2D 0x2D 0xFFFFFF).afterEvent ∧
       (∀ a d serial, a ≠ l1 ∨ d ≠ l2 ∨ serial ≠ k.cursor →
         exec (.readStripAnswer p (.strip true a d serial x)) s = .next (mismatched c 0 a d serial).afterEvent) ∧
       exec (.readStripAnswer p (.strip true l1 l2 k.cursor x)) s = .next (verified c).afterEvent) ∧
     (Sensors.worsens x b.sensors = true →
       (∀ a d serial, exec (.readStripAnswer p (.strip false a d serial x)) s = .next (
         (if g.badReads < 2 then again b else mismatched b 1 0x2D 0x2D 0xFFFFFF).struck p x).afterEvent) ∧
       exec (.readStripAnswer p (.noForm x)) s = .next ((mismatched b 2 0x2D 0x2D 0xFFFFFF).struck p x).afterEvent ∧
       (∀ a d serial, a ≠ l1 ∨ d ≠ l2 ∨ serial ≠ k.cursor →
         exec (.readStripAnswer p (.strip true a d serial x)) s = .next ((mismatched b 0 a d serial).struck p x).afterEvent) ∧
       exec (.readStripAnswer p (.strip true l1 l2 k.cursor x)) s = .next ((verified b).struck p x).afterEvent)) ∧
  (∀ (s : State) (p : PrinterId),
     let c := s.ctl p
     (∀ g, c.load = some g → c.outstanding = none → c.waiting = [] →
       (g.takenIn = .idle → c.state ∈ [.idle, .engaging, .feeding, .reading, .printing, .ejecting]) →
       let op : Operation := if c.head = .lifted then .engage else .readStrip
       let d := { c with outstanding := some ⟨op, .load, false⟩, sending := some op.frame }
       s.loadStep p = s.putCtl p (if g.takenIn = .idle then
         { d with state := if c.head = .lifted then .engaging else .reading, idleLift := false } else d)) ∧
     (c.head = .lifted → s.liftOffline p = s) ∧
     (c.head = .engaged → s.liftOffline p = if c.outstanding = none ∧ c.waiting = [] then
         s.putCtl p { c with outstanding := some ⟨.lift, .offlineLift, false⟩, sending := some (Operation.frame .lift) }
       else s.putCtl p { c with waiting := c.waiting ++ [.op .lift .offlineLift] }) ∧
     ∀ status fields, s.endDeferred status fields = match (s.line officeLine).deferred with
       | none => s
       | some d => s.putLine officeLine { s.line officeLine with
           deferred := none
           replies := (s.line officeLine).replies ++ [⟨replyBody d.code status fields, none⟩] })

/-- An OK answer to EJECT completes a good coupon: the cursor moves past the serial, with SPENT and STOCK LOW, the
coupon joins the job, the issued counter rises, the mark is cleared and the position NONE; the next pass begins, or with
the last coupon the issue settles and the printer is IDLE. A waste form is gone, and the next pass begins or the printer
is IDLE. A sensor newly bad is judged after that, and no pass begins (log entry 10), so that a marked job ends behind
the fault that suspends it (log entry 37). A pass: a set abort mark ends the job ABORTED and the printer is IDLE;
without a LOADED pack the job is SUSPENDED and the printer HELD for NO PACK; a LIFTED head is engaged; else a form is
positioned, the used-form advances 0: NONE sends ADVANCE, UNKNOWN reads the form at the head, VERIFIED sets the
form-in-hand mark, expands the body and sends its first line without a read, or ends a marked job. (R11, R12, R13, R52,
R92, R94, R100, R106, R111, R112, R113, R117) -/
def Obligations.EjectEndsCoupon : Prop :=
  (∀ (s : State) (p : PrinterId), s.phase = .running ∨ s.phase = .starting 7 →
     ∀ purpose once, (s.ctl p).outstanding = some ⟨.eject, purpose, once⟩ → (s.ctl p).waiting = [] → (s.ctl p).linkLost = false →
     (s.ctl p).state.busy = true → ∀ x : Sensors,
     let b : Controller := { s.ctl p with outstanding := none, missed := 0, position := .none }
     let c : Controller := { b with sensors := some x }
     let wasted (d : Controller) : State :=
       if s.inProgress p = none then (s.putCtl p d).setPrinterState p .idle else s.putCtl p d
     (purpose = .waste →
       (Sensors.worsens x b.sensors = false → exec (.ejectAnswer p (.ok x)) s = .next (
         if s.inProgress p = none then (wasted c).afterEvent else (((wasted c).startPass p).opEnded p).afterEvent)) ∧
       (Sensors.worsens x b.sensors = true → exec (.ejectAnswer p (.ok x)) s = .next ((wasted b).struck p x).afterEvent)) ∧
     ∀ g, s.inProgress p = some g → ∀ slot k, s.loadedPack p = some (slot, k) → purpose = .loop →
       let good (d : Controller) : State :=
         let j : Job := { g.job with printed := g.job.printed ++ [⟨slot, k.cursor⟩] }
         let n := j.session
         let moved := k.pastOne (s.kind k.kind).threshold
         let u : State := s.putPack slot (some moved)
         let u := match k.location with
           | some q => if moved.lowFlag = true ∧ k.lowFlag = false then u.raise .stockLow (.printer q) else u
           | none => u
         let y := s.session n
         let u := u.putSession n { y with
           counters := y.counters.set j.kind { y.counters[j.kind] with issued := min (y.counters[j.kind].issued + 1) 9999999 } }
         (u.putProgress p (some ⟨j, false⟩)).putCtl p { d with expansion := [], linesSent := 0 }
       let more := decide (g.job.printed.length + 1 < g.job.requested)
       let ended (u : State) : State := (u.settleJob p).setPrinterState p .idle
       (Sensors.worsens x b.sensors = false → exec (.ejectAnswer p (.ok x)) s = .next (
         if more then (((good c).startPass p).opEnded p).afterEvent else (ended (good c)).afterEvent)) ∧
       (Sensors.worsens x b.sensors = true → exec (.ejectAnswer p (.ok x)) s = .next (
         (if more then good b else ended (good b)).struck p x).afterEvent)) ∧
  (∀ (s : State) (p : PrinterId) (g : Progress), s.inProgress p = some g →
     let c := s.ctl p
     let sent (op : Operation) (st : PrinterState) (d : Controller) : State :=
       s.putCtl p { d with state := st, idleLift := false, outstanding := some ⟨op, .loop, false⟩, sending := some op.frame }
     let inService : Bool := decide (c.state ∈ [.idle, .engaging, .feeding, .reading, .printing, .ejecting])
     (g.job.abortMark = true → s.startPass p = (s.endJob p .aborted).setPrinterState p .idle) ∧
     (g.job.abortMark = false →
       ((s.loadedPack p).all (fun x => x.2.state != .loaded) = true → s.startPass p =
         ((s.putProgress p (some ⟨{ g.job with state := .suspended }, false⟩)).setPrinterState p .held).enterFault p
           .noPack none) ∧
       ∀ slot k, s.loadedPack p = some (slot, k) → k.state = .loaded →
         (c.head = .engaged → s.startPass p = s.positionForm p) ∧
         (c.head = .lifted → c.outstanding = none → c.waiting = [] → inService → s.startPass p = sent .engage .engaging c)) ∧
     (c.outstanding = none → c.waiting = [] → inService →
       let d := { c with usedAdvances := 0 }
       (c.position = .none → s.positionForm p = sent .advance .feeding { d with formKind := .newForm }) ∧
       (c.position = .unknown → s.positionForm p = sent .readStrip .reading { d with formKind := .headForm, badReads := 0 }) ∧
       (c.position = .verified → ∀ slot k, s.loadedPack p = some (slot, k) → s.positionForm p =
         if g.job.abortMark then ((s.putCtl p d).endJob p .aborted).setPrinterState p .idle else s.printBegun p g k.cursor d)))

/-- The settle of an issue (R21, R51, R53, R54, R60, R62, R63, R94, R96): the charge moves from pending to settled, the
journal entry is its newest of at most 32, CASH moves the drawer and pulses it; the reservation is released, the outcome
DONE handed to a window line, ISSUE DONE raised. -/
def Obligations.IssueSettles : Prop :=
  ∀ (s : State) (p : PrinterId), s.phase = .running → ∀ g, s.inProgress p = some g →
    let j := g.job
    let n := j.session
    let x := s.session n
    let t := x.tally j.tender
    let settled := { x.setTally j.tender { t with
        pendingTotal := t.pendingTotal - j.total, pendingCount := t.pendingCount - 1
        settledTotal := t.settledTotal + j.total, settledCount := t.settledCount + 1 } with
      journal := (⟨j.issue, j.kind, j.tender, j.total, j.passengers, j.index, j.printed, j.reference,
        ⟨s.clock.now, s.clock.day⟩, false⟩ :: x.journal).take 32 }
    let u := if j.tender = .cash then
        ((s.putSession n { settled with
          estimate := x.estimate + j.total, drawer := drawerStateOf s.till.high s.till.low (x.estimate + j.total) }).drawerNoticed
            n x.drawer).putDrawer n true
      else s.putSession n settled
    let reserved := s.stock.reservation - j.reservation
    let low := decide (256 - (s.stock.exceptions.length + reserved) < 32)
    let u := (u.putProgress p none).putStock { s.stock with reservation := reserved, recordsLow := low }
    let u := if low = true ∧ s.stock.recordsLow = false then u.raise .recordsLow .nothing else u
    let u := if n = officeLine then u else u.putLine n { u.line n with
      outcomes := joinOutcome (s.line n).outcomes ⟨n, j.issue, .done, j.printed, j.substituted, j.truncated⟩ }
    s.settleJob p = u.raise .issueDone (.session n)

/-- Until start-up has set the controllers, an answer or another frame of a printer line changes nothing; from then on,
before the lines open too (R199), this is what a frame received does to a printer that is ABSENT, or has a physical
fault or a link loss open (R105, R106, R124, R125, R130, R137, R140, R142, R144). On an ABSENT printer a set ends ABSENT
in IDLE or in FAULT with each bad sensor's fault, a refusal in FAULT with its kind, and a reset wait ends with the
printer's state; any other frame ends nothing (log entry 12). On another printer the set of a SENSOR CHANGE or of the
answer to ENQUIRE is judged: an all-good one clears the fault, the printer then IDLE, or HELD if its held flag is set,
or OFFLINE as it was. A frame set aside, and an answer to work that was stopped, ends a link loss and is judged so, and
without a link loss changes nothing but, for the latter, the head (log entries 12, 24). A refusal ends a link loss and
its kind arises. After an answer what waits behind its operation is sent, as AnswersCarryWorkOn says. An answer to an
operation that is not outstanding is a frame set aside. That an idle line sends the reply before a notice raised in the
same event is the model's choice (log entry 36). -/
def Obligations.GoodSetClearsFault : Prop :=
  (∀ (s : State) (p : PrinterId) (n : Fin 7), s.phase = .starting n.val →
    (∀ x, exec (.sensorChange p x) s = .next s ∧ exec (.readStripAnswer p (.noForm x)) s = .next s) ∧
    (∀ content, exec (.printerFrameSetAside p content) s = .next s) ∧
    (∀ a : Answer,
      exec (.engageAnswer p a) s = .next s ∧ exec (.liftAnswer p a) s = .next s ∧ exec (.advanceAnswer p a) s = .next s ∧
      exec (.printLineAnswer p a) s = .next s ∧ exec (.ejectAnswer p a) s = .next s ∧
      exec (.enquireAnswer p a) s = .next s) ∧
    (∀ good l1 l2 serial x, exec (.readStripAnswer p (.strip good l1 l2 serial x)) s = .next s) ∧
    ∀ why, exec (.readStripAnswer p (.refused why)) s = .next s) ∧
  ∀ (s : State) (p : PrinterId), s.phase = .running ∨ s.phase = .starting 7 →
    let good : Sensors := ⟨true, true, true⟩
    let c : Controller := { s.ctl p with linkLost := false }
    let answered (d : Controller) : Controller := { d with outstanding := none, missed := 0 }
    let refused (d : Controller) (why : RefusalKind) : State := (s.putCtl p d).physicalFault p (match why with
      | .jam => .jam
      | .noForms => .noForms
      | .coverOpen => .coverOpen
      | .headFault => .headFault)
    let waitEnds (u : State) (st : PrinterState) : State :=
      if (s.ctl p).resetWait then (u.putCtl p { u.ctl p with resetWait := false }).endDeferred .ok [byteOf st.code] else u
    let met (d : Controller) (x : Sensors) : State :=
      if x = good then
        waitEnds ((s.putCtl p { d with
          sensors := some x, state := .idle, idleLift := d.head == .engaged }).raise .printerChange (.printer p)) .idle
      else
        let u := s.putCtl p { d with sensors := some x }
        let u := if x.coverClosed then u else u.physicalFault p .coverOpen
        let u := if x.headGood then u else u.physicalFault p .headFault
        waitEnds (if x.formsPresent then u else u.physicalFault p .noForms) .fault
    let judged (d : Controller) (x : Sensors) : State :=
      let kept := { d with sensors := some x }
      if Sensors.worsens x d.sensors then (s.putCtl p d).struck p x
      else if x = good ∧ d.faultOpen = true then
        let d := { kept with faultOpen := false, linkLost := false }
        let u := if d.held then s.putCtl p d else (s.putCtl p d).clearEntry p
        if d.state = .fault then u.setPrinterState p (if d.held then .held else .idle) else u
      else s.putCtl p kept
    let ended (u : State) : Host.Outcome State Fault Refusal := .next (u.opEnded p).afterEvent
    (c.state = .absent →
      (∀ x,
        exec (.sensorChange p x) s = .next (met c x).afterEvent ∧
        exec (.printerFrameSetAside p (.sensors x)) s = .next (met c x).afterEvent) ∧
      (∀ why, exec (.printerFrameSetAside p (.refusal why)) s = .next (waitEnds (refused c why) .fault).afterEvent) ∧
      exec (.printerFrameSetAside p .other) s = .next (s.putCtl p c).afterEvent ∧
      ∀ purpose once, (s.ctl p).outstanding = some ⟨.enquire, purpose, once⟩ →
        (∀ x, exec (.enquireAnswer p (.ok x)) s = ended (met (answered c) x)) ∧
        ∀ why, exec (.enquireAnswer p (.refused why)) s = ended (waitEnds (refused (answered c) why) .fault)) ∧
    (c.state ≠ .absent →
      (∀ x, exec (.sensorChange p x) s = .next (judged c x).afterEvent) ∧
      ((s.ctl p).linkLost = false → ∀ content, exec (.printerFrameSetAside p content) s = .next s.afterEvent) ∧
      ((s.ctl p).linkLost = true →
        (∀ x, exec (.printerFrameSetAside p (.sensors x)) s = .next (judged c x).afterEvent) ∧
        (∀ why, exec (.printerFrameSetAside p (.refusal why)) s = .next (refused c why).afterEvent) ∧
        exec (.printerFrameSetAside p .other) s = .next (s.putCtl p c).afterEvent) ∧
      ∀ op purpose once, (s.ctl p).outstanding = some ⟨op, purpose, once⟩ →
        (op = .enquire → ∀ x, exec (.enquireAnswer p (.ok x)) s = ended (judged (answered c) x)) ∧
        (∀ why, exec (match op with
          | .engage => .engageAnswer p (.refused why)
          | .lift => .liftAnswer p (.refused why)
          | .advance => .advanceAnswer p (.refused why)
          | .readStrip => .readStripAnswer p (.refused why)
          | .printLine _ => .printLineAnswer p (.refused why)
          | .eject => .ejectAnswer p (.refused why)
          | .enquire => .enquireAnswer p (.refused why)) s = ended (refused (answered c) why)) ∧
        ((s.ctl p).linkLost = true → purpose ≠ .loop → purpose ≠ .waste → purpose ≠ .load → ∀ x,
          let result := ended (judged (answered c) x)
          (op = .engage → exec (.engageAnswer p (.ok x)) s = result) ∧
          (op = .lift → exec (.liftAnswer p (.ok x)) s = ended (judged { answered c with head := .lifted } x)) ∧
          (op = .advance → exec (.advanceAnswer p (.ok x)) s = result) ∧
          (op = .readStrip →
            exec (.readStripAnswer p (.noForm x)) s = result ∧
            ∀ check l1 l2 serial, exec (.readStripAnswer p (.strip check l1 l2 serial x)) s = result) ∧
          (op.code = 0x05 → exec (.printLineAnswer p (.ok x)) s = result) ∧
          (op = .eject → exec (.ejectAnswer p (.ok x)) s = result))) ∧
    let idle (code : Byte) : Bool := (s.ctl p).outstanding.all (fun o => o.op.code != code)
    let carried (a : Answer) : FrameContent := match a with
      | .ok x => .sensors x
      | .refused why => .refusal why
    (∀ a : Answer,
      (idle 0x01 → exec (.engageAnswer p a) s = exec (.printerFrameSetAside p (carried a)) s) ∧
      (idle 0x02 → exec (.liftAnswer p a) s = exec (.printerFrameSetAside p (carried a)) s) ∧
      (idle 0x03 → exec (.advanceAnswer p a) s = exec (.printerFrameSetAside p (carried a)) s) ∧
      (idle 0x05 → exec (.printLineAnswer p a) s = exec (.printerFrameSetAside p (carried a)) s) ∧
      (idle 0x06 → exec (.ejectAnswer p a) s = exec (.printerFrameSetAside p (carried a)) s) ∧
      (idle 0x07 → exec (.enquireAnswer p a) s = exec (.printerFrameSetAside p (carried a)) s)) ∧
    (idle 0x04 →
      (∀ x, exec (.readStripAnswer p (.noForm x)) s = exec (.printerFrameSetAside p (.sensors x)) s) ∧
      (∀ check l1 l2 serial x,
        exec (.readStripAnswer p (.strip check l1 l2 serial x)) s = exec (.printerFrameSetAside p (.sensors x)) s) ∧
      ∀ why, exec (.readStripAnswer p (.refused why)) s = exec (.printerFrameSetAside p (.refusal why)) s)

/-- A physical fault stops a printer's work (R10, R93, R95, R100, R105, R106, R118, R120, R125, R137), as StoppedBy
says, leaves the rest alone, as FaultFrame says, and is entered, noticed, counted and replied, as FaultTold says (R138,
R139, R182, R185; records covered as RecordsStayCovered keeps them): a fault that arises by itself, that of a SENSOR
CHANGE with a sensor newly bad, of a refusal, of LINK LOST at the second miss, and of the set of an OK answer, judged on
what its result leaves (log entry 10). Of several sensors newly bad the first arises first, and an open cover LIFTS the
head. The premise on abort marks is an invariant (PendingStaysRight). -/
def Obligations.FaultStopsWork : Prop :=
  (∀ (s : State) (p : PrinterId) (k : FaultKind),
    s.StoppedBy (s.physicalFault p k) p k ∧ s.FaultFrame (s.physicalFault p k) p ∧
    (s.RecordsKept → s.FaultTold (s.physicalFault p k) p k)) ∧
  ∀ (s : State) (p : PrinterId), s.phase = .running ∨ s.phase = .starting 7 → s.MarksSettled → (s.ctl p).state ≠ .absent →
    let kindOf (x : Sensors) : FaultKind :=
      if x.coverClosed = false ∧ (s.ctl p).sensors.all (·.coverClosed) = true then .coverOpen
      else if x.formsPresent = false ∧ (s.ctl p).sensors.all (·.formsPresent) = true then .noForms
      else .headFault
    (∀ x : Sensors, Sensors.worsens x (s.ctl p).sensors = true →
      ∃ t, exec (.sensorChange p x) s = .next t ∧ (t.ctl p).sensors = some x ∧ s.StoppedBy t p (kindOf x)) ∧
    ∀ op purpose once, (s.ctl p).outstanding = some ⟨op, purpose, once⟩ →
      (∀ why : RefusalKind,
        let k : FaultKind := match why with
          | .jam => .jam
          | .noForms => .noForms
          | .coverOpen => .coverOpen
          | .headFault => .headFault
        ∃ t, exec (match op with
          | .engage => .engageAnswer p (.refused why)
          | .lift => .liftAnswer p (.refused why)
          | .advance => .advanceAnswer p (.refused why)
          | .readStrip => .readStripAnswer p (.refused why)
          | .printLine _ => .printLineAnswer p (.refused why)
          | .eject => .ejectAnswer p (.refused why)
          | .enquire => .enquireAnswer p (.refused why)) s = .next t ∧ s.StoppedBy t p k) ∧
      (once = false → (s.ctl p).missed = 1 → (s.ctl p).resetWait = false →
        ∃ t, exec (.operationDeadline p) s = .next t ∧ s.StoppedBy t p .linkLost) ∧
      ∀ x : Sensors, Sensors.worsens x (s.ctl p).sensors = true → (s.ctl p).waiting = [] → (s.ctl p).linkLost = false →
        let b : Controller := { s.ctl p with outstanding := none, missed := 0 }
        (op = .engage → ∃ t, exec (.engageAnswer p (.ok x)) s = .next t ∧ (t.ctl p).sensors = some x ∧
          (s.putCtl p (if purpose = .loop ∨ purpose = .load then { b with head := .engaged } else b)).StoppedBy t p
            (kindOf x)) ∧
        (op = .lift → ∃ t, exec (.liftAnswer p (.ok x)) s = .next t ∧ (t.ctl p).sensors = some x ∧
          (s.putCtl p { b with head := .lifted }).StoppedBy t p (kindOf x)) ∧
        (op = .advance → ∃ t, exec (.advanceAnswer p (.ok x)) s = .next t ∧ (t.ctl p).sensors = some x ∧
          s.StoppedBy t p (kindOf x)) ∧
        (op.code = 0x05 → ∃ t, exec (.printLineAnswer p (.ok x)) s = .next t ∧ (t.ctl p).sensors = some x ∧
          s.StoppedBy t p (kindOf x)) ∧
        (op = .enquire → ∃ t, exec (.enquireAnswer p (.ok x)) s = .next t ∧ (t.ctl p).sensors = some x ∧
          s.StoppedBy t p (kindOf x)) ∧
        (op = .eject → purpose = .waste → ∃ t, exec (.ejectAnswer p (.ok x)) s = .next t ∧ (t.ctl p).sensors = some x ∧
          (if s.inProgress p = none then (s.putCtl p { b with position := .none }).setPrinterState p .idle
            else s.putCtl p { b with position := .none }).StoppedBy t p (kindOf x))

/-! ## Faults, failed forms, timers and arbiters -/

/-- A fault that arises on a printer (R136, R138, R139, R150): without an OPEN entry a new one joins a log of at most 32
with the next number, the oldest ACKNOWLEDGED or else the oldest CLEARED entry making room; with one it counts a repeat
or takes a later kind, and an entry that it leaves as it is is no update of the retained store (R196, log entry 19).
Clearing the OPEN entry sets its state and its time (R142). -/
def Obligations.FaultIsEntered : Prop :=
  ∀ (s : State) (p : PrinterId) (kind : FaultKind) (strip : Option StripRead), s.log.entries.length ≤ 32 →
    (s.log.entries.all (fun e => !e.isOpenOf p) = true →
      let e : FaultEntry := ⟨s.log.next, some p, kind, 0, 0, .opened, ⟨s.clock.now, s.clock.day⟩, none, strip,
        (s.inProgress p).map (·.job.session)⟩
      let kept := if s.log.entries.length < 32 then s.log.entries
        else match s.log.entries.findIdx? (·.state == .acknowledged) with
          | some i => s.log.entries.eraseIdx i
          | none => match s.log.entries.findIdx? (·.state == .cleared) with
            | some i => s.log.entries.eraseIdx i
            | none => s.log.entries
      let held := (kept ++ [e]).map (·.number)
      let number (i : Nat) := (s.log.next + i) % 65535 + 1
      s.clearEntry p = s ∧
      (s.log.next ≤ 65535 → s.log.entries.length < 32 ∨ s.log.entries.any (·.state != .opened) = true →
        ∃ d : Fin 33, number d ∉ held ∧ (∀ i : Fin 33, i < d → number i ∈ held) ∧
          s.enterFault p kind strip = (s.putLog ⟨kept ++ [e], number d⟩).raise
            (if kind = .noPack then .noPack else .faultOpened) (.printer p))) ∧
    ∀ a e b, s.log.entries = a ++ e :: b → e.source = some p → e.state = .opened →
      (a ++ b).all (fun x => !x.isOpenOf p) = true →
      s.enterFault p kind strip = (
        if kind = e.kind then
          if e.repeats = 255 then s
          else s.putLog { s.log with entries := a ++ { e with repeats := min (e.repeats + 1) 255 } :: b }
        else
          let later := e.laterKinds ||| BitVec.ofNat 16 (2 ^ (kind.code - 1))
          if later = e.laterKinds then s
          else (s.putLog { s.log with entries := a ++ { e with laterKinds := later } :: b }).raise .faultOpened (.printer p)) ∧
      s.clearEntry p =
        (s.putLog { s.log with entries := a ++ { e with state := .cleared, clearedAt := some s.clock.now } :: b }).raise
          .faultCleared (.printer p)

/-- A form of the job in progress fails (R11, R12, R13, R19, R21, R22, R52): one record of the job's reservation,
written last and unread; the cursor behind the record's serials, with SPENT and STOCK LOW; one failure of the job, and
one failed form of its kind in its session. -/
def Obligations.JobFormFails : Prop :=
  ∀ (s : State) (p : PrinterId) (reason : Reason) (span : Nat) (g : Progress), s.inProgress p = some g →
    ∀ slot k, s.loadedPack p = some (slot, k) → k.state = .loaded →
    let n := g.job.session
    let first := k.cursor
    let record : ExceptionRecord :=
      ⟨slot, first, span, reason, some n, (s.session n).clerk, ⟨s.clock.now, s.clock.day⟩, false⟩
    let low := decide (256 - (s.stock.exceptions.length + 1 + (s.stock.reservation - 1)) < 32)
    let threshold := (s.kind k.kind).threshold
    let left := k.first + k.count - (first + span)
    let warns := decide (threshold < k.first + k.count - k.cursor ∧ left ≤ threshold ∧ k.lowFlag = false)
    let moved : Pack := { k with
      cursor := first + span, lowFlag := k.lowFlag || warns
      state := if first + span = k.first + k.count then PackState.spent else PackState.loaded }
    let x := s.session n
    let tally : KindCounters := x.counters[g.job.kind]
    let counted := { x with
      counters := x.counters.set g.job.kind { tally with failed := min (tally.failed + 1) 9999999 } }
    let u := s.putStock { s.stock with
      exceptions := s.stock.exceptions ++ [record], reservation := s.stock.reservation - 1, recordsLow := low }
    let u := (u.putPack slot (some moved)).putSession n counted
    let u := u.putProgress p (some { g with
      job := { g.job with reservation := g.job.reservation - 1, failures := g.job.failures + 1 } })
    let u := if low = true ∧ s.stock.recordsLow = false then u.raise .recordsLow .nothing else u
    s.failForm p slot first span reason = match k.location with
      | some q => if warns then u.raise .stockLow (.printer q) else u
      | none => u

/-- The timers of a printer (R104, R105, R112, R122, R123, R130, R178, R204, R205), each operation sent with its frame:
an operation missed once is repeated, that of an aborted load too (log entry 23), missed again it is LINK LOST, one sent
once ends; the settle time positions a form; the idle-lift and enquiry timers send LIFT and ENQUIRE; the wait of PRINTER
RESET enquires again and ends ABSENT; a discarded frame frees the receiver. That a timer which does not run, and a
deadline during the wait of PRINTER RESET, do nothing (log entry 17), and that a frame stands on its line until the next
(log entry 38), are the model's choices. That an idle line sends the reply before a notice raised in the same event is
the model's choice (log entry 36). -/
def Obligations.TimersAndDeadlines : Prop :=
  ∀ (s : State) (p : PrinterId), s.phase = .running ∨ s.phase = .starting 7 →
    let c := s.ctl p
    (c.outstanding = none ∨ c.resetWait = true → exec (.operationDeadline p) s = .next s.afterEvent) ∧
    (∀ op purpose once, c.outstanding = some ⟨op, purpose, once⟩ → c.resetWait = false →
      (once = true → exec (.operationDeadline p) s = .next
        ((s.putCtl p { c with outstanding := none, missed := 0 }).opEnded p).afterEvent) ∧
      (once = false → c.missed = 0 →
        exec (.operationDeadline p) s = .next (s.putCtl p { c with missed := 1, sending := some op.frame }).afterEvent) ∧
      (once = false → c.missed = 1 →
        exec (.operationDeadline p) s = .next
          (((s.putCtl p { c with outstanding := none, missed := 0 }).physicalFault p .linkLost).opEnded p).afterEvent)) ∧
    (c.settling = false → exec (.settleTime p) s = .next s.afterEvent) ∧
    (c.settling = true → c.load = none →
      exec (.settleTime p) s = .next ((s.putCtl p { c with settling := false }).positionForm p).afterEvent) ∧
    (c.settling = true → c.load = none → c.outstanding = none → c.waiting = [] → c.state.busy = true →
      (c.position = .none → exec (.settleTime p) s = .next (s.putCtl p { c with
        settling := false, usedAdvances := 0, formKind := .newForm, state := .feeding, idleLift := false
        outstanding := some ⟨.advance, .loop, false⟩, sending := some (Operation.frame .advance) }).afterEvent) ∧
      (c.position = .unknown → exec (.settleTime p) s = .next (s.putCtl p { c with
        settling := false, usedAdvances := 0, badReads := 0, formKind := .headForm, state := .reading, idleLift := false
        outstanding := some ⟨.readStrip, .loop, false⟩, sending := some (Operation.frame .readStrip) }).afterEvent) ∧
      (c.position = .verified → ∀ g, s.inProgress p = some g → ∀ slot k, s.loadedPack p = some (slot, k) →
        let d := { c with settling := false, usedAdvances := 0 }
        exec (.settleTime p) s = .next (
          if g.job.abortMark then (((s.putCtl p d).endJob p .aborted).setPrinterState p .idle).afterEvent
          else (s.printBegun p g k.cursor d).afterEvent))) ∧
    (c.settling = true → ∀ g, c.load = some g → c.head = .engaged → c.outstanding = none → c.waiting = [] →
      (g.takenIn = .idle → c.state = .idle ∨ c.state.busy = true) → exec (.settleTime p) s = .next (
        let d := { c with
          settling := false, outstanding := some ⟨.readStrip, .load, false⟩, sending := some (Operation.frame .readStrip) }
        s.putCtl p (if g.takenIn = .idle then { d with state := .reading, idleLift := false } else d)).afterEvent) ∧
    (c.idleLift = false → exec (.idleLiftTimer p) s = .next s.afterEvent) ∧
    (c.idleLift = true → exec (.idleLiftTimer p) s = .next (
      if c.outstanding = none ∧ c.waiting = [] then
        (s.putCtl p { c with
          idleLift := false, outstanding := some ⟨.lift, .idleLift, false⟩
          sending := some (Operation.frame .lift) }).afterEvent
      else (s.putCtl p { c with idleLift := false, waiting := c.waiting ++ [.op .lift .idleLift] }).afterEvent)) ∧
    exec (.enquiryTimer p) s = .next (
      if c.state ∈ [.absent, .idle, .fault, .held] ∧ c.resetWait = false ∧ c.outstanding = none ∧ c.waiting = [] then
        (s.putCtl p { c with
          outstanding := some ⟨.enquire, .enquiry, decide (c.state = .absent ∨ c.linkLost = true)⟩
          sending := some (Operation.frame .enquire) }).afterEvent
      else if c.outstanding = none ∧ c.waiting ≠ [] ∧ c.state.enquires = true ∧ c.resetWait = false then
        (s.putCtl p { c with waiting := c.waiting ++ [.op .enquire .enquiry] }).afterEvent
      else s.afterEvent) ∧
    (∀ waitEnds, c.resetWait = false → exec (.printerResetWait p waitEnds) s = .next s.afterEvent) ∧
    (c.resetWait = true →
      exec (.printerResetWait p false) s = .next (s.putCtl p { c with
        outstanding := some ⟨.enquire, .enquiry, true⟩, sending := some (Operation.frame .enquire) }).afterEvent ∧
      ∀ d, (s.line officeLine).deferred = some d → exec (.printerResetWait p true) s = .next (
        let ln := s.line officeLine
        ((s.putCtl p { c with resetWait := false }).putLine officeLine { ln with
          deferred := none
          replies := ln.replies ++ [⟨replyBody d.code .ok [byteOf c.state.code], none⟩] }).afterEvent)) ∧
    exec (.printerFrameDiscarded p) s = .next (s.putCtl p { c with receiver := .waitLead }) ∧
    exec (.printerLineGap p) s = .next (s.putCtl p { c with receiver := .waitLead })

/-- On an IDLE printer an arbiter takes the printer's own SUSPENDED job, else the office lane's head, else the window
lane's, and does not fall through. Without a LOADED pack the printer goes HELD with NO PACK entered and every job as it
was; a lane head is not admitted with fewer than 6 records unreserved; else it leaves its lane, the reservation count
rises by 6, the job's reservation is 6, it is PRINTING and the printer's job in progress, and the records-low condition
follows; a suspended job is PRINTING again. The loop then begins, or waits behind the operation outstanding, the printer
showing the state of the operation it waits to send, ENGAGING behind a LIFT (log entry 35). After an event the four
arbiters act in the order of the printers, or in a free order where several claim records that do not suffice for all
(log entry 4); the lamps show their indications (log entry 25); each idle transmitter takes its oldest reply, else its
waiting notice (log entry 36). A printer then IDLE has no SUSPENDED job, and if its lanes hold a job and none is in
progress its pack is LOADED and fewer than 6 records are unreserved. The premise on abort marks is an invariant
(PendingStaysRight). (R20, R22, R90, R91, R92, R104, R132, R179, R186) -/
def Obligations.NoIdlePrinterWithWork : Prop :=
  (∀ s : State, s.phase = .running → s.MarksSettled → ∀ p,
     let t := s.arbitrateAll
     (t.ctl p).state = .idle →
     (t.inProgress p).all (fun g => g.job.state != .suspended) = true ∧
     (t.inProgress p = none → (t.lane p).office ++ (t.lane p).window ≠ [] →
       t.usable p = true ∧ 256 - (t.stock.exceptions.length + t.stock.reservation) < 6)) ∧
  (∀ (s : State) (p : PrinterId),
     let c := s.ctl p
     let usable := (s.loadedPack p).any (·.2.state == .loaded)
     let free := 256 - (s.stock.exceptions.length + s.stock.reservation)
     let held := (s.setPrinterState p .held).enterFault p .noPack none
     let waiting := c.waiting.filter fun w => match w with
       | .op _ .idleLift => false
       | _ => true
     let behindLift := c.outstanding.any (·.op == .lift) || waiting.any fun w => match w with
       | .op .lift _ => true
       | _ => false
     let begun (u : State) : State :=
       if c.outstanding = none then u.startPass p
       else u.putCtl p { c with
         state := if c.head = .lifted ∨ behindLift = true then .engaging
           else match c.position with
             | .verified => .printing
             | .none => .feeding
             | .unknown => .reading
         idleLift := false
         waiting := waiting ++ [.loopStart] }
     let offered (j : Job) (rest : Lanes) : State :=
       if usable = false then held
       else if free < 6 then s
       else
         let low := decide (free - 6 < 32)
         let u := ((s.putLane p rest).putStock { s.stock with
           reservation := s.stock.reservation + 6, recordsLow := low }).putProgress p
             (some ⟨{ j with state := .printing, reservation := 6 }, false⟩)
         begun (if low = true ∧ s.stock.recordsLow = false then u.raise .recordsLow .nothing else u)
     (c.state ≠ .idle → s.arbiter p = s) ∧
     (c.state = .idle →
       (∀ g, s.inProgress p = some g → s.arbiter p =
         if g.job.state ≠ .suspended then s
         else if usable = false then held
         else begun (s.putProgress p (some { g with job := { g.job with state := .printing } }))) ∧
       (s.inProgress p = none →
         (∀ j rest, (s.lane p).office = j :: rest → s.arbiter p = offered j ⟨rest, (s.lane p).window⟩) ∧
         (∀ j rest, (s.lane p).office = [] → (s.lane p).window = j :: rest → s.arbiter p = offered j ⟨[], rest⟩) ∧
         ((s.lane p).office = [] → (s.lane p).window = [] → s.arbiter p = s)))) ∧
  (∀ s : State,
     let claims (p : PrinterId) : Bool := decide ((s.ctl p).state = .idle ∧ s.inProgress p = none ∧
       (s.loadedPack p).any (·.2.state == .loaded) = true ∧ (s.lane p).office ++ (s.lane p).window ≠ [])
     let claimants := (([0, 1, 2, 3] : List PrinterId).filter claims).length
     let free := 256 - (s.stock.exceptions.length + s.stock.reservation)
     let contended : Bool := decide (1 < claimants ∧ 6 ≤ free ∧ free < 6 * claimants)
     (contended = false → s.arbitrateAll = (((s.arbiter 0).arbiter 1).arbiter 2).arbiter 3) ∧
     (contended = true → ∃ a b c d : PrinterId, [a, b, c, d].Nodup ∧
       s.arbitrateAll = (((((s.putDraws (s.draws + 1)).arbiter a).arbiter b).arbiter c).arbiter d)) ∧
     let taken (u : State) (ln : LineState) : LineState :=
       if ln.sending ≠ none then ln
       else match ln.replies with
         | first :: rest => { ln with
             replies := rest, sending := some ⟨frameOf 0xA5 first.body, first.second.map (frameOf 0xA5)⟩ }
         | [] =>
           if ln.notice = true ∧ ln.pendingSet ≠ 0 then { ln with
             notice := false
             sending := some ⟨frameOf 0xA6 (be 2 ln.pendingSet.toNat ++ [byteOf u.startResult.code]), none⟩ }
           else { ln with notice := false }
     (∀ l, s.pump l = s.putLine l (taken s (s.line l))) ∧
     s.pumpAll = { s with lines := Vector.ofFn fun l => taken s (s.line l) } ∧
     let t := s.arbitrateAll
     let lit (p : PrinterId) : Controller :=
       let lamp : Lamp :=
         if (t.ctl p).state = .held ∨ (t.ctl p).state = .offline then .steady
         else if (t.ctl p).state = .fault then .fastFlash
         else if (t.loadedPack p).any (·.2.lowFlag) then .slowFlash
         else .off
       if (t.ctl p).lamp = lamp then t.ctl p else { t.ctl p with lamp := lamp, lampOn := decide (lamp ≠ .off) }
     s.afterEvent = { t with controllers := Vector.ofFn lit }.pumpAll)

/-! ## What every step keeps -/

/-- If lanes hold at most 2 and 8 jobs, journals 32 entries, outcome lists 8, body buffers 192 bytes, the office line no
outcome, and the replies are bounded, then after every step they are. (R53, R67, R89, R179, R182, R188) -/
def Obligations.QueuesAndRepliesStayBounded : Prop :=
  ∀ s t : State, s.BoundsKept → step s = .next t → t.BoundsKept

/-- If the log holds at most 32 entries with distinct numbers, none of them the next number, and at most one OPEN entry
per printer and none of the part, then so it does after every step. (R136, R143, R150) -/
def Obligations.LogStaysSound : Prop :=
  ∀ s t : State, s.LogKept → step s = .next t → t.LogKept

/-- If every estimate plus cash voided plus lifts equals float plus cash settled, and for each tender what is voided and
what may still be voided was settled, then so it is after every step. (R48, R57, R60) -/
def Obligations.TillStaysRight : Prop :=
  ∀ s t : State, s.TillKept → step s = .next t → t.TillKept

/-- While the part runs, each pending total and count of a session and tender is that of its jobs in lanes and in
progress, office and window lanes hold their own jobs, a session with a job outstanding is OPEN, and no queued or
SUSPENDED job has its abort mark set; on the way through start-up the jobs, the tallies and the lanes are emptied in
their order. Every step keeps this. (R49, R50, R65, R89, R100, R156, R198, R199) -/
def Obligations.PendingStaysRight : Prop :=
  ∀ s t : State, s.PendingKept → step s = .next t → t.PendingKept

/-- If the reservation count is the sum of the jobs' reservations, records and reservations together are at most 256,
every job's reservation covers what it may yet write, and the records-low condition is right, then so it is after every
step. (R18, R20, R21, R22, R80) -/
def Obligations.RecordsStayCovered : Prop :=
  ∀ s t : State, s.RecordsKept → step s = .next t → t.RecordsKept

/-- If each pack's cursor, state and location agree, printers and their loaded packs name each other, packs of a kind
share no serial, and each load in hand is the office line's deferred request for a pack in the office, then so it is
after every step. (R3, R4, R5, R6, R7, R8, R12, R182) -/
def Obligations.PacksStaySound : Prop :=
  ∀ s t : State, s.PacksKept → step s = .next t → t.PacksKept

/-- If each printer's faults, hold, work under way, OPEN entry and deferred request agree with its state, with at most
one step of a loop or load under way and nothing waiting behind it, the operation outstanding with its frame on the
line, then so they do after every step. (R8, R104, R107, R109, R125, R126, R143, R182) -/
def Obligations.PrintersStaySound : Prop :=
  ∀ s t : State, s.PrintersKept → step s = .next t → t.PrintersKept

/-- If the stock kinds, each with the prefix -- or two capital letters and a low-stock threshold of at most 2,000, the
thresholds, the tolerance, the denominations, the discounts with their fixed full fare, the printers' classes, the
window maps and the clock are within their ranges, then so they are after every step. (R1, R2, R28, R29, R61, R82, R107,
R159, R160, R191, R192) -/
def Obligations.SettingsStayInRange : Prop :=
  ∀ s t : State, s.SettingsKept → step s = .next t → t.SettingsKept

/-- If the store holds at most 24 records with distinct numbers, none the next, each review state agreeing with its
outcome, then so it does after every step; and a step of a running part keeps every record that is UNREAD or whose
review is NEEDED, but for its read and review states. (R166, R167, R168, R172) -/
def Obligations.CashupsAreKept : Prop :=
  ∀ s t : State, s.CashupsKept → step s = .next t → t.CashupsKept ∧
    (s.phase = .running → ∀ r ∈ s.till.cashups, r.isRead = false ∨ r.review = .needed →
      ∃ x ∈ t.till.cashups, { x with isRead := r.isRead, review := r.review } = r)

/-- Whatever request a window line sends, the settings, the packs and the clock stay as they are, and for every other
session its till record and drawer output, and its line's mask, body buffer, outcomes and deferred request. The premises
on abort marks and deferred requests are invariants (PendingStaysRight, QueuesAndRepliesStayBounded). (R44, R155, R181)
-/
def Obligations.WindowReachesOwnSession : Prop :=
  ∀ (c : Instr) (l : Line) (body : List Byte), requestBody c = some (l, body) → l ≠ officeLine →
    ∀ s t : State, s.MarksSettled → s.BoundsKept → exec c s = .next t →
      (t.till.high = s.till.high ∧ t.till.low = s.till.low ∧ t.till.denominations = s.till.denominations ∧
        t.till.tolerance = s.till.tolerance ∧ t.discounts = s.discounts ∧ t.maps = s.maps ∧ t.configs = s.configs ∧
        t.stock.kinds = s.stock.kinds ∧ t.stock.packs = s.stock.packs ∧ t.stock.loaded = s.stock.loaded ∧
        t.clock = s.clock) ∧
      ∀ n : SessionId, n ≠ l → t.session n = s.session n ∧ t.drawers[n] = s.drawers[n] ∧
        (t.line n).mask = (s.line n).mask ∧ (t.line n).body = (s.line n).body ∧
        (t.line n).outcomes = (s.line n).outcomes ∧ (t.line n).deferred = (s.line n).deferred
end

