-- ==== Sys2Proof/Laws/Clock.lean ====
section
/-! SUPPORT. What a second does to the clock and to the part, said once (R191, R192). -/

namespace Sys2Proof.Machine

@[simp] theorem Clock.tick_now (c : Clock) : c.tick.now = c.now.next := rfl
@[simp] theorem Clock.tick_rollHour (c : Clock) : c.tick.rollHour = c.rollHour := rfl
@[simp] theorem Clock.tick_isSet (c : Clock) : c.tick.isSet = c.isSet := rfl

/-- The booking day moves with the second that passes into the roll hour, and with no other (R192). -/
theorem Clock.tick_day (c : Clock) : c.tick.day = if c.passes then dayAfter c.day else c.day := rfl

/-- A booking day in 1-9,999 stays there (R191, R192). -/
theorem dayAfter_range {day : Nat} (h : day ≤ 9999) : 1 ≤ dayAfter day ∧ dayAfter day ≤ 9999 := by
  unfold dayAfter; split <;> omega

variable (s : State)

/-- A second that does not pass into the roll hour changes the clock alone. -/
theorem State.secondPasses_of_not_passes (h : s.clock.passes = false) : s.secondPasses = s.runClock s.clock.tick := by
  simp [State.secondPasses, h]

/-- DAY ROLL is one such second, or nothing. -/
theorem execDayRoll_of_passes (h : s.clock.passes = true) : execDayRoll s = execClockTick s := by
  simp [execDayRoll, execClockTick, h]

end Sys2Proof.Machine
end

