-- ==== Sys2Proof/Laws/State.lean ====
section
/-! SUPPORT. One lemma per field per update of the state, and what each accessor reads after each update. -/

namespace Sys2Proof.Machine

variable (s : State)

/-! ### putStock -/

@[simp] theorem State.putStock_pending (x : Stock) : (s.putStock x).pending = s.pending := rfl
@[simp] theorem State.putStock_draws (x : Stock) : (s.putStock x).draws = s.draws := rfl
@[simp] theorem State.putStock_phase (x : Stock) : (s.putStock x).phase = s.phase := rfl
@[simp] theorem State.putStock_pfail (x : Stock) : (s.putStock x).pfail = s.pfail := rfl
@[simp] theorem State.putStock_rst (x : Stock) : (s.putStock x).rst = s.rst := rfl
@[simp] theorem State.putStock_signature (x : Stock) : (s.putStock x).signature = .valid := rfl
@[simp] theorem State.putStock_startResult (x : Stock) : (s.putStock x).startResult = s.startResult := rfl
@[simp] theorem State.putStock_straps (x : Stock) : (s.putStock x).straps = s.straps := rfl
@[simp] theorem State.putStock_setAside (x : Stock) : (s.putStock x).setAside = s.setAside := rfl
@[simp] theorem State.putStock_clock (x : Stock) : (s.putStock x).clock = s.clock := rfl
@[simp] theorem State.putStock_stock (x : Stock) : (s.putStock x).stock = x := rfl
@[simp] theorem State.putStock_audit (x : Stock) : (s.putStock x).audit = s.audit := rfl
@[simp] theorem State.putStock_discounts (x : Stock) : (s.putStock x).discounts = s.discounts := rfl
@[simp] theorem State.putStock_till (x : Stock) : (s.putStock x).till = s.till := rfl
@[simp] theorem State.putStock_drawers (x : Stock) : (s.putStock x).drawers = s.drawers := rfl
@[simp] theorem State.putStock_maps (x : Stock) : (s.putStock x).maps = s.maps := rfl
@[simp] theorem State.putStock_lanes (x : Stock) : (s.putStock x).lanes = s.lanes := rfl
@[simp] theorem State.putStock_configs (x : Stock) : (s.putStock x).configs = s.configs := rfl
@[simp] theorem State.putStock_progress (x : Stock) : (s.putStock x).progress = s.progress := rfl
@[simp] theorem State.putStock_controllers (x : Stock) : (s.putStock x).controllers = s.controllers := rfl
@[simp] theorem State.putStock_log (x : Stock) : (s.putStock x).log = s.log := rfl
@[simp] theorem State.putStock_lines (x : Stock) : (s.putStock x).lines = s.lines := rfl

/-! ### putTill -/

@[simp] theorem State.putTill_pending (x : Till) : (s.putTill x).pending = s.pending := rfl
@[simp] theorem State.putTill_draws (x : Till) : (s.putTill x).draws = s.draws := rfl
@[simp] theorem State.putTill_phase (x : Till) : (s.putTill x).phase = s.phase := rfl
@[simp] theorem State.putTill_pfail (x : Till) : (s.putTill x).pfail = s.pfail := rfl
@[simp] theorem State.putTill_rst (x : Till) : (s.putTill x).rst = s.rst := rfl
@[simp] theorem State.putTill_signature (x : Till) : (s.putTill x).signature = .valid := rfl
@[simp] theorem State.putTill_startResult (x : Till) : (s.putTill x).startResult = s.startResult := rfl
@[simp] theorem State.putTill_straps (x : Till) : (s.putTill x).straps = s.straps := rfl
@[simp] theorem State.putTill_setAside (x : Till) : (s.putTill x).setAside = s.setAside := rfl
@[simp] theorem State.putTill_clock (x : Till) : (s.putTill x).clock = s.clock := rfl
@[simp] theorem State.putTill_stock (x : Till) : (s.putTill x).stock = s.stock := rfl
@[simp] theorem State.putTill_audit (x : Till) : (s.putTill x).audit = s.audit := rfl
@[simp] theorem State.putTill_discounts (x : Till) : (s.putTill x).discounts = s.discounts := rfl
@[simp] theorem State.putTill_till (x : Till) : (s.putTill x).till = x := rfl
@[simp] theorem State.putTill_drawers (x : Till) : (s.putTill x).drawers = s.drawers := rfl
@[simp] theorem State.putTill_maps (x : Till) : (s.putTill x).maps = s.maps := rfl
@[simp] theorem State.putTill_lanes (x : Till) : (s.putTill x).lanes = s.lanes := rfl
@[simp] theorem State.putTill_configs (x : Till) : (s.putTill x).configs = s.configs := rfl
@[simp] theorem State.putTill_progress (x : Till) : (s.putTill x).progress = s.progress := rfl
@[simp] theorem State.putTill_controllers (x : Till) : (s.putTill x).controllers = s.controllers := rfl
@[simp] theorem State.putTill_log (x : Till) : (s.putTill x).log = s.log := rfl
@[simp] theorem State.putTill_lines (x : Till) : (s.putTill x).lines = s.lines := rfl

/-! ### putLog -/

@[simp] theorem State.putLog_pending (x : FaultLog) : (s.putLog x).pending = s.pending := rfl
@[simp] theorem State.putLog_draws (x : FaultLog) : (s.putLog x).draws = s.draws := rfl
@[simp] theorem State.putLog_phase (x : FaultLog) : (s.putLog x).phase = s.phase := rfl
@[simp] theorem State.putLog_pfail (x : FaultLog) : (s.putLog x).pfail = s.pfail := rfl
@[simp] theorem State.putLog_rst (x : FaultLog) : (s.putLog x).rst = s.rst := rfl
@[simp] theorem State.putLog_signature (x : FaultLog) : (s.putLog x).signature = .valid := rfl
@[simp] theorem State.putLog_startResult (x : FaultLog) : (s.putLog x).startResult = s.startResult := rfl
@[simp] theorem State.putLog_straps (x : FaultLog) : (s.putLog x).straps = s.straps := rfl
@[simp] theorem State.putLog_setAside (x : FaultLog) : (s.putLog x).setAside = s.setAside := rfl
@[simp] theorem State.putLog_clock (x : FaultLog) : (s.putLog x).clock = s.clock := rfl
@[simp] theorem State.putLog_stock (x : FaultLog) : (s.putLog x).stock = s.stock := rfl
@[simp] theorem State.putLog_audit (x : FaultLog) : (s.putLog x).audit = s.audit := rfl
@[simp] theorem State.putLog_discounts (x : FaultLog) : (s.putLog x).discounts = s.discounts := rfl
@[simp] theorem State.putLog_till (x : FaultLog) : (s.putLog x).till = s.till := rfl
@[simp] theorem State.putLog_drawers (x : FaultLog) : (s.putLog x).drawers = s.drawers := rfl
@[simp] theorem State.putLog_maps (x : FaultLog) : (s.putLog x).maps = s.maps := rfl
@[simp] theorem State.putLog_lanes (x : FaultLog) : (s.putLog x).lanes = s.lanes := rfl
@[simp] theorem State.putLog_configs (x : FaultLog) : (s.putLog x).configs = s.configs := rfl
@[simp] theorem State.putLog_progress (x : FaultLog) : (s.putLog x).progress = s.progress := rfl
@[simp] theorem State.putLog_controllers (x : FaultLog) : (s.putLog x).controllers = s.controllers := rfl
@[simp] theorem State.putLog_log (x : FaultLog) : (s.putLog x).log = x := rfl
@[simp] theorem State.putLog_lines (x : FaultLog) : (s.putLog x).lines = s.lines := rfl

/-! ### putDiscount -/

@[simp] theorem State.putDiscount_pending (i : Fin 16) (x : Discount) : (s.putDiscount i x).pending = s.pending := rfl
@[simp] theorem State.putDiscount_draws (i : Fin 16) (x : Discount) : (s.putDiscount i x).draws = s.draws := rfl
@[simp] theorem State.putDiscount_phase (i : Fin 16) (x : Discount) : (s.putDiscount i x).phase = s.phase := rfl
@[simp] theorem State.putDiscount_pfail (i : Fin 16) (x : Discount) : (s.putDiscount i x).pfail = s.pfail := rfl
@[simp] theorem State.putDiscount_rst (i : Fin 16) (x : Discount) : (s.putDiscount i x).rst = s.rst := rfl
@[simp] theorem State.putDiscount_signature (i : Fin 16) (x : Discount) : (s.putDiscount i x).signature = .valid := rfl
@[simp] theorem State.putDiscount_startResult (i : Fin 16) (x : Discount) : (s.putDiscount i x).startResult = s.startResult := rfl
@[simp] theorem State.putDiscount_straps (i : Fin 16) (x : Discount) : (s.putDiscount i x).straps = s.straps := rfl
@[simp] theorem State.putDiscount_setAside (i : Fin 16) (x : Discount) : (s.putDiscount i x).setAside = s.setAside := rfl
@[simp] theorem State.putDiscount_clock (i : Fin 16) (x : Discount) : (s.putDiscount i x).clock = s.clock := rfl
@[simp] theorem State.putDiscount_stock (i : Fin 16) (x : Discount) : (s.putDiscount i x).stock = s.stock := rfl
@[simp] theorem State.putDiscount_audit (i : Fin 16) (x : Discount) : (s.putDiscount i x).audit = s.audit := rfl
@[simp] theorem State.putDiscount_discounts (i : Fin 16) (x : Discount) : (s.putDiscount i x).discounts = s.discounts.set i x := rfl
@[simp] theorem State.putDiscount_till (i : Fin 16) (x : Discount) : (s.putDiscount i x).till = s.till := rfl
@[simp] theorem State.putDiscount_drawers (i : Fin 16) (x : Discount) : (s.putDiscount i x).drawers = s.drawers := rfl
@[simp] theorem State.putDiscount_maps (i : Fin 16) (x : Discount) : (s.putDiscount i x).maps = s.maps := rfl
@[simp] theorem State.putDiscount_lanes (i : Fin 16) (x : Discount) : (s.putDiscount i x).lanes = s.lanes := rfl
@[simp] theorem State.putDiscount_configs (i : Fin 16) (x : Discount) : (s.putDiscount i x).configs = s.configs := rfl
@[simp] theorem State.putDiscount_progress (i : Fin 16) (x : Discount) : (s.putDiscount i x).progress = s.progress := rfl
@[simp] theorem State.putDiscount_controllers (i : Fin 16) (x : Discount) : (s.putDiscount i x).controllers = s.controllers := rfl
@[simp] theorem State.putDiscount_log (i : Fin 16) (x : Discount) : (s.putDiscount i x).log = s.log := rfl
@[simp] theorem State.putDiscount_lines (i : Fin 16) (x : Discount) : (s.putDiscount i x).lines = s.lines := rfl

/-! ### putMap -/

@[simp] theorem State.putMap_pending (n : Fin 6) (x : Vector MapEntry 8) : (s.putMap n x).pending = s.pending := rfl
@[simp] theorem State.putMap_draws (n : Fin 6) (x : Vector MapEntry 8) : (s.putMap n x).draws = s.draws := rfl
@[simp] theorem State.putMap_phase (n : Fin 6) (x : Vector MapEntry 8) : (s.putMap n x).phase = s.phase := rfl
@[simp] theorem State.putMap_pfail (n : Fin 6) (x : Vector MapEntry 8) : (s.putMap n x).pfail = s.pfail := rfl
@[simp] theorem State.putMap_rst (n : Fin 6) (x : Vector MapEntry 8) : (s.putMap n x).rst = s.rst := rfl
@[simp] theorem State.putMap_signature (n : Fin 6) (x : Vector MapEntry 8) : (s.putMap n x).signature = .valid := rfl
@[simp] theorem State.putMap_startResult (n : Fin 6) (x : Vector MapEntry 8) : (s.putMap n x).startResult = s.startResult := rfl
@[simp] theorem State.putMap_straps (n : Fin 6) (x : Vector MapEntry 8) : (s.putMap n x).straps = s.straps := rfl
@[simp] theorem State.putMap_setAside (n : Fin 6) (x : Vector MapEntry 8) : (s.putMap n x).setAside = s.setAside := rfl
@[simp] theorem State.putMap_clock (n : Fin 6) (x : Vector MapEntry 8) : (s.putMap n x).clock = s.clock := rfl
@[simp] theorem State.putMap_stock (n : Fin 6) (x : Vector MapEntry 8) : (s.putMap n x).stock = s.stock := rfl
@[simp] theorem State.putMap_audit (n : Fin 6) (x : Vector MapEntry 8) : (s.putMap n x).audit = s.audit := rfl
@[simp] theorem State.putMap_discounts (n : Fin 6) (x : Vector MapEntry 8) : (s.putMap n x).discounts = s.discounts := rfl
@[simp] theorem State.putMap_till (n : Fin 6) (x : Vector MapEntry 8) : (s.putMap n x).till = s.till := rfl
@[simp] theorem State.putMap_drawers (n : Fin 6) (x : Vector MapEntry 8) : (s.putMap n x).drawers = s.drawers := rfl
@[simp] theorem State.putMap_maps (n : Fin 6) (x : Vector MapEntry 8) : (s.putMap n x).maps = s.maps.set n x := rfl
@[simp] theorem State.putMap_lanes (n : Fin 6) (x : Vector MapEntry 8) : (s.putMap n x).lanes = s.lanes := rfl
@[simp] theorem State.putMap_configs (n : Fin 6) (x : Vector MapEntry 8) : (s.putMap n x).configs = s.configs := rfl
@[simp] theorem State.putMap_progress (n : Fin 6) (x : Vector MapEntry 8) : (s.putMap n x).progress = s.progress := rfl
@[simp] theorem State.putMap_controllers (n : Fin 6) (x : Vector MapEntry 8) : (s.putMap n x).controllers = s.controllers := rfl
@[simp] theorem State.putMap_log (n : Fin 6) (x : Vector MapEntry 8) : (s.putMap n x).log = s.log := rfl
@[simp] theorem State.putMap_lines (n : Fin 6) (x : Vector MapEntry 8) : (s.putMap n x).lines = s.lines := rfl

/-! ### putConfig -/

@[simp] theorem State.putConfig_pending (p : PrinterId) (x : PrinterConfig) : (s.putConfig p x).pending = s.pending := rfl
@[simp] theorem State.putConfig_draws (p : PrinterId) (x : PrinterConfig) : (s.putConfig p x).draws = s.draws := rfl
@[simp] theorem State.putConfig_phase (p : PrinterId) (x : PrinterConfig) : (s.putConfig p x).phase = s.phase := rfl
@[simp] theorem State.putConfig_pfail (p : PrinterId) (x : PrinterConfig) : (s.putConfig p x).pfail = s.pfail := rfl
@[simp] theorem State.putConfig_rst (p : PrinterId) (x : PrinterConfig) : (s.putConfig p x).rst = s.rst := rfl
@[simp] theorem State.putConfig_signature (p : PrinterId) (x : PrinterConfig) : (s.putConfig p x).signature = .valid := rfl
@[simp] theorem State.putConfig_startResult (p : PrinterId) (x : PrinterConfig) : (s.putConfig p x).startResult = s.startResult := rfl
@[simp] theorem State.putConfig_straps (p : PrinterId) (x : PrinterConfig) : (s.putConfig p x).straps = s.straps := rfl
@[simp] theorem State.putConfig_setAside (p : PrinterId) (x : PrinterConfig) : (s.putConfig p x).setAside = s.setAside := rfl
@[simp] theorem State.putConfig_clock (p : PrinterId) (x : PrinterConfig) : (s.putConfig p x).clock = s.clock := rfl
@[simp] theorem State.putConfig_stock (p : PrinterId) (x : PrinterConfig) : (s.putConfig p x).stock = s.stock := rfl
@[simp] theorem State.putConfig_audit (p : PrinterId) (x : PrinterConfig) : (s.putConfig p x).audit = s.audit := rfl
@[simp] theorem State.putConfig_discounts (p : PrinterId) (x : PrinterConfig) : (s.putConfig p x).discounts = s.discounts := rfl
@[simp] theorem State.putConfig_till (p : PrinterId) (x : PrinterConfig) : (s.putConfig p x).till = s.till := rfl
@[simp] theorem State.putConfig_drawers (p : PrinterId) (x : PrinterConfig) : (s.putConfig p x).drawers = s.drawers := rfl
@[simp] theorem State.putConfig_maps (p : PrinterId) (x : PrinterConfig) : (s.putConfig p x).maps = s.maps := rfl
@[simp] theorem State.putConfig_lanes (p : PrinterId) (x : PrinterConfig) : (s.putConfig p x).lanes = s.lanes := rfl
@[simp] theorem State.putConfig_configs (p : PrinterId) (x : PrinterConfig) : (s.putConfig p x).configs = s.configs.set p x := rfl
@[simp] theorem State.putConfig_progress (p : PrinterId) (x : PrinterConfig) : (s.putConfig p x).progress = s.progress := rfl
@[simp] theorem State.putConfig_controllers (p : PrinterId) (x : PrinterConfig) : (s.putConfig p x).controllers = s.controllers := rfl
@[simp] theorem State.putConfig_log (p : PrinterId) (x : PrinterConfig) : (s.putConfig p x).log = s.log := rfl
@[simp] theorem State.putConfig_lines (p : PrinterId) (x : PrinterConfig) : (s.putConfig p x).lines = s.lines := rfl

/-! ### putProgress -/

@[simp] theorem State.putProgress_pending (p : PrinterId) (x : Option Progress) : (s.putProgress p x).pending = s.pending := rfl
@[simp] theorem State.putProgress_draws (p : PrinterId) (x : Option Progress) : (s.putProgress p x).draws = s.draws := rfl
@[simp] theorem State.putProgress_phase (p : PrinterId) (x : Option Progress) : (s.putProgress p x).phase = s.phase := rfl
@[simp] theorem State.putProgress_pfail (p : PrinterId) (x : Option Progress) : (s.putProgress p x).pfail = s.pfail := rfl
@[simp] theorem State.putProgress_rst (p : PrinterId) (x : Option Progress) : (s.putProgress p x).rst = s.rst := rfl
@[simp] theorem State.putProgress_signature (p : PrinterId) (x : Option Progress) : (s.putProgress p x).signature = .valid := rfl
@[simp] theorem State.putProgress_startResult (p : PrinterId) (x : Option Progress) : (s.putProgress p x).startResult = s.startResult := rfl
@[simp] theorem State.putProgress_straps (p : PrinterId) (x : Option Progress) : (s.putProgress p x).straps = s.straps := rfl
@[simp] theorem State.putProgress_setAside (p : PrinterId) (x : Option Progress) : (s.putProgress p x).setAside = s.setAside := rfl
@[simp] theorem State.putProgress_clock (p : PrinterId) (x : Option Progress) : (s.putProgress p x).clock = s.clock := rfl
@[simp] theorem State.putProgress_stock (p : PrinterId) (x : Option Progress) : (s.putProgress p x).stock = s.stock := rfl
@[simp] theorem State.putProgress_audit (p : PrinterId) (x : Option Progress) : (s.putProgress p x).audit = s.audit := rfl
@[simp] theorem State.putProgress_discounts (p : PrinterId) (x : Option Progress) : (s.putProgress p x).discounts = s.discounts := rfl
@[simp] theorem State.putProgress_till (p : PrinterId) (x : Option Progress) : (s.putProgress p x).till = s.till := rfl
@[simp] theorem State.putProgress_drawers (p : PrinterId) (x : Option Progress) : (s.putProgress p x).drawers = s.drawers := rfl
@[simp] theorem State.putProgress_maps (p : PrinterId) (x : Option Progress) : (s.putProgress p x).maps = s.maps := rfl
@[simp] theorem State.putProgress_lanes (p : PrinterId) (x : Option Progress) : (s.putProgress p x).lanes = s.lanes := rfl
@[simp] theorem State.putProgress_configs (p : PrinterId) (x : Option Progress) : (s.putProgress p x).configs = s.configs := rfl
@[simp] theorem State.putProgress_progress (p : PrinterId) (x : Option Progress) : (s.putProgress p x).progress = s.progress.set p x := rfl
@[simp] theorem State.putProgress_controllers (p : PrinterId) (x : Option Progress) : (s.putProgress p x).controllers = s.controllers := rfl
@[simp] theorem State.putProgress_log (p : PrinterId) (x : Option Progress) : (s.putProgress p x).log = s.log := rfl
@[simp] theorem State.putProgress_lines (p : PrinterId) (x : Option Progress) : (s.putProgress p x).lines = s.lines := rfl

/-! ### markProgress -/

@[simp] theorem State.markProgress_pending (p : PrinterId) (x : Option Progress) : (s.markProgress p x).pending = s.pending := rfl
@[simp] theorem State.markProgress_draws (p : PrinterId) (x : Option Progress) : (s.markProgress p x).draws = s.draws := rfl
@[simp] theorem State.markProgress_phase (p : PrinterId) (x : Option Progress) : (s.markProgress p x).phase = s.phase := rfl
@[simp] theorem State.markProgress_pfail (p : PrinterId) (x : Option Progress) : (s.markProgress p x).pfail = s.pfail := rfl
@[simp] theorem State.markProgress_rst (p : PrinterId) (x : Option Progress) : (s.markProgress p x).rst = s.rst := rfl
@[simp] theorem State.markProgress_signature (p : PrinterId) (x : Option Progress) : (s.markProgress p x).signature = s.signature := rfl
@[simp] theorem State.markProgress_startResult (p : PrinterId) (x : Option Progress) : (s.markProgress p x).startResult = s.startResult := rfl
@[simp] theorem State.markProgress_straps (p : PrinterId) (x : Option Progress) : (s.markProgress p x).straps = s.straps := rfl
@[simp] theorem State.markProgress_setAside (p : PrinterId) (x : Option Progress) : (s.markProgress p x).setAside = s.setAside := rfl
@[simp] theorem State.markProgress_clock (p : PrinterId) (x : Option Progress) : (s.markProgress p x).clock = s.clock := rfl
@[simp] theorem State.markProgress_stock (p : PrinterId) (x : Option Progress) : (s.markProgress p x).stock = s.stock := rfl
@[simp] theorem State.markProgress_audit (p : PrinterId) (x : Option Progress) : (s.markProgress p x).audit = s.audit := rfl
@[simp] theorem State.markProgress_discounts (p : PrinterId) (x : Option Progress) : (s.markProgress p x).discounts = s.discounts := rfl
@[simp] theorem State.markProgress_till (p : PrinterId) (x : Option Progress) : (s.markProgress p x).till = s.till := rfl
@[simp] theorem State.markProgress_drawers (p : PrinterId) (x : Option Progress) : (s.markProgress p x).drawers = s.drawers := rfl
@[simp] theorem State.markProgress_maps (p : PrinterId) (x : Option Progress) : (s.markProgress p x).maps = s.maps := rfl
@[simp] theorem State.markProgress_lanes (p : PrinterId) (x : Option Progress) : (s.markProgress p x).lanes = s.lanes := rfl
@[simp] theorem State.markProgress_configs (p : PrinterId) (x : Option Progress) : (s.markProgress p x).configs = s.configs := rfl
@[simp] theorem State.markProgress_progress (p : PrinterId) (x : Option Progress) : (s.markProgress p x).progress = s.progress.set p x := rfl
@[simp] theorem State.markProgress_controllers (p : PrinterId) (x : Option Progress) : (s.markProgress p x).controllers = s.controllers := rfl
@[simp] theorem State.markProgress_log (p : PrinterId) (x : Option Progress) : (s.markProgress p x).log = s.log := rfl
@[simp] theorem State.markProgress_lines (p : PrinterId) (x : Option Progress) : (s.markProgress p x).lines = s.lines := rfl

/-! ### putClock -/

@[simp] theorem State.putClock_pending (x : Clock) : (s.putClock x).pending = s.pending := rfl
@[simp] theorem State.putClock_draws (x : Clock) : (s.putClock x).draws = s.draws := rfl
@[simp] theorem State.putClock_phase (x : Clock) : (s.putClock x).phase = s.phase := rfl
@[simp] theorem State.putClock_pfail (x : Clock) : (s.putClock x).pfail = s.pfail := rfl
@[simp] theorem State.putClock_rst (x : Clock) : (s.putClock x).rst = s.rst := rfl
@[simp] theorem State.putClock_signature (x : Clock) : (s.putClock x).signature = .valid := rfl
@[simp] theorem State.putClock_startResult (x : Clock) : (s.putClock x).startResult = s.startResult := rfl
@[simp] theorem State.putClock_straps (x : Clock) : (s.putClock x).straps = s.straps := rfl
@[simp] theorem State.putClock_setAside (x : Clock) : (s.putClock x).setAside = s.setAside := rfl
@[simp] theorem State.putClock_clock (x : Clock) : (s.putClock x).clock = x := rfl
@[simp] theorem State.putClock_stock (x : Clock) : (s.putClock x).stock = s.stock := rfl
@[simp] theorem State.putClock_audit (x : Clock) : (s.putClock x).audit = s.audit := rfl
@[simp] theorem State.putClock_discounts (x : Clock) : (s.putClock x).discounts = s.discounts := rfl
@[simp] theorem State.putClock_till (x : Clock) : (s.putClock x).till = s.till := rfl
@[simp] theorem State.putClock_drawers (x : Clock) : (s.putClock x).drawers = s.drawers := rfl
@[simp] theorem State.putClock_maps (x : Clock) : (s.putClock x).maps = s.maps := rfl
@[simp] theorem State.putClock_lanes (x : Clock) : (s.putClock x).lanes = s.lanes := rfl
@[simp] theorem State.putClock_configs (x : Clock) : (s.putClock x).configs = s.configs := rfl
@[simp] theorem State.putClock_progress (x : Clock) : (s.putClock x).progress = s.progress := rfl
@[simp] theorem State.putClock_controllers (x : Clock) : (s.putClock x).controllers = s.controllers := rfl
@[simp] theorem State.putClock_log (x : Clock) : (s.putClock x).log = s.log := rfl
@[simp] theorem State.putClock_lines (x : Clock) : (s.putClock x).lines = s.lines := rfl

/-! ### putPack -/

@[simp] theorem State.putPack_pending (k : Slot) (x : Option Pack) : (s.putPack k x).pending = s.pending := rfl
@[simp] theorem State.putPack_draws (k : Slot) (x : Option Pack) : (s.putPack k x).draws = s.draws := rfl
@[simp] theorem State.putPack_phase (k : Slot) (x : Option Pack) : (s.putPack k x).phase = s.phase := rfl
@[simp] theorem State.putPack_pfail (k : Slot) (x : Option Pack) : (s.putPack k x).pfail = s.pfail := rfl
@[simp] theorem State.putPack_rst (k : Slot) (x : Option Pack) : (s.putPack k x).rst = s.rst := rfl
@[simp] theorem State.putPack_signature (k : Slot) (x : Option Pack) : (s.putPack k x).signature = .valid := rfl
@[simp] theorem State.putPack_startResult (k : Slot) (x : Option Pack) : (s.putPack k x).startResult = s.startResult := rfl
@[simp] theorem State.putPack_straps (k : Slot) (x : Option Pack) : (s.putPack k x).straps = s.straps := rfl
@[simp] theorem State.putPack_setAside (k : Slot) (x : Option Pack) : (s.putPack k x).setAside = s.setAside := rfl
@[simp] theorem State.putPack_clock (k : Slot) (x : Option Pack) : (s.putPack k x).clock = s.clock := rfl
@[simp] theorem State.putPack_stock (k : Slot) (x : Option Pack) : (s.putPack k x).stock = { s.stock with packs := s.stock.packs.set k x } := rfl
@[simp] theorem State.putPack_audit (k : Slot) (x : Option Pack) : (s.putPack k x).audit = s.audit := rfl
@[simp] theorem State.putPack_discounts (k : Slot) (x : Option Pack) : (s.putPack k x).discounts = s.discounts := rfl
@[simp] theorem State.putPack_till (k : Slot) (x : Option Pack) : (s.putPack k x).till = s.till := rfl
@[simp] theorem State.putPack_drawers (k : Slot) (x : Option Pack) : (s.putPack k x).drawers = s.drawers := rfl
@[simp] theorem State.putPack_maps (k : Slot) (x : Option Pack) : (s.putPack k x).maps = s.maps := rfl
@[simp] theorem State.putPack_lanes (k : Slot) (x : Option Pack) : (s.putPack k x).lanes = s.lanes := rfl
@[simp] theorem State.putPack_configs (k : Slot) (x : Option Pack) : (s.putPack k x).configs = s.configs := rfl
@[simp] theorem State.putPack_progress (k : Slot) (x : Option Pack) : (s.putPack k x).progress = s.progress := rfl
@[simp] theorem State.putPack_controllers (k : Slot) (x : Option Pack) : (s.putPack k x).controllers = s.controllers := rfl
@[simp] theorem State.putPack_log (k : Slot) (x : Option Pack) : (s.putPack k x).log = s.log := rfl
@[simp] theorem State.putPack_lines (k : Slot) (x : Option Pack) : (s.putPack k x).lines = s.lines := rfl

/-! ### putKind -/

@[simp] theorem State.putKind_pending (k : Kind) (x : StockKind) : (s.putKind k x).pending = s.pending := rfl
@[simp] theorem State.putKind_draws (k : Kind) (x : StockKind) : (s.putKind k x).draws = s.draws := rfl
@[simp] theorem State.putKind_phase (k : Kind) (x : StockKind) : (s.putKind k x).phase = s.phase := rfl
@[simp] theorem State.putKind_pfail (k : Kind) (x : StockKind) : (s.putKind k x).pfail = s.pfail := rfl
@[simp] theorem State.putKind_rst (k : Kind) (x : StockKind) : (s.putKind k x).rst = s.rst := rfl
@[simp] theorem State.putKind_signature (k : Kind) (x : StockKind) : (s.putKind k x).signature = .valid := rfl
@[simp] theorem State.putKind_startResult (k : Kind) (x : StockKind) : (s.putKind k x).startResult = s.startResult := rfl
@[simp] theorem State.putKind_straps (k : Kind) (x : StockKind) : (s.putKind k x).straps = s.straps := rfl
@[simp] theorem State.putKind_setAside (k : Kind) (x : StockKind) : (s.putKind k x).setAside = s.setAside := rfl
@[simp] theorem State.putKind_clock (k : Kind) (x : StockKind) : (s.putKind k x).clock = s.clock := rfl
@[simp] theorem State.putKind_stock (k : Kind) (x : StockKind) : (s.putKind k x).stock = { s.stock with kinds := s.stock.kinds.set k x } := rfl
@[simp] theorem State.putKind_audit (k : Kind) (x : StockKind) : (s.putKind k x).audit = s.audit := rfl
@[simp] theorem State.putKind_discounts (k : Kind) (x : StockKind) : (s.putKind k x).discounts = s.discounts := rfl
@[simp] theorem State.putKind_till (k : Kind) (x : StockKind) : (s.putKind k x).till = s.till := rfl
@[simp] theorem State.putKind_drawers (k : Kind) (x : StockKind) : (s.putKind k x).drawers = s.drawers := rfl
@[simp] theorem State.putKind_maps (k : Kind) (x : StockKind) : (s.putKind k x).maps = s.maps := rfl
@[simp] theorem State.putKind_lanes (k : Kind) (x : StockKind) : (s.putKind k x).lanes = s.lanes := rfl
@[simp] theorem State.putKind_configs (k : Kind) (x : StockKind) : (s.putKind k x).configs = s.configs := rfl
@[simp] theorem State.putKind_progress (k : Kind) (x : StockKind) : (s.putKind k x).progress = s.progress := rfl
@[simp] theorem State.putKind_controllers (k : Kind) (x : StockKind) : (s.putKind k x).controllers = s.controllers := rfl
@[simp] theorem State.putKind_log (k : Kind) (x : StockKind) : (s.putKind k x).log = s.log := rfl
@[simp] theorem State.putKind_lines (k : Kind) (x : StockKind) : (s.putKind k x).lines = s.lines := rfl

/-! ### putLoaded -/

@[simp] theorem State.putLoaded_pending (p : PrinterId) (x : Option Slot) : (s.putLoaded p x).pending = s.pending := rfl
@[simp] theorem State.putLoaded_draws (p : PrinterId) (x : Option Slot) : (s.putLoaded p x).draws = s.draws := rfl
@[simp] theorem State.putLoaded_phase (p : PrinterId) (x : Option Slot) : (s.putLoaded p x).phase = s.phase := rfl
@[simp] theorem State.putLoaded_pfail (p : PrinterId) (x : Option Slot) : (s.putLoaded p x).pfail = s.pfail := rfl
@[simp] theorem State.putLoaded_rst (p : PrinterId) (x : Option Slot) : (s.putLoaded p x).rst = s.rst := rfl
@[simp] theorem State.putLoaded_signature (p : PrinterId) (x : Option Slot) : (s.putLoaded p x).signature = .valid := rfl
@[simp] theorem State.putLoaded_startResult (p : PrinterId) (x : Option Slot) : (s.putLoaded p x).startResult = s.startResult := rfl
@[simp] theorem State.putLoaded_straps (p : PrinterId) (x : Option Slot) : (s.putLoaded p x).straps = s.straps := rfl
@[simp] theorem State.putLoaded_setAside (p : PrinterId) (x : Option Slot) : (s.putLoaded p x).setAside = s.setAside := rfl
@[simp] theorem State.putLoaded_clock (p : PrinterId) (x : Option Slot) : (s.putLoaded p x).clock = s.clock := rfl
@[simp] theorem State.putLoaded_stock (p : PrinterId) (x : Option Slot) : (s.putLoaded p x).stock = { s.stock with loaded := s.stock.loaded.set p x } := rfl
@[simp] theorem State.putLoaded_audit (p : PrinterId) (x : Option Slot) : (s.putLoaded p x).audit = s.audit := rfl
@[simp] theorem State.putLoaded_discounts (p : PrinterId) (x : Option Slot) : (s.putLoaded p x).discounts = s.discounts := rfl
@[simp] theorem State.putLoaded_till (p : PrinterId) (x : Option Slot) : (s.putLoaded p x).till = s.till := rfl
@[simp] theorem State.putLoaded_drawers (p : PrinterId) (x : Option Slot) : (s.putLoaded p x).drawers = s.drawers := rfl
@[simp] theorem State.putLoaded_maps (p : PrinterId) (x : Option Slot) : (s.putLoaded p x).maps = s.maps := rfl
@[simp] theorem State.putLoaded_lanes (p : PrinterId) (x : Option Slot) : (s.putLoaded p x).lanes = s.lanes := rfl
@[simp] theorem State.putLoaded_configs (p : PrinterId) (x : Option Slot) : (s.putLoaded p x).configs = s.configs := rfl
@[simp] theorem State.putLoaded_progress (p : PrinterId) (x : Option Slot) : (s.putLoaded p x).progress = s.progress := rfl
@[simp] theorem State.putLoaded_controllers (p : PrinterId) (x : Option Slot) : (s.putLoaded p x).controllers = s.controllers := rfl
@[simp] theorem State.putLoaded_log (p : PrinterId) (x : Option Slot) : (s.putLoaded p x).log = s.log := rfl
@[simp] theorem State.putLoaded_lines (p : PrinterId) (x : Option Slot) : (s.putLoaded p x).lines = s.lines := rfl

/-! ### putSession -/

@[simp] theorem State.putSession_pending (n : SessionId) (x : Session) : (s.putSession n x).pending = s.pending := rfl
@[simp] theorem State.putSession_draws (n : SessionId) (x : Session) : (s.putSession n x).draws = s.draws := rfl
@[simp] theorem State.putSession_phase (n : SessionId) (x : Session) : (s.putSession n x).phase = s.phase := rfl
@[simp] theorem State.putSession_pfail (n : SessionId) (x : Session) : (s.putSession n x).pfail = s.pfail := rfl
@[simp] theorem State.putSession_rst (n : SessionId) (x : Session) : (s.putSession n x).rst = s.rst := rfl
@[simp] theorem State.putSession_signature (n : SessionId) (x : Session) : (s.putSession n x).signature = .valid := rfl
@[simp] theorem State.putSession_startResult (n : SessionId) (x : Session) : (s.putSession n x).startResult = s.startResult := rfl
@[simp] theorem State.putSession_straps (n : SessionId) (x : Session) : (s.putSession n x).straps = s.straps := rfl
@[simp] theorem State.putSession_setAside (n : SessionId) (x : Session) : (s.putSession n x).setAside = s.setAside := rfl
@[simp] theorem State.putSession_clock (n : SessionId) (x : Session) : (s.putSession n x).clock = s.clock := rfl
@[simp] theorem State.putSession_stock (n : SessionId) (x : Session) : (s.putSession n x).stock = s.stock := rfl
@[simp] theorem State.putSession_audit (n : SessionId) (x : Session) : (s.putSession n x).audit = s.audit := rfl
@[simp] theorem State.putSession_discounts (n : SessionId) (x : Session) : (s.putSession n x).discounts = s.discounts := rfl
@[simp] theorem State.putSession_till (n : SessionId) (x : Session) : (s.putSession n x).till = { s.till with sessions := s.till.sessions.set n x } := rfl
@[simp] theorem State.putSession_drawers (n : SessionId) (x : Session) : (s.putSession n x).drawers = s.drawers := rfl
@[simp] theorem State.putSession_maps (n : SessionId) (x : Session) : (s.putSession n x).maps = s.maps := rfl
@[simp] theorem State.putSession_lanes (n : SessionId) (x : Session) : (s.putSession n x).lanes = s.lanes := rfl
@[simp] theorem State.putSession_configs (n : SessionId) (x : Session) : (s.putSession n x).configs = s.configs := rfl
@[simp] theorem State.putSession_progress (n : SessionId) (x : Session) : (s.putSession n x).progress = s.progress := rfl
@[simp] theorem State.putSession_controllers (n : SessionId) (x : Session) : (s.putSession n x).controllers = s.controllers := rfl
@[simp] theorem State.putSession_log (n : SessionId) (x : Session) : (s.putSession n x).log = s.log := rfl
@[simp] theorem State.putSession_lines (n : SessionId) (x : Session) : (s.putSession n x).lines = s.lines := rfl

/-! ### putAudit -/

@[simp] theorem State.putAudit_pending (x : Option (Slot × Nat)) : (s.putAudit x).pending = s.pending := rfl
@[simp] theorem State.putAudit_draws (x : Option (Slot × Nat)) : (s.putAudit x).draws = s.draws := rfl
@[simp] theorem State.putAudit_phase (x : Option (Slot × Nat)) : (s.putAudit x).phase = s.phase := rfl
@[simp] theorem State.putAudit_pfail (x : Option (Slot × Nat)) : (s.putAudit x).pfail = s.pfail := rfl
@[simp] theorem State.putAudit_rst (x : Option (Slot × Nat)) : (s.putAudit x).rst = s.rst := rfl
@[simp] theorem State.putAudit_signature (x : Option (Slot × Nat)) : (s.putAudit x).signature = s.signature := rfl
@[simp] theorem State.putAudit_startResult (x : Option (Slot × Nat)) : (s.putAudit x).startResult = s.startResult := rfl
@[simp] theorem State.putAudit_straps (x : Option (Slot × Nat)) : (s.putAudit x).straps = s.straps := rfl
@[simp] theorem State.putAudit_setAside (x : Option (Slot × Nat)) : (s.putAudit x).setAside = s.setAside := rfl
@[simp] theorem State.putAudit_clock (x : Option (Slot × Nat)) : (s.putAudit x).clock = s.clock := rfl
@[simp] theorem State.putAudit_stock (x : Option (Slot × Nat)) : (s.putAudit x).stock = s.stock := rfl
@[simp] theorem State.putAudit_audit (x : Option (Slot × Nat)) : (s.putAudit x).audit = x := rfl
@[simp] theorem State.putAudit_discounts (x : Option (Slot × Nat)) : (s.putAudit x).discounts = s.discounts := rfl
@[simp] theorem State.putAudit_till (x : Option (Slot × Nat)) : (s.putAudit x).till = s.till := rfl
@[simp] theorem State.putAudit_drawers (x : Option (Slot × Nat)) : (s.putAudit x).drawers = s.drawers := rfl
@[simp] theorem State.putAudit_maps (x : Option (Slot × Nat)) : (s.putAudit x).maps = s.maps := rfl
@[simp] theorem State.putAudit_lanes (x : Option (Slot × Nat)) : (s.putAudit x).lanes = s.lanes := rfl
@[simp] theorem State.putAudit_configs (x : Option (Slot × Nat)) : (s.putAudit x).configs = s.configs := rfl
@[simp] theorem State.putAudit_progress (x : Option (Slot × Nat)) : (s.putAudit x).progress = s.progress := rfl
@[simp] theorem State.putAudit_controllers (x : Option (Slot × Nat)) : (s.putAudit x).controllers = s.controllers := rfl
@[simp] theorem State.putAudit_log (x : Option (Slot × Nat)) : (s.putAudit x).log = s.log := rfl
@[simp] theorem State.putAudit_lines (x : Option (Slot × Nat)) : (s.putAudit x).lines = s.lines := rfl

/-! ### putDrawer -/

@[simp] theorem State.putDrawer_pending (n : SessionId) (x : Bool) : (s.putDrawer n x).pending = s.pending := rfl
@[simp] theorem State.putDrawer_draws (n : SessionId) (x : Bool) : (s.putDrawer n x).draws = s.draws := rfl
@[simp] theorem State.putDrawer_phase (n : SessionId) (x : Bool) : (s.putDrawer n x).phase = s.phase := rfl
@[simp] theorem State.putDrawer_pfail (n : SessionId) (x : Bool) : (s.putDrawer n x).pfail = s.pfail := rfl
@[simp] theorem State.putDrawer_rst (n : SessionId) (x : Bool) : (s.putDrawer n x).rst = s.rst := rfl
@[simp] theorem State.putDrawer_signature (n : SessionId) (x : Bool) : (s.putDrawer n x).signature = s.signature := rfl
@[simp] theorem State.putDrawer_startResult (n : SessionId) (x : Bool) : (s.putDrawer n x).startResult = s.startResult := rfl
@[simp] theorem State.putDrawer_straps (n : SessionId) (x : Bool) : (s.putDrawer n x).straps = s.straps := rfl
@[simp] theorem State.putDrawer_setAside (n : SessionId) (x : Bool) : (s.putDrawer n x).setAside = s.setAside := rfl
@[simp] theorem State.putDrawer_clock (n : SessionId) (x : Bool) : (s.putDrawer n x).clock = s.clock := rfl
@[simp] theorem State.putDrawer_stock (n : SessionId) (x : Bool) : (s.putDrawer n x).stock = s.stock := rfl
@[simp] theorem State.putDrawer_audit (n : SessionId) (x : Bool) : (s.putDrawer n x).audit = s.audit := rfl
@[simp] theorem State.putDrawer_discounts (n : SessionId) (x : Bool) : (s.putDrawer n x).discounts = s.discounts := rfl
@[simp] theorem State.putDrawer_till (n : SessionId) (x : Bool) : (s.putDrawer n x).till = s.till := rfl
@[simp] theorem State.putDrawer_drawers (n : SessionId) (x : Bool) : (s.putDrawer n x).drawers = s.drawers.set n x := rfl
@[simp] theorem State.putDrawer_maps (n : SessionId) (x : Bool) : (s.putDrawer n x).maps = s.maps := rfl
@[simp] theorem State.putDrawer_lanes (n : SessionId) (x : Bool) : (s.putDrawer n x).lanes = s.lanes := rfl
@[simp] theorem State.putDrawer_configs (n : SessionId) (x : Bool) : (s.putDrawer n x).configs = s.configs := rfl
@[simp] theorem State.putDrawer_progress (n : SessionId) (x : Bool) : (s.putDrawer n x).progress = s.progress := rfl
@[simp] theorem State.putDrawer_controllers (n : SessionId) (x : Bool) : (s.putDrawer n x).controllers = s.controllers := rfl
@[simp] theorem State.putDrawer_log (n : SessionId) (x : Bool) : (s.putDrawer n x).log = s.log := rfl
@[simp] theorem State.putDrawer_lines (n : SessionId) (x : Bool) : (s.putDrawer n x).lines = s.lines := rfl

/-! ### putLane -/

@[simp] theorem State.putLane_pending (p : PrinterId) (x : Lanes) : (s.putLane p x).pending = s.pending := rfl
@[simp] theorem State.putLane_draws (p : PrinterId) (x : Lanes) : (s.putLane p x).draws = s.draws := rfl
@[simp] theorem State.putLane_phase (p : PrinterId) (x : Lanes) : (s.putLane p x).phase = s.phase := rfl
@[simp] theorem State.putLane_pfail (p : PrinterId) (x : Lanes) : (s.putLane p x).pfail = s.pfail := rfl
@[simp] theorem State.putLane_rst (p : PrinterId) (x : Lanes) : (s.putLane p x).rst = s.rst := rfl
@[simp] theorem State.putLane_signature (p : PrinterId) (x : Lanes) : (s.putLane p x).signature = s.signature := rfl
@[simp] theorem State.putLane_startResult (p : PrinterId) (x : Lanes) : (s.putLane p x).startResult = s.startResult := rfl
@[simp] theorem State.putLane_straps (p : PrinterId) (x : Lanes) : (s.putLane p x).straps = s.straps := rfl
@[simp] theorem State.putLane_setAside (p : PrinterId) (x : Lanes) : (s.putLane p x).setAside = s.setAside := rfl
@[simp] theorem State.putLane_clock (p : PrinterId) (x : Lanes) : (s.putLane p x).clock = s.clock := rfl
@[simp] theorem State.putLane_stock (p : PrinterId) (x : Lanes) : (s.putLane p x).stock = s.stock := rfl
@[simp] theorem State.putLane_audit (p : PrinterId) (x : Lanes) : (s.putLane p x).audit = s.audit := rfl
@[simp] theorem State.putLane_discounts (p : PrinterId) (x : Lanes) : (s.putLane p x).discounts = s.discounts := rfl
@[simp] theorem State.putLane_till (p : PrinterId) (x : Lanes) : (s.putLane p x).till = s.till := rfl
@[simp] theorem State.putLane_drawers (p : PrinterId) (x : Lanes) : (s.putLane p x).drawers = s.drawers := rfl
@[simp] theorem State.putLane_maps (p : PrinterId) (x : Lanes) : (s.putLane p x).maps = s.maps := rfl
@[simp] theorem State.putLane_lanes (p : PrinterId) (x : Lanes) : (s.putLane p x).lanes = s.lanes.set p x := rfl
@[simp] theorem State.putLane_configs (p : PrinterId) (x : Lanes) : (s.putLane p x).configs = s.configs := rfl
@[simp] theorem State.putLane_progress (p : PrinterId) (x : Lanes) : (s.putLane p x).progress = s.progress := rfl
@[simp] theorem State.putLane_controllers (p : PrinterId) (x : Lanes) : (s.putLane p x).controllers = s.controllers := rfl
@[simp] theorem State.putLane_log (p : PrinterId) (x : Lanes) : (s.putLane p x).log = s.log := rfl
@[simp] theorem State.putLane_lines (p : PrinterId) (x : Lanes) : (s.putLane p x).lines = s.lines := rfl

/-! ### putCtl -/

@[simp] theorem State.putCtl_pending (p : PrinterId) (x : Controller) : (s.putCtl p x).pending = s.pending := rfl
@[simp] theorem State.putCtl_draws (p : PrinterId) (x : Controller) : (s.putCtl p x).draws = s.draws := rfl
@[simp] theorem State.putCtl_phase (p : PrinterId) (x : Controller) : (s.putCtl p x).phase = s.phase := rfl
@[simp] theorem State.putCtl_pfail (p : PrinterId) (x : Controller) : (s.putCtl p x).pfail = s.pfail := rfl
@[simp] theorem State.putCtl_rst (p : PrinterId) (x : Controller) : (s.putCtl p x).rst = s.rst := rfl
@[simp] theorem State.putCtl_signature (p : PrinterId) (x : Controller) : (s.putCtl p x).signature = s.signature := rfl
@[simp] theorem State.putCtl_startResult (p : PrinterId) (x : Controller) : (s.putCtl p x).startResult = s.startResult := rfl
@[simp] theorem State.putCtl_straps (p : PrinterId) (x : Controller) : (s.putCtl p x).straps = s.straps := rfl
@[simp] theorem State.putCtl_setAside (p : PrinterId) (x : Controller) : (s.putCtl p x).setAside = s.setAside := rfl
@[simp] theorem State.putCtl_clock (p : PrinterId) (x : Controller) : (s.putCtl p x).clock = s.clock := rfl
@[simp] theorem State.putCtl_stock (p : PrinterId) (x : Controller) : (s.putCtl p x).stock = s.stock := rfl
@[simp] theorem State.putCtl_audit (p : PrinterId) (x : Controller) : (s.putCtl p x).audit = s.audit := rfl
@[simp] theorem State.putCtl_discounts (p : PrinterId) (x : Controller) : (s.putCtl p x).discounts = s.discounts := rfl
@[simp] theorem State.putCtl_till (p : PrinterId) (x : Controller) : (s.putCtl p x).till = s.till := rfl
@[simp] theorem State.putCtl_drawers (p : PrinterId) (x : Controller) : (s.putCtl p x).drawers = s.drawers := rfl
@[simp] theorem State.putCtl_maps (p : PrinterId) (x : Controller) : (s.putCtl p x).maps = s.maps := rfl
@[simp] theorem State.putCtl_lanes (p : PrinterId) (x : Controller) : (s.putCtl p x).lanes = s.lanes := rfl
@[simp] theorem State.putCtl_configs (p : PrinterId) (x : Controller) : (s.putCtl p x).configs = s.configs := rfl
@[simp] theorem State.putCtl_progress (p : PrinterId) (x : Controller) : (s.putCtl p x).progress = s.progress := rfl
@[simp] theorem State.putCtl_controllers (p : PrinterId) (x : Controller) : (s.putCtl p x).controllers = s.controllers.set p x := rfl
@[simp] theorem State.putCtl_log (p : PrinterId) (x : Controller) : (s.putCtl p x).log = s.log := rfl
@[simp] theorem State.putCtl_lines (p : PrinterId) (x : Controller) : (s.putCtl p x).lines = s.lines := rfl

/-! ### putLine -/

@[simp] theorem State.putLine_pending (l : Line) (x : LineState) : (s.putLine l x).pending = s.pending := rfl
@[simp] theorem State.putLine_draws (l : Line) (x : LineState) : (s.putLine l x).draws = s.draws := rfl
@[simp] theorem State.putLine_phase (l : Line) (x : LineState) : (s.putLine l x).phase = s.phase := rfl
@[simp] theorem State.putLine_pfail (l : Line) (x : LineState) : (s.putLine l x).pfail = s.pfail := rfl
@[simp] theorem State.putLine_rst (l : Line) (x : LineState) : (s.putLine l x).rst = s.rst := rfl
@[simp] theorem State.putLine_signature (l : Line) (x : LineState) : (s.putLine l x).signature = s.signature := rfl
@[simp] theorem State.putLine_startResult (l : Line) (x : LineState) : (s.putLine l x).startResult = s.startResult := rfl
@[simp] theorem State.putLine_straps (l : Line) (x : LineState) : (s.putLine l x).straps = s.straps := rfl
@[simp] theorem State.putLine_setAside (l : Line) (x : LineState) : (s.putLine l x).setAside = s.setAside := rfl
@[simp] theorem State.putLine_clock (l : Line) (x : LineState) : (s.putLine l x).clock = s.clock := rfl
@[simp] theorem State.putLine_stock (l : Line) (x : LineState) : (s.putLine l x).stock = s.stock := rfl
@[simp] theorem State.putLine_audit (l : Line) (x : LineState) : (s.putLine l x).audit = s.audit := rfl
@[simp] theorem State.putLine_discounts (l : Line) (x : LineState) : (s.putLine l x).discounts = s.discounts := rfl
@[simp] theorem State.putLine_till (l : Line) (x : LineState) : (s.putLine l x).till = s.till := rfl
@[simp] theorem State.putLine_drawers (l : Line) (x : LineState) : (s.putLine l x).drawers = s.drawers := rfl
@[simp] theorem State.putLine_maps (l : Line) (x : LineState) : (s.putLine l x).maps = s.maps := rfl
@[simp] theorem State.putLine_lanes (l : Line) (x : LineState) : (s.putLine l x).lanes = s.lanes := rfl
@[simp] theorem State.putLine_configs (l : Line) (x : LineState) : (s.putLine l x).configs = s.configs := rfl
@[simp] theorem State.putLine_progress (l : Line) (x : LineState) : (s.putLine l x).progress = s.progress := rfl
@[simp] theorem State.putLine_controllers (l : Line) (x : LineState) : (s.putLine l x).controllers = s.controllers := rfl
@[simp] theorem State.putLine_log (l : Line) (x : LineState) : (s.putLine l x).log = s.log := rfl
@[simp] theorem State.putLine_lines (l : Line) (x : LineState) : (s.putLine l x).lines = s.lines.set l x := rfl

/-! ### putPending -/

@[simp] theorem State.putPending_pending (x : List Instr) : (s.putPending x).pending = x := rfl
@[simp] theorem State.putPending_draws (x : List Instr) : (s.putPending x).draws = s.draws := rfl
@[simp] theorem State.putPending_phase (x : List Instr) : (s.putPending x).phase = s.phase := rfl
@[simp] theorem State.putPending_pfail (x : List Instr) : (s.putPending x).pfail = s.pfail := rfl
@[simp] theorem State.putPending_rst (x : List Instr) : (s.putPending x).rst = s.rst := rfl
@[simp] theorem State.putPending_signature (x : List Instr) : (s.putPending x).signature = s.signature := rfl
@[simp] theorem State.putPending_startResult (x : List Instr) : (s.putPending x).startResult = s.startResult := rfl
@[simp] theorem State.putPending_straps (x : List Instr) : (s.putPending x).straps = s.straps := rfl
@[simp] theorem State.putPending_setAside (x : List Instr) : (s.putPending x).setAside = s.setAside := rfl
@[simp] theorem State.putPending_clock (x : List Instr) : (s.putPending x).clock = s.clock := rfl
@[simp] theorem State.putPending_stock (x : List Instr) : (s.putPending x).stock = s.stock := rfl
@[simp] theorem State.putPending_audit (x : List Instr) : (s.putPending x).audit = s.audit := rfl
@[simp] theorem State.putPending_discounts (x : List Instr) : (s.putPending x).discounts = s.discounts := rfl
@[simp] theorem State.putPending_till (x : List Instr) : (s.putPending x).till = s.till := rfl
@[simp] theorem State.putPending_drawers (x : List Instr) : (s.putPending x).drawers = s.drawers := rfl
@[simp] theorem State.putPending_maps (x : List Instr) : (s.putPending x).maps = s.maps := rfl
@[simp] theorem State.putPending_lanes (x : List Instr) : (s.putPending x).lanes = s.lanes := rfl
@[simp] theorem State.putPending_configs (x : List Instr) : (s.putPending x).configs = s.configs := rfl
@[simp] theorem State.putPending_progress (x : List Instr) : (s.putPending x).progress = s.progress := rfl
@[simp] theorem State.putPending_controllers (x : List Instr) : (s.putPending x).controllers = s.controllers := rfl
@[simp] theorem State.putPending_log (x : List Instr) : (s.putPending x).log = s.log := rfl
@[simp] theorem State.putPending_lines (x : List Instr) : (s.putPending x).lines = s.lines := rfl

/-! ### putDraws -/

@[simp] theorem State.putDraws_pending (x : Nat) : (s.putDraws x).pending = s.pending := rfl
@[simp] theorem State.putDraws_draws (x : Nat) : (s.putDraws x).draws = x := rfl
@[simp] theorem State.putDraws_phase (x : Nat) : (s.putDraws x).phase = s.phase := rfl
@[simp] theorem State.putDraws_pfail (x : Nat) : (s.putDraws x).pfail = s.pfail := rfl
@[simp] theorem State.putDraws_rst (x : Nat) : (s.putDraws x).rst = s.rst := rfl
@[simp] theorem State.putDraws_signature (x : Nat) : (s.putDraws x).signature = s.signature := rfl
@[simp] theorem State.putDraws_startResult (x : Nat) : (s.putDraws x).startResult = s.startResult := rfl
@[simp] theorem State.putDraws_straps (x : Nat) : (s.putDraws x).straps = s.straps := rfl
@[simp] theorem State.putDraws_setAside (x : Nat) : (s.putDraws x).setAside = s.setAside := rfl
@[simp] theorem State.putDraws_clock (x : Nat) : (s.putDraws x).clock = s.clock := rfl
@[simp] theorem State.putDraws_stock (x : Nat) : (s.putDraws x).stock = s.stock := rfl
@[simp] theorem State.putDraws_audit (x : Nat) : (s.putDraws x).audit = s.audit := rfl
@[simp] theorem State.putDraws_discounts (x : Nat) : (s.putDraws x).discounts = s.discounts := rfl
@[simp] theorem State.putDraws_till (x : Nat) : (s.putDraws x).till = s.till := rfl
@[simp] theorem State.putDraws_drawers (x : Nat) : (s.putDraws x).drawers = s.drawers := rfl
@[simp] theorem State.putDraws_maps (x : Nat) : (s.putDraws x).maps = s.maps := rfl
@[simp] theorem State.putDraws_lanes (x : Nat) : (s.putDraws x).lanes = s.lanes := rfl
@[simp] theorem State.putDraws_configs (x : Nat) : (s.putDraws x).configs = s.configs := rfl
@[simp] theorem State.putDraws_progress (x : Nat) : (s.putDraws x).progress = s.progress := rfl
@[simp] theorem State.putDraws_controllers (x : Nat) : (s.putDraws x).controllers = s.controllers := rfl
@[simp] theorem State.putDraws_log (x : Nat) : (s.putDraws x).log = s.log := rfl
@[simp] theorem State.putDraws_lines (x : Nat) : (s.putDraws x).lines = s.lines := rfl

/-! ### Accessors -/

@[simp] theorem State.putTill_kind (x : Till) (k : Kind) : (s.putTill x).kind k = s.kind k := rfl
@[simp] theorem State.putLog_kind (x : FaultLog) (k : Kind) : (s.putLog x).kind k = s.kind k := rfl
@[simp] theorem State.putDiscount_kind (i : Fin 16) (x : Discount) (k : Kind) : (s.putDiscount i x).kind k = s.kind k := rfl
@[simp] theorem State.putMap_kind (n : Fin 6) (x : Vector MapEntry 8) (k : Kind) : (s.putMap n x).kind k = s.kind k := rfl
@[simp] theorem State.putConfig_kind (p : PrinterId) (x : PrinterConfig) (k : Kind) : (s.putConfig p x).kind k = s.kind k := rfl
@[simp] theorem State.putProgress_kind (p : PrinterId) (x : Option Progress) (k : Kind) : (s.putProgress p x).kind k = s.kind k := rfl
@[simp] theorem State.markProgress_kind (p : PrinterId) (x : Option Progress) (k : Kind) : (s.markProgress p x).kind k = s.kind k := rfl
@[simp] theorem State.putClock_kind (x : Clock) (k : Kind) : (s.putClock x).kind k = s.kind k := rfl
@[simp] theorem State.putPack_kind (k : Slot) (x : Option Pack) (k' : Kind) : (s.putPack k x).kind k' = s.kind k' := rfl
@[simp] theorem State.putKind_kind (k : Kind) (x : StockKind) (k' : Kind) :
    (s.putKind k x).kind k' = if k' = k then x else s.kind k' := by
  simp [State.kind, Vector.getElem_set, Fin.ext_iff, eq_comm]
@[simp] theorem State.putLoaded_kind (p : PrinterId) (x : Option Slot) (k : Kind) : (s.putLoaded p x).kind k = s.kind k := rfl
@[simp] theorem State.putSession_kind (n : SessionId) (x : Session) (k : Kind) : (s.putSession n x).kind k = s.kind k := rfl
@[simp] theorem State.putAudit_kind (x : Option (Slot × Nat)) (k : Kind) : (s.putAudit x).kind k = s.kind k := rfl
@[simp] theorem State.putDrawer_kind (n : SessionId) (x : Bool) (k : Kind) : (s.putDrawer n x).kind k = s.kind k := rfl
@[simp] theorem State.putLane_kind (p : PrinterId) (x : Lanes) (k : Kind) : (s.putLane p x).kind k = s.kind k := rfl
@[simp] theorem State.putCtl_kind (p : PrinterId) (x : Controller) (k : Kind) : (s.putCtl p x).kind k = s.kind k := rfl
@[simp] theorem State.putLine_kind (l : Line) (x : LineState) (k : Kind) : (s.putLine l x).kind k = s.kind k := rfl
@[simp] theorem State.putPending_kind (x : List Instr) (k : Kind) : (s.putPending x).kind k = s.kind k := rfl
@[simp] theorem State.putDraws_kind (x : Nat) (k : Kind) : (s.putDraws x).kind k = s.kind k := rfl

@[simp] theorem State.putTill_pack (x : Till) (j : Slot) : (s.putTill x).pack j = s.pack j := rfl
@[simp] theorem State.putLog_pack (x : FaultLog) (j : Slot) : (s.putLog x).pack j = s.pack j := rfl
@[simp] theorem State.putDiscount_pack (i : Fin 16) (x : Discount) (j : Slot) : (s.putDiscount i x).pack j = s.pack j := rfl
@[simp] theorem State.putMap_pack (n : Fin 6) (x : Vector MapEntry 8) (j : Slot) : (s.putMap n x).pack j = s.pack j := rfl
@[simp] theorem State.putConfig_pack (p : PrinterId) (x : PrinterConfig) (j : Slot) : (s.putConfig p x).pack j = s.pack j := rfl
@[simp] theorem State.putProgress_pack (p : PrinterId) (x : Option Progress) (j : Slot) : (s.putProgress p x).pack j = s.pack j := rfl
@[simp] theorem State.markProgress_pack (p : PrinterId) (x : Option Progress) (j : Slot) : (s.markProgress p x).pack j = s.pack j := rfl
@[simp] theorem State.putClock_pack (x : Clock) (j : Slot) : (s.putClock x).pack j = s.pack j := rfl
@[simp] theorem State.putPack_pack (k : Slot) (x : Option Pack) (j : Slot) :
    (s.putPack k x).pack j = if j = k then x else s.pack j := by
  simp [State.pack, Vector.getElem_set, Fin.ext_iff, eq_comm]
@[simp] theorem State.putKind_pack (k : Kind) (x : StockKind) (j : Slot) : (s.putKind k x).pack j = s.pack j := rfl
@[simp] theorem State.putLoaded_pack (p : PrinterId) (x : Option Slot) (j : Slot) : (s.putLoaded p x).pack j = s.pack j := rfl
@[simp] theorem State.putSession_pack (n : SessionId) (x : Session) (j : Slot) : (s.putSession n x).pack j = s.pack j := rfl
@[simp] theorem State.putAudit_pack (x : Option (Slot × Nat)) (j : Slot) : (s.putAudit x).pack j = s.pack j := rfl
@[simp] theorem State.putDrawer_pack (n : SessionId) (x : Bool) (j : Slot) : (s.putDrawer n x).pack j = s.pack j := rfl
@[simp] theorem State.putLane_pack (p : PrinterId) (x : Lanes) (j : Slot) : (s.putLane p x).pack j = s.pack j := rfl
@[simp] theorem State.putCtl_pack (p : PrinterId) (x : Controller) (j : Slot) : (s.putCtl p x).pack j = s.pack j := rfl
@[simp] theorem State.putLine_pack (l : Line) (x : LineState) (j : Slot) : (s.putLine l x).pack j = s.pack j := rfl
@[simp] theorem State.putPending_pack (x : List Instr) (j : Slot) : (s.putPending x).pack j = s.pack j := rfl
@[simp] theorem State.putDraws_pack (x : Nat) (j : Slot) : (s.putDraws x).pack j = s.pack j := rfl

@[simp] theorem State.putTill_loaded (x : Till) (q : PrinterId) : (s.putTill x).loaded q = s.loaded q := rfl
@[simp] theorem State.putLog_loaded (x : FaultLog) (q : PrinterId) : (s.putLog x).loaded q = s.loaded q := rfl
@[simp] theorem State.putDiscount_loaded (i : Fin 16) (x : Discount) (q : PrinterId) : (s.putDiscount i x).loaded q = s.loaded q := rfl
@[simp] theorem State.putMap_loaded (n : Fin 6) (x : Vector MapEntry 8) (q : PrinterId) : (s.putMap n x).loaded q = s.loaded q := rfl
@[simp] theorem State.putConfig_loaded (p : PrinterId) (x : PrinterConfig) (q : PrinterId) : (s.putConfig p x).loaded q = s.loaded q := rfl
@[simp] theorem State.putProgress_loaded (p : PrinterId) (x : Option Progress) (q : PrinterId) : (s.putProgress p x).loaded q = s.loaded q := rfl
@[simp] theorem State.markProgress_loaded (p : PrinterId) (x : Option Progress) (q : PrinterId) : (s.markProgress p x).loaded q = s.loaded q := rfl
@[simp] theorem State.putClock_loaded (x : Clock) (q : PrinterId) : (s.putClock x).loaded q = s.loaded q := rfl
@[simp] theorem State.putPack_loaded (k : Slot) (x : Option Pack) (q : PrinterId) : (s.putPack k x).loaded q = s.loaded q := rfl
@[simp] theorem State.putKind_loaded (k : Kind) (x : StockKind) (q : PrinterId) : (s.putKind k x).loaded q = s.loaded q := rfl
@[simp] theorem State.putLoaded_loaded (p : PrinterId) (x : Option Slot) (q : PrinterId) :
    (s.putLoaded p x).loaded q = if q = p then x else s.loaded q := by
  simp [State.loaded, Vector.getElem_set, Fin.ext_iff, eq_comm]
@[simp] theorem State.putSession_loaded (n : SessionId) (x : Session) (q : PrinterId) : (s.putSession n x).loaded q = s.loaded q := rfl
@[simp] theorem State.putAudit_loaded (x : Option (Slot × Nat)) (q : PrinterId) : (s.putAudit x).loaded q = s.loaded q := rfl
@[simp] theorem State.putDrawer_loaded (n : SessionId) (x : Bool) (q : PrinterId) : (s.putDrawer n x).loaded q = s.loaded q := rfl
@[simp] theorem State.putLane_loaded (p : PrinterId) (x : Lanes) (q : PrinterId) : (s.putLane p x).loaded q = s.loaded q := rfl
@[simp] theorem State.putCtl_loaded (p : PrinterId) (x : Controller) (q : PrinterId) : (s.putCtl p x).loaded q = s.loaded q := rfl
@[simp] theorem State.putLine_loaded (l : Line) (x : LineState) (q : PrinterId) : (s.putLine l x).loaded q = s.loaded q := rfl
@[simp] theorem State.putPending_loaded (x : List Instr) (q : PrinterId) : (s.putPending x).loaded q = s.loaded q := rfl
@[simp] theorem State.putDraws_loaded (x : Nat) (q : PrinterId) : (s.putDraws x).loaded q = s.loaded q := rfl

@[simp] theorem State.putStock_session (x : Stock) (m : SessionId) : (s.putStock x).session m = s.session m := rfl
@[simp] theorem State.putLog_session (x : FaultLog) (m : SessionId) : (s.putLog x).session m = s.session m := rfl
@[simp] theorem State.putDiscount_session (i : Fin 16) (x : Discount) (m : SessionId) : (s.putDiscount i x).session m = s.session m := rfl
@[simp] theorem State.putMap_session (n : Fin 6) (x : Vector MapEntry 8) (m : SessionId) : (s.putMap n x).session m = s.session m := rfl
@[simp] theorem State.putConfig_session (p : PrinterId) (x : PrinterConfig) (m : SessionId) : (s.putConfig p x).session m = s.session m := rfl
@[simp] theorem State.putProgress_session (p : PrinterId) (x : Option Progress) (m : SessionId) : (s.putProgress p x).session m = s.session m := rfl
@[simp] theorem State.markProgress_session (p : PrinterId) (x : Option Progress) (m : SessionId) : (s.markProgress p x).session m = s.session m := rfl
@[simp] theorem State.putClock_session (x : Clock) (m : SessionId) : (s.putClock x).session m = s.session m := rfl
@[simp] theorem State.putPack_session (k : Slot) (x : Option Pack) (m : SessionId) : (s.putPack k x).session m = s.session m := rfl
@[simp] theorem State.putKind_session (k : Kind) (x : StockKind) (m : SessionId) : (s.putKind k x).session m = s.session m := rfl
@[simp] theorem State.putLoaded_session (p : PrinterId) (x : Option Slot) (m : SessionId) : (s.putLoaded p x).session m = s.session m := rfl
@[simp] theorem State.putSession_session (n : SessionId) (x : Session) (m : SessionId) :
    (s.putSession n x).session m = if m = n then x else s.session m := by
  simp [State.session, Vector.getElem_set, Fin.ext_iff, eq_comm]
@[simp] theorem State.putAudit_session (x : Option (Slot × Nat)) (m : SessionId) : (s.putAudit x).session m = s.session m := rfl
@[simp] theorem State.putDrawer_session (n : SessionId) (x : Bool) (m : SessionId) : (s.putDrawer n x).session m = s.session m := rfl
@[simp] theorem State.putLane_session (p : PrinterId) (x : Lanes) (m : SessionId) : (s.putLane p x).session m = s.session m := rfl
@[simp] theorem State.putCtl_session (p : PrinterId) (x : Controller) (m : SessionId) : (s.putCtl p x).session m = s.session m := rfl
@[simp] theorem State.putLine_session (l : Line) (x : LineState) (m : SessionId) : (s.putLine l x).session m = s.session m := rfl
@[simp] theorem State.putPending_session (x : List Instr) (m : SessionId) : (s.putPending x).session m = s.session m := rfl
@[simp] theorem State.putDraws_session (x : Nat) (m : SessionId) : (s.putDraws x).session m = s.session m := rfl

@[simp] theorem State.putStock_lane (x : Stock) (q : PrinterId) : (s.putStock x).lane q = s.lane q := rfl
@[simp] theorem State.putTill_lane (x : Till) (q : PrinterId) : (s.putTill x).lane q = s.lane q := rfl
@[simp] theorem State.putLog_lane (x : FaultLog) (q : PrinterId) : (s.putLog x).lane q = s.lane q := rfl
@[simp] theorem State.putDiscount_lane (i : Fin 16) (x : Discount) (q : PrinterId) : (s.putDiscount i x).lane q = s.lane q := rfl
@[simp] theorem State.putMap_lane (n : Fin 6) (x : Vector MapEntry 8) (q : PrinterId) : (s.putMap n x).lane q = s.lane q := rfl
@[simp] theorem State.putConfig_lane (p : PrinterId) (x : PrinterConfig) (q : PrinterId) : (s.putConfig p x).lane q = s.lane q := rfl
@[simp] theorem State.putProgress_lane (p : PrinterId) (x : Option Progress) (q : PrinterId) : (s.putProgress p x).lane q = s.lane q := rfl
@[simp] theorem State.markProgress_lane (p : PrinterId) (x : Option Progress) (q : PrinterId) : (s.markProgress p x).lane q = s.lane q := rfl
@[simp] theorem State.putClock_lane (x : Clock) (q : PrinterId) : (s.putClock x).lane q = s.lane q := rfl
@[simp] theorem State.putPack_lane (k : Slot) (x : Option Pack) (q : PrinterId) : (s.putPack k x).lane q = s.lane q := rfl
@[simp] theorem State.putKind_lane (k : Kind) (x : StockKind) (q : PrinterId) : (s.putKind k x).lane q = s.lane q := rfl
@[simp] theorem State.putLoaded_lane (p : PrinterId) (x : Option Slot) (q : PrinterId) : (s.putLoaded p x).lane q = s.lane q := rfl
@[simp] theorem State.putSession_lane (n : SessionId) (x : Session) (q : PrinterId) : (s.putSession n x).lane q = s.lane q := rfl
@[simp] theorem State.putAudit_lane (x : Option (Slot × Nat)) (q : PrinterId) : (s.putAudit x).lane q = s.lane q := rfl
@[simp] theorem State.putDrawer_lane (n : SessionId) (x : Bool) (q : PrinterId) : (s.putDrawer n x).lane q = s.lane q := rfl
@[simp] theorem State.putLane_lane (p : PrinterId) (x : Lanes) (q : PrinterId) :
    (s.putLane p x).lane q = if q = p then x else s.lane q := by
  simp [State.lane, Vector.getElem_set, Fin.ext_iff, eq_comm]
@[simp] theorem State.putCtl_lane (p : PrinterId) (x : Controller) (q : PrinterId) : (s.putCtl p x).lane q = s.lane q := rfl
@[simp] theorem State.putLine_lane (l : Line) (x : LineState) (q : PrinterId) : (s.putLine l x).lane q = s.lane q := rfl
@[simp] theorem State.putPending_lane (x : List Instr) (q : PrinterId) : (s.putPending x).lane q = s.lane q := rfl
@[simp] theorem State.putDraws_lane (x : Nat) (q : PrinterId) : (s.putDraws x).lane q = s.lane q := rfl

@[simp] theorem State.putStock_config (x : Stock) (q : PrinterId) : (s.putStock x).config q = s.config q := rfl
@[simp] theorem State.putTill_config (x : Till) (q : PrinterId) : (s.putTill x).config q = s.config q := rfl
@[simp] theorem State.putLog_config (x : FaultLog) (q : PrinterId) : (s.putLog x).config q = s.config q := rfl
@[simp] theorem State.putDiscount_config (i : Fin 16) (x : Discount) (q : PrinterId) : (s.putDiscount i x).config q = s.config q := rfl
@[simp] theorem State.putMap_config (n : Fin 6) (x : Vector MapEntry 8) (q : PrinterId) : (s.putMap n x).config q = s.config q := rfl
@[simp] theorem State.putConfig_config (p : PrinterId) (x : PrinterConfig) (q : PrinterId) :
    (s.putConfig p x).config q = if q = p then x else s.config q := by
  simp [State.config, Vector.getElem_set, Fin.ext_iff, eq_comm]
@[simp] theorem State.putProgress_config (p : PrinterId) (x : Option Progress) (q : PrinterId) : (s.putProgress p x).config q = s.config q := rfl
@[simp] theorem State.markProgress_config (p : PrinterId) (x : Option Progress) (q : PrinterId) : (s.markProgress p x).config q = s.config q := rfl
@[simp] theorem State.putClock_config (x : Clock) (q : PrinterId) : (s.putClock x).config q = s.config q := rfl
@[simp] theorem State.putPack_config (k : Slot) (x : Option Pack) (q : PrinterId) : (s.putPack k x).config q = s.config q := rfl
@[simp] theorem State.putKind_config (k : Kind) (x : StockKind) (q : PrinterId) : (s.putKind k x).config q = s.config q := rfl
@[simp] theorem State.putLoaded_config (p : PrinterId) (x : Option Slot) (q : PrinterId) : (s.putLoaded p x).config q = s.config q := rfl
@[simp] theorem State.putSession_config (n : SessionId) (x : Session) (q : PrinterId) : (s.putSession n x).config q = s.config q := rfl
@[simp] theorem State.putAudit_config (x : Option (Slot × Nat)) (q : PrinterId) : (s.putAudit x).config q = s.config q := rfl
@[simp] theorem State.putDrawer_config (n : SessionId) (x : Bool) (q : PrinterId) : (s.putDrawer n x).config q = s.config q := rfl
@[simp] theorem State.putLane_config (p : PrinterId) (x : Lanes) (q : PrinterId) : (s.putLane p x).config q = s.config q := rfl
@[simp] theorem State.putCtl_config (p : PrinterId) (x : Controller) (q : PrinterId) : (s.putCtl p x).config q = s.config q := rfl
@[simp] theorem State.putLine_config (l : Line) (x : LineState) (q : PrinterId) : (s.putLine l x).config q = s.config q := rfl
@[simp] theorem State.putPending_config (x : List Instr) (q : PrinterId) : (s.putPending x).config q = s.config q := rfl
@[simp] theorem State.putDraws_config (x : Nat) (q : PrinterId) : (s.putDraws x).config q = s.config q := rfl

@[simp] theorem State.putStock_inProgress (x : Stock) (q : PrinterId) : (s.putStock x).inProgress q = s.inProgress q := rfl
@[simp] theorem State.putTill_inProgress (x : Till) (q : PrinterId) : (s.putTill x).inProgress q = s.inProgress q := rfl
@[simp] theorem State.putLog_inProgress (x : FaultLog) (q : PrinterId) : (s.putLog x).inProgress q = s.inProgress q := rfl
@[simp] theorem State.putDiscount_inProgress (i : Fin 16) (x : Discount) (q : PrinterId) : (s.putDiscount i x).inProgress q = s.inProgress q := rfl
@[simp] theorem State.putMap_inProgress (n : Fin 6) (x : Vector MapEntry 8) (q : PrinterId) : (s.putMap n x).inProgress q = s.inProgress q := rfl
@[simp] theorem State.putConfig_inProgress (p : PrinterId) (x : PrinterConfig) (q : PrinterId) : (s.putConfig p x).inProgress q = s.inProgress q := rfl
@[simp] theorem State.putProgress_inProgress (p : PrinterId) (x : Option Progress) (q : PrinterId) :
    (s.putProgress p x).inProgress q = if q = p then x else s.inProgress q := by
  simp [State.inProgress, Vector.getElem_set, Fin.ext_iff, eq_comm]
@[simp] theorem State.markProgress_inProgress (p : PrinterId) (x : Option Progress) (q : PrinterId) :
    (s.markProgress p x).inProgress q = if q = p then x else s.inProgress q := by
  simp [State.inProgress, Vector.getElem_set, Fin.ext_iff, eq_comm]
@[simp] theorem State.putClock_inProgress (x : Clock) (q : PrinterId) : (s.putClock x).inProgress q = s.inProgress q := rfl
@[simp] theorem State.putPack_inProgress (k : Slot) (x : Option Pack) (q : PrinterId) : (s.putPack k x).inProgress q = s.inProgress q := rfl
@[simp] theorem State.putKind_inProgress (k : Kind) (x : StockKind) (q : PrinterId) : (s.putKind k x).inProgress q = s.inProgress q := rfl
@[simp] theorem State.putLoaded_inProgress (p : PrinterId) (x : Option Slot) (q : PrinterId) : (s.putLoaded p x).inProgress q = s.inProgress q := rfl
@[simp] theorem State.putSession_inProgress (n : SessionId) (x : Session) (q : PrinterId) : (s.putSession n x).inProgress q = s.inProgress q := rfl
@[simp] theorem State.putAudit_inProgress (x : Option (Slot × Nat)) (q : PrinterId) : (s.putAudit x).inProgress q = s.inProgress q := rfl
@[simp] theorem State.putDrawer_inProgress (n : SessionId) (x : Bool) (q : PrinterId) : (s.putDrawer n x).inProgress q = s.inProgress q := rfl
@[simp] theorem State.putLane_inProgress (p : PrinterId) (x : Lanes) (q : PrinterId) : (s.putLane p x).inProgress q = s.inProgress q := rfl
@[simp] theorem State.putCtl_inProgress (p : PrinterId) (x : Controller) (q : PrinterId) : (s.putCtl p x).inProgress q = s.inProgress q := rfl
@[simp] theorem State.putLine_inProgress (l : Line) (x : LineState) (q : PrinterId) : (s.putLine l x).inProgress q = s.inProgress q := rfl
@[simp] theorem State.putPending_inProgress (x : List Instr) (q : PrinterId) : (s.putPending x).inProgress q = s.inProgress q := rfl
@[simp] theorem State.putDraws_inProgress (x : Nat) (q : PrinterId) : (s.putDraws x).inProgress q = s.inProgress q := rfl

@[simp] theorem State.putStock_ctl (x : Stock) (q : PrinterId) : (s.putStock x).ctl q = s.ctl q := rfl
@[simp] theorem State.putTill_ctl (x : Till) (q : PrinterId) : (s.putTill x).ctl q = s.ctl q := rfl
@[simp] theorem State.putLog_ctl (x : FaultLog) (q : PrinterId) : (s.putLog x).ctl q = s.ctl q := rfl
@[simp] theorem State.putDiscount_ctl (i : Fin 16) (x : Discount) (q : PrinterId) : (s.putDiscount i x).ctl q = s.ctl q := rfl
@[simp] theorem State.putMap_ctl (n : Fin 6) (x : Vector MapEntry 8) (q : PrinterId) : (s.putMap n x).ctl q = s.ctl q := rfl
@[simp] theorem State.putConfig_ctl (p : PrinterId) (x : PrinterConfig) (q : PrinterId) : (s.putConfig p x).ctl q = s.ctl q := rfl
@[simp] theorem State.putProgress_ctl (p : PrinterId) (x : Option Progress) (q : PrinterId) : (s.putProgress p x).ctl q = s.ctl q := rfl
@[simp] theorem State.markProgress_ctl (p : PrinterId) (x : Option Progress) (q : PrinterId) : (s.markProgress p x).ctl q = s.ctl q := rfl
@[simp] theorem State.putClock_ctl (x : Clock) (q : PrinterId) : (s.putClock x).ctl q = s.ctl q := rfl
@[simp] theorem State.putPack_ctl (k : Slot) (x : Option Pack) (q : PrinterId) : (s.putPack k x).ctl q = s.ctl q := rfl
@[simp] theorem State.putKind_ctl (k : Kind) (x : StockKind) (q : PrinterId) : (s.putKind k x).ctl q = s.ctl q := rfl
@[simp] theorem State.putLoaded_ctl (p : PrinterId) (x : Option Slot) (q : PrinterId) : (s.putLoaded p x).ctl q = s.ctl q := rfl
@[simp] theorem State.putSession_ctl (n : SessionId) (x : Session) (q : PrinterId) : (s.putSession n x).ctl q = s.ctl q := rfl
@[simp] theorem State.putAudit_ctl (x : Option (Slot × Nat)) (q : PrinterId) : (s.putAudit x).ctl q = s.ctl q := rfl
@[simp] theorem State.putDrawer_ctl (n : SessionId) (x : Bool) (q : PrinterId) : (s.putDrawer n x).ctl q = s.ctl q := rfl
@[simp] theorem State.putLane_ctl (p : PrinterId) (x : Lanes) (q : PrinterId) : (s.putLane p x).ctl q = s.ctl q := rfl
@[simp] theorem State.putCtl_ctl (p : PrinterId) (x : Controller) (q : PrinterId) :
    (s.putCtl p x).ctl q = if q = p then x else s.ctl q := by
  simp [State.ctl, Vector.getElem_set, Fin.ext_iff, eq_comm]
@[simp] theorem State.putLine_ctl (l : Line) (x : LineState) (q : PrinterId) : (s.putLine l x).ctl q = s.ctl q := rfl
@[simp] theorem State.putPending_ctl (x : List Instr) (q : PrinterId) : (s.putPending x).ctl q = s.ctl q := rfl
@[simp] theorem State.putDraws_ctl (x : Nat) (q : PrinterId) : (s.putDraws x).ctl q = s.ctl q := rfl

@[simp] theorem State.putStock_line (x : Stock) (m : Line) : (s.putStock x).line m = s.line m := rfl
@[simp] theorem State.putTill_line (x : Till) (m : Line) : (s.putTill x).line m = s.line m := rfl
@[simp] theorem State.putLog_line (x : FaultLog) (m : Line) : (s.putLog x).line m = s.line m := rfl
@[simp] theorem State.putDiscount_line (i : Fin 16) (x : Discount) (m : Line) : (s.putDiscount i x).line m = s.line m := rfl
@[simp] theorem State.putMap_line (n : Fin 6) (x : Vector MapEntry 8) (m : Line) : (s.putMap n x).line m = s.line m := rfl
@[simp] theorem State.putConfig_line (p : PrinterId) (x : PrinterConfig) (m : Line) : (s.putConfig p x).line m = s.line m := rfl
@[simp] theorem State.putProgress_line (p : PrinterId) (x : Option Progress) (m : Line) : (s.putProgress p x).line m = s.line m := rfl
@[simp] theorem State.markProgress_line (p : PrinterId) (x : Option Progress) (m : Line) : (s.markProgress p x).line m = s.line m := rfl
@[simp] theorem State.putClock_line (x : Clock) (m : Line) : (s.putClock x).line m = s.line m := rfl
@[simp] theorem State.putPack_line (k : Slot) (x : Option Pack) (m : Line) : (s.putPack k x).line m = s.line m := rfl
@[simp] theorem State.putKind_line (k : Kind) (x : StockKind) (m : Line) : (s.putKind k x).line m = s.line m := rfl
@[simp] theorem State.putLoaded_line (p : PrinterId) (x : Option Slot) (m : Line) : (s.putLoaded p x).line m = s.line m := rfl
@[simp] theorem State.putSession_line (n : SessionId) (x : Session) (m : Line) : (s.putSession n x).line m = s.line m := rfl
@[simp] theorem State.putAudit_line (x : Option (Slot × Nat)) (m : Line) : (s.putAudit x).line m = s.line m := rfl
@[simp] theorem State.putDrawer_line (n : SessionId) (x : Bool) (m : Line) : (s.putDrawer n x).line m = s.line m := rfl
@[simp] theorem State.putLane_line (p : PrinterId) (x : Lanes) (m : Line) : (s.putLane p x).line m = s.line m := rfl
@[simp] theorem State.putCtl_line (p : PrinterId) (x : Controller) (m : Line) : (s.putCtl p x).line m = s.line m := rfl
@[simp] theorem State.putLine_line (l : Line) (x : LineState) (m : Line) :
    (s.putLine l x).line m = if m = l then x else s.line m := by
  simp [State.line, Vector.getElem_set, Fin.ext_iff, eq_comm]
@[simp] theorem State.putPending_line (x : List Instr) (m : Line) : (s.putPending x).line m = s.line m := rfl
@[simp] theorem State.putDraws_line (x : Nat) (m : Line) : (s.putDraws x).line m = s.line m := rfl

end Sys2Proof.Machine
end

