-- ==== Sys2Proof/Laws/Frames.lean ====
section
/-! SUPPORT. Frames of the shared operations: the blocks of the state that each leaves as they were. `Settings` gathers the
blocks that no operation of a printer or a job touches. -/

namespace Sys2Proof.Machine

/-- The blocks that requests, start-up and the clock alone change. -/
structure Settings where
  pending : List Instr
  phase : Phase
  pfail : Bool
  rst : Bool
  startResult : StartResult
  straps : Straps
  setAside : List Outcome
  clock : Clock
  audit : Option (Slot × Nat)
  discounts : Vector Discount 16
  maps : Vector (Vector MapEntry 8) 6
  configs : Vector PrinterConfig 4

/-- The settings of a state. -/
def State.settings (s : State) : Settings :=
  ⟨s.pending, s.phase, s.pfail, s.rst, s.startResult, s.straps, s.setAside, s.clock, s.audit, s.discounts, s.maps, s.configs⟩

variable (s : State)

/-! ### Settings under the writers -/

@[simp] theorem State.putStock_settings (x : Stock) : (s.putStock x).settings = s.settings := rfl
@[simp] theorem State.putTill_settings (x : Till) : (s.putTill x).settings = s.settings := rfl
@[simp] theorem State.putLog_settings (x : FaultLog) : (s.putLog x).settings = s.settings := rfl
@[simp] theorem State.markProgress_settings (p : PrinterId) (x : Option Progress) : (s.markProgress p x).settings = s.settings := rfl
@[simp] theorem State.putProgress_settings (p : PrinterId) (x : Option Progress) : (s.putProgress p x).settings = s.settings := rfl
@[simp] theorem State.putPack_settings (k : Slot) (x : Option Pack) : (s.putPack k x).settings = s.settings := rfl
@[simp] theorem State.putKind_settings (k : Kind) (x : StockKind) : (s.putKind k x).settings = s.settings := rfl
@[simp] theorem State.putLoaded_settings (p : PrinterId) (x : Option Slot) : (s.putLoaded p x).settings = s.settings := rfl
@[simp] theorem State.putSession_settings (n : SessionId) (x : Session) : (s.putSession n x).settings = s.settings := rfl
@[simp] theorem State.putDrawer_settings (n : SessionId) (x : Bool) : (s.putDrawer n x).settings = s.settings := rfl
@[simp] theorem State.putLane_settings (p : PrinterId) (x : Lanes) : (s.putLane p x).settings = s.settings := rfl
@[simp] theorem State.putCtl_settings (p : PrinterId) (x : Controller) : (s.putCtl p x).settings = s.settings := rfl
@[simp] theorem State.putLine_settings (l : Line) (x : LineState) : (s.putLine l x).settings = s.settings := rfl
@[simp] theorem State.putDraws_settings (x : Nat) : (s.putDraws x).settings = s.settings := rfl

@[simp] theorem State.raise_settings (c : NoticeClass) (sub : Subject) : (s.raise c sub).settings = s.settings := by
  unfold State.raise; split <;> rfl
@[simp] theorem State.raise_draws (c : NoticeClass) (sub : Subject) : (s.raise c sub).draws = s.draws := by
  simp only [State.raise]; repeat' split
  all_goals simp
@[simp] theorem State.raise_drawers (c : NoticeClass) (sub : Subject) : (s.raise c sub).drawers = s.drawers := by
  simp only [State.raise]; repeat' split
  all_goals simp
@[simp] theorem State.raise_log (c : NoticeClass) (sub : Subject) : (s.raise c sub).log = s.log := by
  simp only [State.raise]; repeat' split
  all_goals simp
@[simp] theorem State.raise_lanes (c : NoticeClass) (sub : Subject) : (s.raise c sub).lanes = s.lanes := by
  simp only [State.raise]; repeat' split
  all_goals simp
@[simp] theorem State.raise_stock (c : NoticeClass) (sub : Subject) : (s.raise c sub).stock = s.stock := by
  simp only [State.raise]; repeat' split
  all_goals simp
@[simp] theorem State.raise_till (c : NoticeClass) (sub : Subject) : (s.raise c sub).till = s.till := by
  simp only [State.raise]; repeat' split
  all_goals simp
@[simp] theorem State.raise_progress (c : NoticeClass) (sub : Subject) : (s.raise c sub).progress = s.progress := by
  simp only [State.raise]; repeat' split
  all_goals simp
@[simp] theorem State.raise_controllers (c : NoticeClass) (sub : Subject) : (s.raise c sub).controllers = s.controllers := by
  simp only [State.raise]; repeat' split
  all_goals simp

@[simp] theorem State.pump_settings (l : Line) : (s.pump l).settings = s.settings := by
  simp [State.pump]
@[simp] theorem State.pump_draws (l : Line) : (s.pump l).draws = s.draws := by
  simp [State.pump]
@[simp] theorem State.pump_drawers (l : Line) : (s.pump l).drawers = s.drawers := by
  simp [State.pump]
@[simp] theorem State.pump_log (l : Line) : (s.pump l).log = s.log := by
  simp [State.pump]
@[simp] theorem State.pump_lanes (l : Line) : (s.pump l).lanes = s.lanes := by
  simp [State.pump]
@[simp] theorem State.pump_stock (l : Line) : (s.pump l).stock = s.stock := by
  simp [State.pump]
@[simp] theorem State.pump_till (l : Line) : (s.pump l).till = s.till := by
  simp [State.pump]
@[simp] theorem State.pump_progress (l : Line) : (s.pump l).progress = s.progress := by
  simp [State.pump]
@[simp] theorem State.pump_controllers (l : Line) : (s.pump l).controllers = s.controllers := by
  simp [State.pump]

@[simp] theorem State.pumpAll_settings  : (s.pumpAll).settings = s.settings := by
  rfl
@[simp] theorem State.pumpAll_draws  : (s.pumpAll).draws = s.draws := by
  simp [State.pumpAll]
@[simp] theorem State.pumpAll_drawers  : (s.pumpAll).drawers = s.drawers := by
  simp [State.pumpAll]
@[simp] theorem State.pumpAll_log  : (s.pumpAll).log = s.log := by
  simp [State.pumpAll]
@[simp] theorem State.pumpAll_lanes  : (s.pumpAll).lanes = s.lanes := by
  simp [State.pumpAll]
@[simp] theorem State.pumpAll_stock  : (s.pumpAll).stock = s.stock := by
  simp [State.pumpAll]
@[simp] theorem State.pumpAll_till  : (s.pumpAll).till = s.till := by
  simp [State.pumpAll]
@[simp] theorem State.pumpAll_progress  : (s.pumpAll).progress = s.progress := by
  simp [State.pumpAll]
@[simp] theorem State.pumpAll_controllers  : (s.pumpAll).controllers = s.controllers := by
  simp [State.pumpAll]

@[simp] theorem State.queueReply_settings (l : Line) (r : Reply) : (s.queueReply l r).settings = s.settings := by
  simp [State.queueReply]
@[simp] theorem State.queueReply_draws (l : Line) (r : Reply) : (s.queueReply l r).draws = s.draws := by
  simp [State.queueReply]
@[simp] theorem State.queueReply_drawers (l : Line) (r : Reply) : (s.queueReply l r).drawers = s.drawers := by
  simp [State.queueReply]
@[simp] theorem State.queueReply_log (l : Line) (r : Reply) : (s.queueReply l r).log = s.log := by
  simp [State.queueReply]
@[simp] theorem State.queueReply_lanes (l : Line) (r : Reply) : (s.queueReply l r).lanes = s.lanes := by
  simp [State.queueReply]
@[simp] theorem State.queueReply_stock (l : Line) (r : Reply) : (s.queueReply l r).stock = s.stock := by
  simp [State.queueReply]
@[simp] theorem State.queueReply_till (l : Line) (r : Reply) : (s.queueReply l r).till = s.till := by
  simp [State.queueReply]
@[simp] theorem State.queueReply_progress (l : Line) (r : Reply) : (s.queueReply l r).progress = s.progress := by
  simp [State.queueReply]
@[simp] theorem State.queueReply_controllers (l : Line) (r : Reply) : (s.queueReply l r).controllers = s.controllers := by
  simp [State.queueReply]

@[simp] theorem State.frameEnded_settings (l : Line) : (s.frameEnded l).settings = s.settings := by
  simp [State.frameEnded]
@[simp] theorem State.frameEnded_draws (l : Line) : (s.frameEnded l).draws = s.draws := by
  simp [State.frameEnded]
@[simp] theorem State.frameEnded_drawers (l : Line) : (s.frameEnded l).drawers = s.drawers := by
  simp [State.frameEnded]
@[simp] theorem State.frameEnded_log (l : Line) : (s.frameEnded l).log = s.log := by
  simp [State.frameEnded]
@[simp] theorem State.frameEnded_lanes (l : Line) : (s.frameEnded l).lanes = s.lanes := by
  simp [State.frameEnded]
@[simp] theorem State.frameEnded_stock (l : Line) : (s.frameEnded l).stock = s.stock := by
  simp [State.frameEnded]
@[simp] theorem State.frameEnded_till (l : Line) : (s.frameEnded l).till = s.till := by
  simp [State.frameEnded]
@[simp] theorem State.frameEnded_progress (l : Line) : (s.frameEnded l).progress = s.progress := by
  simp [State.frameEnded]
@[simp] theorem State.frameEnded_controllers (l : Line) : (s.frameEnded l).controllers = s.controllers := by
  simp [State.frameEnded]

@[simp] theorem State.endDeferred_settings (status : Status) (fields : List Byte) : (s.endDeferred status fields).settings = s.settings := by
  simp only [State.endDeferred]; repeat' split
  all_goals simp
@[simp] theorem State.endDeferred_draws (status : Status) (fields : List Byte) : (s.endDeferred status fields).draws = s.draws := by
  simp only [State.endDeferred]; repeat' split
  all_goals simp
@[simp] theorem State.endDeferred_drawers (status : Status) (fields : List Byte) : (s.endDeferred status fields).drawers = s.drawers := by
  simp only [State.endDeferred]; repeat' split
  all_goals simp
@[simp] theorem State.endDeferred_log (status : Status) (fields : List Byte) : (s.endDeferred status fields).log = s.log := by
  simp only [State.endDeferred]; repeat' split
  all_goals simp
@[simp] theorem State.endDeferred_lanes (status : Status) (fields : List Byte) : (s.endDeferred status fields).lanes = s.lanes := by
  simp only [State.endDeferred]; repeat' split
  all_goals simp
@[simp] theorem State.endDeferred_stock (status : Status) (fields : List Byte) : (s.endDeferred status fields).stock = s.stock := by
  simp only [State.endDeferred]; repeat' split
  all_goals simp
@[simp] theorem State.endDeferred_till (status : Status) (fields : List Byte) : (s.endDeferred status fields).till = s.till := by
  simp only [State.endDeferred]; repeat' split
  all_goals simp
@[simp] theorem State.endDeferred_progress (status : Status) (fields : List Byte) : (s.endDeferred status fields).progress = s.progress := by
  simp only [State.endDeferred]; repeat' split
  all_goals simp
@[simp] theorem State.endDeferred_controllers (status : Status) (fields : List Byte) : (s.endDeferred status fields).controllers = s.controllers := by
  simp only [State.endDeferred]; repeat' split
  all_goals simp

@[simp] theorem State.holdDeferred_settings (d : Deferred) : (s.holdDeferred d).settings = s.settings := by
  simp [State.holdDeferred]
@[simp] theorem State.holdDeferred_draws (d : Deferred) : (s.holdDeferred d).draws = s.draws := by
  simp [State.holdDeferred]
@[simp] theorem State.holdDeferred_drawers (d : Deferred) : (s.holdDeferred d).drawers = s.drawers := by
  simp [State.holdDeferred]
@[simp] theorem State.holdDeferred_log (d : Deferred) : (s.holdDeferred d).log = s.log := by
  simp [State.holdDeferred]
@[simp] theorem State.holdDeferred_lanes (d : Deferred) : (s.holdDeferred d).lanes = s.lanes := by
  simp [State.holdDeferred]
@[simp] theorem State.holdDeferred_stock (d : Deferred) : (s.holdDeferred d).stock = s.stock := by
  simp [State.holdDeferred]
@[simp] theorem State.holdDeferred_till (d : Deferred) : (s.holdDeferred d).till = s.till := by
  simp [State.holdDeferred]
@[simp] theorem State.holdDeferred_progress (d : Deferred) : (s.holdDeferred d).progress = s.progress := by
  simp [State.holdDeferred]
@[simp] theorem State.holdDeferred_controllers (d : Deferred) : (s.holdDeferred d).controllers = s.controllers := by
  simp [State.holdDeferred]

@[simp] theorem State.noteRecords_settings  : (s.noteRecords).settings = s.settings := by
  simp only [State.noteRecords]; repeat' split
  all_goals simp
@[simp] theorem State.noteRecords_draws  : (s.noteRecords).draws = s.draws := by
  simp only [State.noteRecords]; repeat' split
  all_goals simp
@[simp] theorem State.noteRecords_drawers  : (s.noteRecords).drawers = s.drawers := by
  simp only [State.noteRecords]; repeat' split
  all_goals simp
@[simp] theorem State.noteRecords_log  : (s.noteRecords).log = s.log := by
  simp only [State.noteRecords]; repeat' split
  all_goals simp
@[simp] theorem State.noteRecords_lanes  : (s.noteRecords).lanes = s.lanes := by
  simp only [State.noteRecords]; repeat' split
  all_goals simp
@[simp] theorem State.noteRecords_till  : (s.noteRecords).till = s.till := by
  simp only [State.noteRecords]; repeat' split
  all_goals simp
@[simp] theorem State.noteRecords_progress  : (s.noteRecords).progress = s.progress := by
  simp only [State.noteRecords]; repeat' split
  all_goals simp
@[simp] theorem State.noteRecords_controllers  : (s.noteRecords).controllers = s.controllers := by
  simp only [State.noteRecords]; repeat' split
  all_goals simp

@[simp] theorem State.addRecord_settings (r : ExceptionRecord) : (s.addRecord r).settings = s.settings := by
  simp [State.addRecord]
@[simp] theorem State.addRecord_draws (r : ExceptionRecord) : (s.addRecord r).draws = s.draws := by
  simp [State.addRecord]
@[simp] theorem State.addRecord_drawers (r : ExceptionRecord) : (s.addRecord r).drawers = s.drawers := by
  simp [State.addRecord]
@[simp] theorem State.addRecord_log (r : ExceptionRecord) : (s.addRecord r).log = s.log := by
  simp [State.addRecord]
@[simp] theorem State.addRecord_lanes (r : ExceptionRecord) : (s.addRecord r).lanes = s.lanes := by
  simp [State.addRecord]
@[simp] theorem State.addRecord_till (r : ExceptionRecord) : (s.addRecord r).till = s.till := by
  simp [State.addRecord]
@[simp] theorem State.addRecord_progress (r : ExceptionRecord) : (s.addRecord r).progress = s.progress := by
  simp [State.addRecord]
@[simp] theorem State.addRecord_controllers (r : ExceptionRecord) : (s.addRecord r).controllers = s.controllers := by
  simp [State.addRecord]

@[simp] theorem State.mapJob_settings (p : PrinterId) (f : Job → Job) : (s.mapJob p f).settings = s.settings := by
  simp only [State.mapJob]; repeat' split
  all_goals simp
@[simp] theorem State.mapJob_draws (p : PrinterId) (f : Job → Job) : (s.mapJob p f).draws = s.draws := by
  simp only [State.mapJob]; repeat' split
  all_goals simp
@[simp] theorem State.mapJob_drawers (p : PrinterId) (f : Job → Job) : (s.mapJob p f).drawers = s.drawers := by
  simp only [State.mapJob]; repeat' split
  all_goals simp
@[simp] theorem State.mapJob_log (p : PrinterId) (f : Job → Job) : (s.mapJob p f).log = s.log := by
  simp only [State.mapJob]; repeat' split
  all_goals simp
@[simp] theorem State.mapJob_lanes (p : PrinterId) (f : Job → Job) : (s.mapJob p f).lanes = s.lanes := by
  simp only [State.mapJob]; repeat' split
  all_goals simp
@[simp] theorem State.mapJob_stock (p : PrinterId) (f : Job → Job) : (s.mapJob p f).stock = s.stock := by
  simp only [State.mapJob]; repeat' split
  all_goals simp
@[simp] theorem State.mapJob_till (p : PrinterId) (f : Job → Job) : (s.mapJob p f).till = s.till := by
  simp only [State.mapJob]; repeat' split
  all_goals simp
@[simp] theorem State.mapJob_controllers (p : PrinterId) (f : Job → Job) : (s.mapJob p f).controllers = s.controllers := by
  simp only [State.mapJob]; repeat' split
  all_goals simp

@[simp] theorem State.markForm_settings (p : PrinterId) (b : Bool) : (s.markForm p b).settings = s.settings := by
  simp only [State.markForm]; repeat' split
  all_goals simp
@[simp] theorem State.markForm_draws (p : PrinterId) (b : Bool) : (s.markForm p b).draws = s.draws := by
  simp only [State.markForm]; repeat' split
  all_goals simp
@[simp] theorem State.markForm_drawers (p : PrinterId) (b : Bool) : (s.markForm p b).drawers = s.drawers := by
  simp only [State.markForm]; repeat' split
  all_goals simp
@[simp] theorem State.markForm_log (p : PrinterId) (b : Bool) : (s.markForm p b).log = s.log := by
  simp only [State.markForm]; repeat' split
  all_goals simp
@[simp] theorem State.markForm_lanes (p : PrinterId) (b : Bool) : (s.markForm p b).lanes = s.lanes := by
  simp only [State.markForm]; repeat' split
  all_goals simp
@[simp] theorem State.markForm_stock (p : PrinterId) (b : Bool) : (s.markForm p b).stock = s.stock := by
  simp only [State.markForm]; repeat' split
  all_goals simp
@[simp] theorem State.markForm_till (p : PrinterId) (b : Bool) : (s.markForm p b).till = s.till := by
  simp only [State.markForm]; repeat' split
  all_goals simp
@[simp] theorem State.markForm_controllers (p : PrinterId) (b : Bool) : (s.markForm p b).controllers = s.controllers := by
  simp only [State.markForm]; repeat' split
  all_goals simp

@[simp] theorem State.addJobRecord_settings (p : PrinterId) (slot : Slot) (first span : Nat) (reason : Reason) : (s.addJobRecord p slot first span reason).settings = s.settings := by
  simp only [State.addJobRecord]; repeat' split
  all_goals simp
@[simp] theorem State.addJobRecord_draws (p : PrinterId) (slot : Slot) (first span : Nat) (reason : Reason) : (s.addJobRecord p slot first span reason).draws = s.draws := by
  simp only [State.addJobRecord]; repeat' split
  all_goals simp
@[simp] theorem State.addJobRecord_drawers (p : PrinterId) (slot : Slot) (first span : Nat) (reason : Reason) : (s.addJobRecord p slot first span reason).drawers = s.drawers := by
  simp only [State.addJobRecord]; repeat' split
  all_goals simp
@[simp] theorem State.addJobRecord_log (p : PrinterId) (slot : Slot) (first span : Nat) (reason : Reason) : (s.addJobRecord p slot first span reason).log = s.log := by
  simp only [State.addJobRecord]; repeat' split
  all_goals simp
@[simp] theorem State.addJobRecord_lanes (p : PrinterId) (slot : Slot) (first span : Nat) (reason : Reason) : (s.addJobRecord p slot first span reason).lanes = s.lanes := by
  simp only [State.addJobRecord]; repeat' split
  all_goals simp
@[simp] theorem State.addJobRecord_till (p : PrinterId) (slot : Slot) (first span : Nat) (reason : Reason) : (s.addJobRecord p slot first span reason).till = s.till := by
  simp only [State.addJobRecord]; repeat' split
  all_goals simp
@[simp] theorem State.addJobRecord_controllers (p : PrinterId) (slot : Slot) (first span : Nat) (reason : Reason) : (s.addJobRecord p slot first span reason).controllers = s.controllers := by
  simp only [State.addJobRecord]; repeat' split
  all_goals simp

@[simp] theorem State.moveCursor_settings (slot : Slot) (serial : Nat) : (s.moveCursor slot serial).settings = s.settings := by
  simp only [State.moveCursor]; repeat' split
  all_goals simp
@[simp] theorem State.moveCursor_draws (slot : Slot) (serial : Nat) : (s.moveCursor slot serial).draws = s.draws := by
  simp only [State.moveCursor]; repeat' split
  all_goals simp
@[simp] theorem State.moveCursor_drawers (slot : Slot) (serial : Nat) : (s.moveCursor slot serial).drawers = s.drawers := by
  simp only [State.moveCursor]; repeat' split
  all_goals simp
@[simp] theorem State.moveCursor_log (slot : Slot) (serial : Nat) : (s.moveCursor slot serial).log = s.log := by
  simp only [State.moveCursor]; repeat' split
  all_goals simp
@[simp] theorem State.moveCursor_lanes (slot : Slot) (serial : Nat) : (s.moveCursor slot serial).lanes = s.lanes := by
  simp only [State.moveCursor]; repeat' split
  all_goals simp
@[simp] theorem State.moveCursor_till (slot : Slot) (serial : Nat) : (s.moveCursor slot serial).till = s.till := by
  simp only [State.moveCursor]; repeat' split
  all_goals simp
@[simp] theorem State.moveCursor_progress (slot : Slot) (serial : Nat) : (s.moveCursor slot serial).progress = s.progress := by
  simp only [State.moveCursor]; repeat' split
  all_goals simp
@[simp] theorem State.moveCursor_controllers (slot : Slot) (serial : Nat) : (s.moveCursor slot serial).controllers = s.controllers := by
  simp only [State.moveCursor]; repeat' split
  all_goals simp

@[simp] theorem State.countKind_settings (n : SessionId) (k : Kind) (f : KindCounters → KindCounters) : (s.countKind n k f).settings = s.settings := by
  simp [State.countKind]
@[simp] theorem State.countKind_draws (n : SessionId) (k : Kind) (f : KindCounters → KindCounters) : (s.countKind n k f).draws = s.draws := by
  simp [State.countKind]
@[simp] theorem State.countKind_drawers (n : SessionId) (k : Kind) (f : KindCounters → KindCounters) : (s.countKind n k f).drawers = s.drawers := by
  simp [State.countKind]
@[simp] theorem State.countKind_log (n : SessionId) (k : Kind) (f : KindCounters → KindCounters) : (s.countKind n k f).log = s.log := by
  simp [State.countKind]
@[simp] theorem State.countKind_lanes (n : SessionId) (k : Kind) (f : KindCounters → KindCounters) : (s.countKind n k f).lanes = s.lanes := by
  simp [State.countKind]
@[simp] theorem State.countKind_stock (n : SessionId) (k : Kind) (f : KindCounters → KindCounters) : (s.countKind n k f).stock = s.stock := by
  simp [State.countKind]
@[simp] theorem State.countKind_progress (n : SessionId) (k : Kind) (f : KindCounters → KindCounters) : (s.countKind n k f).progress = s.progress := by
  simp [State.countKind]
@[simp] theorem State.countKind_controllers (n : SessionId) (k : Kind) (f : KindCounters → KindCounters) : (s.countKind n k f).controllers = s.controllers := by
  simp [State.countKind]

@[simp] theorem State.updateEstimate_settings (n : SessionId) (e : Nat) (d : DrawerState) : (s.updateEstimate n e d).settings = s.settings := by
  simp only [State.updateEstimate]; repeat' split
  all_goals simp
@[simp] theorem State.updateEstimate_draws (n : SessionId) (e : Nat) (d : DrawerState) : (s.updateEstimate n e d).draws = s.draws := by
  simp only [State.updateEstimate]; repeat' split
  all_goals simp
@[simp] theorem State.updateEstimate_drawers (n : SessionId) (e : Nat) (d : DrawerState) : (s.updateEstimate n e d).drawers = s.drawers := by
  simp only [State.updateEstimate]; repeat' split
  all_goals simp
@[simp] theorem State.updateEstimate_log (n : SessionId) (e : Nat) (d : DrawerState) : (s.updateEstimate n e d).log = s.log := by
  simp only [State.updateEstimate]; repeat' split
  all_goals simp
@[simp] theorem State.updateEstimate_lanes (n : SessionId) (e : Nat) (d : DrawerState) : (s.updateEstimate n e d).lanes = s.lanes := by
  simp only [State.updateEstimate]; repeat' split
  all_goals simp
@[simp] theorem State.updateEstimate_stock (n : SessionId) (e : Nat) (d : DrawerState) : (s.updateEstimate n e d).stock = s.stock := by
  simp only [State.updateEstimate]; repeat' split
  all_goals simp
@[simp] theorem State.updateEstimate_progress (n : SessionId) (e : Nat) (d : DrawerState) : (s.updateEstimate n e d).progress = s.progress := by
  simp only [State.updateEstimate]; repeat' split
  all_goals simp
@[simp] theorem State.updateEstimate_controllers (n : SessionId) (e : Nat) (d : DrawerState) : (s.updateEstimate n e d).controllers = s.controllers := by
  simp only [State.updateEstimate]; repeat' split
  all_goals simp

@[simp] theorem State.pulse_settings (n : SessionId) : (s.pulse n).settings = s.settings := by
  simp [State.pulse]
@[simp] theorem State.pulse_draws (n : SessionId) : (s.pulse n).draws = s.draws := by
  simp [State.pulse]
@[simp] theorem State.pulse_log (n : SessionId) : (s.pulse n).log = s.log := by
  simp [State.pulse]
@[simp] theorem State.pulse_lanes (n : SessionId) : (s.pulse n).lanes = s.lanes := by
  simp [State.pulse]
@[simp] theorem State.pulse_stock (n : SessionId) : (s.pulse n).stock = s.stock := by
  simp [State.pulse]
@[simp] theorem State.pulse_till (n : SessionId) : (s.pulse n).till = s.till := by
  simp [State.pulse]
@[simp] theorem State.pulse_progress (n : SessionId) : (s.pulse n).progress = s.progress := by
  simp [State.pulse]
@[simp] theorem State.pulse_controllers (n : SessionId) : (s.pulse n).controllers = s.controllers := by
  simp [State.pulse]

@[simp] theorem State.releaseCharge_settings (j : Job) : (s.releaseCharge j).settings = s.settings := by
  simp [State.releaseCharge]
@[simp] theorem State.releaseCharge_draws (j : Job) : (s.releaseCharge j).draws = s.draws := by
  simp [State.releaseCharge]
@[simp] theorem State.releaseCharge_drawers (j : Job) : (s.releaseCharge j).drawers = s.drawers := by
  simp [State.releaseCharge]
@[simp] theorem State.releaseCharge_log (j : Job) : (s.releaseCharge j).log = s.log := by
  simp [State.releaseCharge]
@[simp] theorem State.releaseCharge_lanes (j : Job) : (s.releaseCharge j).lanes = s.lanes := by
  simp [State.releaseCharge]
@[simp] theorem State.releaseCharge_stock (j : Job) : (s.releaseCharge j).stock = s.stock := by
  simp [State.releaseCharge]
@[simp] theorem State.releaseCharge_progress (j : Job) : (s.releaseCharge j).progress = s.progress := by
  simp [State.releaseCharge]
@[simp] theorem State.releaseCharge_controllers (j : Job) : (s.releaseCharge j).controllers = s.controllers := by
  simp [State.releaseCharge]

@[simp] theorem State.failForm_settings (p : PrinterId) (slot : Slot) (first span : Nat) (reason : Reason) : (s.failForm p slot first span reason).settings = s.settings := by
  simp only [State.failForm]; repeat' split
  all_goals simp
@[simp] theorem State.failForm_draws (p : PrinterId) (slot : Slot) (first span : Nat) (reason : Reason) : (s.failForm p slot first span reason).draws = s.draws := by
  simp only [State.failForm]; repeat' split
  all_goals simp
@[simp] theorem State.failForm_drawers (p : PrinterId) (slot : Slot) (first span : Nat) (reason : Reason) : (s.failForm p slot first span reason).drawers = s.drawers := by
  simp only [State.failForm]; repeat' split
  all_goals simp
@[simp] theorem State.failForm_log (p : PrinterId) (slot : Slot) (first span : Nat) (reason : Reason) : (s.failForm p slot first span reason).log = s.log := by
  simp only [State.failForm]; repeat' split
  all_goals simp
@[simp] theorem State.failForm_lanes (p : PrinterId) (slot : Slot) (first span : Nat) (reason : Reason) : (s.failForm p slot first span reason).lanes = s.lanes := by
  simp only [State.failForm]; repeat' split
  all_goals simp
@[simp] theorem State.failForm_controllers (p : PrinterId) (slot : Slot) (first span : Nat) (reason : Reason) : (s.failForm p slot first span reason).controllers = s.controllers := by
  simp only [State.failForm]; repeat' split
  all_goals simp

@[simp] theorem State.undoCoupons_settings (p : PrinterId) (n : SessionId) (k : Kind) (cs : List Coupon) : (s.undoCoupons p n k cs).settings = s.settings := by
  induction cs generalizing s with
  | nil => rfl
  | cons c cs ih => simp [State.undoCoupons, ih]
@[simp] theorem State.undoCoupons_draws (p : PrinterId) (n : SessionId) (k : Kind) (cs : List Coupon) : (s.undoCoupons p n k cs).draws = s.draws := by
  induction cs generalizing s with
  | nil => rfl
  | cons c cs ih => simp [State.undoCoupons, ih]
@[simp] theorem State.undoCoupons_drawers (p : PrinterId) (n : SessionId) (k : Kind) (cs : List Coupon) : (s.undoCoupons p n k cs).drawers = s.drawers := by
  induction cs generalizing s with
  | nil => rfl
  | cons c cs ih => simp [State.undoCoupons, ih]
@[simp] theorem State.undoCoupons_log (p : PrinterId) (n : SessionId) (k : Kind) (cs : List Coupon) : (s.undoCoupons p n k cs).log = s.log := by
  induction cs generalizing s with
  | nil => rfl
  | cons c cs ih => simp [State.undoCoupons, ih]
@[simp] theorem State.undoCoupons_lanes (p : PrinterId) (n : SessionId) (k : Kind) (cs : List Coupon) : (s.undoCoupons p n k cs).lanes = s.lanes := by
  induction cs generalizing s with
  | nil => rfl
  | cons c cs ih => simp [State.undoCoupons, ih]
@[simp] theorem State.undoCoupons_controllers (p : PrinterId) (n : SessionId) (k : Kind) (cs : List Coupon) : (s.undoCoupons p n k cs).controllers = s.controllers := by
  induction cs generalizing s with
  | nil => rfl
  | cons c cs ih => simp [State.undoCoupons, ih]

@[simp] theorem State.loseForm_settings (p : PrinterId) : (s.loseForm p).settings = s.settings := by
  simp only [State.loseForm]; repeat' split
  all_goals simp
@[simp] theorem State.loseForm_draws (p : PrinterId) : (s.loseForm p).draws = s.draws := by
  simp only [State.loseForm]; repeat' split
  all_goals simp
@[simp] theorem State.loseForm_drawers (p : PrinterId) : (s.loseForm p).drawers = s.drawers := by
  simp only [State.loseForm]; repeat' split
  all_goals simp
@[simp] theorem State.loseForm_log (p : PrinterId) : (s.loseForm p).log = s.log := by
  simp only [State.loseForm]; repeat' split
  all_goals simp
@[simp] theorem State.loseForm_lanes (p : PrinterId) : (s.loseForm p).lanes = s.lanes := by
  simp only [State.loseForm]; repeat' split
  all_goals simp
@[simp] theorem State.loseForm_controllers (p : PrinterId) : (s.loseForm p).controllers = s.controllers := by
  simp only [State.loseForm]; repeat' split
  all_goals simp

@[simp] theorem State.dropJob_settings (p : PrinterId) : (s.dropJob p).settings = s.settings := by
  simp only [State.dropJob]; repeat' split
  all_goals simp
@[simp] theorem State.dropJob_draws (p : PrinterId) : (s.dropJob p).draws = s.draws := by
  simp only [State.dropJob]; repeat' split
  all_goals simp
@[simp] theorem State.dropJob_drawers (p : PrinterId) : (s.dropJob p).drawers = s.drawers := by
  simp only [State.dropJob]; repeat' split
  all_goals simp
@[simp] theorem State.dropJob_log (p : PrinterId) : (s.dropJob p).log = s.log := by
  simp only [State.dropJob]; repeat' split
  all_goals simp
@[simp] theorem State.dropJob_lanes (p : PrinterId) : (s.dropJob p).lanes = s.lanes := by
  simp only [State.dropJob]; repeat' split
  all_goals simp
@[simp] theorem State.dropJob_till (p : PrinterId) : (s.dropJob p).till = s.till := by
  simp only [State.dropJob]; repeat' split
  all_goals simp
@[simp] theorem State.dropJob_controllers (p : PrinterId) : (s.dropJob p).controllers = s.controllers := by
  simp only [State.dropJob]; repeat' split
  all_goals simp

@[simp] theorem State.handOver_settings (o : Outcome) : (s.handOver o).settings = s.settings := by
  simp only [State.handOver]; repeat' split
  all_goals simp
@[simp] theorem State.handOver_draws (o : Outcome) : (s.handOver o).draws = s.draws := by
  simp only [State.handOver]; repeat' split
  all_goals simp
@[simp] theorem State.handOver_drawers (o : Outcome) : (s.handOver o).drawers = s.drawers := by
  simp only [State.handOver]; repeat' split
  all_goals simp
@[simp] theorem State.handOver_log (o : Outcome) : (s.handOver o).log = s.log := by
  simp only [State.handOver]; repeat' split
  all_goals simp
@[simp] theorem State.handOver_lanes (o : Outcome) : (s.handOver o).lanes = s.lanes := by
  simp only [State.handOver]; repeat' split
  all_goals simp
@[simp] theorem State.handOver_stock (o : Outcome) : (s.handOver o).stock = s.stock := by
  simp only [State.handOver]; repeat' split
  all_goals simp
@[simp] theorem State.handOver_till (o : Outcome) : (s.handOver o).till = s.till := by
  simp only [State.handOver]; repeat' split
  all_goals simp
@[simp] theorem State.handOver_progress (o : Outcome) : (s.handOver o).progress = s.progress := by
  simp only [State.handOver]; repeat' split
  all_goals simp
@[simp] theorem State.handOver_controllers (o : Outcome) : (s.handOver o).controllers = s.controllers := by
  simp only [State.handOver]; repeat' split
  all_goals simp

@[simp] theorem State.endJob_settings (p : PrinterId) (r : JobResult) : (s.endJob p r).settings = s.settings := by
  simp only [State.endJob]; repeat' split
  all_goals simp
@[simp] theorem State.endJob_draws (p : PrinterId) (r : JobResult) : (s.endJob p r).draws = s.draws := by
  simp only [State.endJob]; repeat' split
  all_goals simp
@[simp] theorem State.endJob_drawers (p : PrinterId) (r : JobResult) : (s.endJob p r).drawers = s.drawers := by
  simp only [State.endJob]; repeat' split
  all_goals simp
@[simp] theorem State.endJob_log (p : PrinterId) (r : JobResult) : (s.endJob p r).log = s.log := by
  simp only [State.endJob]; repeat' split
  all_goals simp
@[simp] theorem State.endJob_lanes (p : PrinterId) (r : JobResult) : (s.endJob p r).lanes = s.lanes := by
  simp only [State.endJob]; repeat' split
  all_goals simp
@[simp] theorem State.endJob_controllers (p : PrinterId) (r : JobResult) : (s.endJob p r).controllers = s.controllers := by
  simp only [State.endJob]; repeat' split
  all_goals simp

@[simp] theorem State.settleTill_settings (j : Job) : (s.settleTill j).settings = s.settings := by
  simp only [State.settleTill]; repeat' split
  all_goals simp
@[simp] theorem State.settleTill_draws (j : Job) : (s.settleTill j).draws = s.draws := by
  simp only [State.settleTill]; repeat' split
  all_goals simp
@[simp] theorem State.settleTill_log (j : Job) : (s.settleTill j).log = s.log := by
  simp only [State.settleTill]; repeat' split
  all_goals simp
@[simp] theorem State.settleTill_lanes (j : Job) : (s.settleTill j).lanes = s.lanes := by
  simp only [State.settleTill]; repeat' split
  all_goals simp
@[simp] theorem State.settleTill_stock (j : Job) : (s.settleTill j).stock = s.stock := by
  simp only [State.settleTill]; repeat' split
  all_goals simp
@[simp] theorem State.settleTill_progress (j : Job) : (s.settleTill j).progress = s.progress := by
  simp only [State.settleTill]; repeat' split
  all_goals simp
@[simp] theorem State.settleTill_controllers (j : Job) : (s.settleTill j).controllers = s.controllers := by
  simp only [State.settleTill]; repeat' split
  all_goals simp

@[simp] theorem State.settleJob_settings (p : PrinterId) : (s.settleJob p).settings = s.settings := by
  simp only [State.settleJob]; repeat' split
  all_goals simp
@[simp] theorem State.settleJob_draws (p : PrinterId) : (s.settleJob p).draws = s.draws := by
  simp only [State.settleJob]; repeat' split
  all_goals simp
@[simp] theorem State.settleJob_log (p : PrinterId) : (s.settleJob p).log = s.log := by
  simp only [State.settleJob]; repeat' split
  all_goals simp
@[simp] theorem State.settleJob_lanes (p : PrinterId) : (s.settleJob p).lanes = s.lanes := by
  simp only [State.settleJob]; repeat' split
  all_goals simp
@[simp] theorem State.settleJob_controllers (p : PrinterId) : (s.settleJob p).controllers = s.controllers := by
  simp only [State.settleJob]; repeat' split
  all_goals simp

@[simp] theorem State.openFault_settings (p : PrinterId) (k : FaultKind) (x : Option StripRead) : (s.openFault p k x).settings = s.settings := by
  simp only [State.openFault]; repeat' split
  all_goals simp
@[simp] theorem State.openFault_draws (p : PrinterId) (k : FaultKind) (x : Option StripRead) : (s.openFault p k x).draws = s.draws := by
  simp only [State.openFault]; repeat' split
  all_goals simp
@[simp] theorem State.openFault_drawers (p : PrinterId) (k : FaultKind) (x : Option StripRead) : (s.openFault p k x).drawers = s.drawers := by
  simp only [State.openFault]; repeat' split
  all_goals simp
@[simp] theorem State.openFault_lanes (p : PrinterId) (k : FaultKind) (x : Option StripRead) : (s.openFault p k x).lanes = s.lanes := by
  simp only [State.openFault]; repeat' split
  all_goals simp
@[simp] theorem State.openFault_stock (p : PrinterId) (k : FaultKind) (x : Option StripRead) : (s.openFault p k x).stock = s.stock := by
  simp only [State.openFault]; repeat' split
  all_goals simp
@[simp] theorem State.openFault_till (p : PrinterId) (k : FaultKind) (x : Option StripRead) : (s.openFault p k x).till = s.till := by
  simp only [State.openFault]; repeat' split
  all_goals simp
@[simp] theorem State.openFault_progress (p : PrinterId) (k : FaultKind) (x : Option StripRead) : (s.openFault p k x).progress = s.progress := by
  simp only [State.openFault]; repeat' split
  all_goals simp
@[simp] theorem State.openFault_controllers (p : PrinterId) (k : FaultKind) (x : Option StripRead) : (s.openFault p k x).controllers = s.controllers := by
  simp only [State.openFault]; repeat' split
  all_goals simp

@[simp] theorem State.setEntries_settings (entries : List FaultEntry) : (s.setEntries entries).settings = s.settings := by
  simp only [State.setEntries]; split <;> simp
@[simp] theorem State.setEntries_draws (entries : List FaultEntry) : (s.setEntries entries).draws = s.draws := by
  simp only [State.setEntries]; split <;> simp
@[simp] theorem State.setEntries_drawers (entries : List FaultEntry) : (s.setEntries entries).drawers = s.drawers := by
  simp only [State.setEntries]; split <;> simp
@[simp] theorem State.setEntries_lanes (entries : List FaultEntry) : (s.setEntries entries).lanes = s.lanes := by
  simp only [State.setEntries]; split <;> simp
@[simp] theorem State.setEntries_stock (entries : List FaultEntry) : (s.setEntries entries).stock = s.stock := by
  simp only [State.setEntries]; split <;> simp
@[simp] theorem State.setEntries_till (entries : List FaultEntry) : (s.setEntries entries).till = s.till := by
  simp only [State.setEntries]; split <;> simp
@[simp] theorem State.setEntries_progress (entries : List FaultEntry) : (s.setEntries entries).progress = s.progress := by
  simp only [State.setEntries]; split <;> simp
@[simp] theorem State.setEntries_controllers (entries : List FaultEntry) : (s.setEntries entries).controllers = s.controllers := by
  simp only [State.setEntries]; split <;> simp
/-- The log after its entries are replaced, whether or not that was an update. -/
@[simp] theorem State.setEntries_log (entries : List FaultEntry) :
    (s.setEntries entries).log = { s.log with entries := entries } := by
  simp only [State.setEntries]; split <;> simp_all

/-- Entries left as they are change nothing at all. -/
@[simp] theorem State.setEntries_self : s.setEntries s.log.entries = s := by simp [State.setEntries]

/-- Entries that differ are one update of the log. -/
theorem State.setEntries_changed {entries : List FaultEntry} (h : entries ≠ s.log.entries) :
    s.setEntries entries = s.putLog { s.log with entries := entries } := by simp [State.setEntries, h]

@[simp] theorem State.mapEntry_settings (p : PrinterId) (f : FaultEntry → FaultEntry) : (s.mapEntry p f).settings = s.settings := by
  simp [State.mapEntry]
@[simp] theorem State.mapEntry_draws (p : PrinterId) (f : FaultEntry → FaultEntry) : (s.mapEntry p f).draws = s.draws := by
  simp [State.mapEntry]
@[simp] theorem State.mapEntry_drawers (p : PrinterId) (f : FaultEntry → FaultEntry) : (s.mapEntry p f).drawers = s.drawers := by
  simp [State.mapEntry]
@[simp] theorem State.mapEntry_lanes (p : PrinterId) (f : FaultEntry → FaultEntry) : (s.mapEntry p f).lanes = s.lanes := by
  simp [State.mapEntry]
@[simp] theorem State.mapEntry_stock (p : PrinterId) (f : FaultEntry → FaultEntry) : (s.mapEntry p f).stock = s.stock := by
  simp [State.mapEntry]
@[simp] theorem State.mapEntry_till (p : PrinterId) (f : FaultEntry → FaultEntry) : (s.mapEntry p f).till = s.till := by
  simp [State.mapEntry]
@[simp] theorem State.mapEntry_progress (p : PrinterId) (f : FaultEntry → FaultEntry) : (s.mapEntry p f).progress = s.progress := by
  simp [State.mapEntry]
@[simp] theorem State.mapEntry_controllers (p : PrinterId) (f : FaultEntry → FaultEntry) : (s.mapEntry p f).controllers = s.controllers := by
  simp [State.mapEntry]

@[simp] theorem State.enterFault_settings (p : PrinterId) (k : FaultKind) (x : Option StripRead) : (s.enterFault p k x).settings = s.settings := by
  simp only [State.enterFault]; repeat' split
  all_goals simp
@[simp] theorem State.enterFault_draws (p : PrinterId) (k : FaultKind) (x : Option StripRead) : (s.enterFault p k x).draws = s.draws := by
  simp only [State.enterFault]; repeat' split
  all_goals simp
@[simp] theorem State.enterFault_drawers (p : PrinterId) (k : FaultKind) (x : Option StripRead) : (s.enterFault p k x).drawers = s.drawers := by
  simp only [State.enterFault]; repeat' split
  all_goals simp
@[simp] theorem State.enterFault_lanes (p : PrinterId) (k : FaultKind) (x : Option StripRead) : (s.enterFault p k x).lanes = s.lanes := by
  simp only [State.enterFault]; repeat' split
  all_goals simp
@[simp] theorem State.enterFault_stock (p : PrinterId) (k : FaultKind) (x : Option StripRead) : (s.enterFault p k x).stock = s.stock := by
  simp only [State.enterFault]; repeat' split
  all_goals simp
@[simp] theorem State.enterFault_till (p : PrinterId) (k : FaultKind) (x : Option StripRead) : (s.enterFault p k x).till = s.till := by
  simp only [State.enterFault]; repeat' split
  all_goals simp
@[simp] theorem State.enterFault_progress (p : PrinterId) (k : FaultKind) (x : Option StripRead) : (s.enterFault p k x).progress = s.progress := by
  simp only [State.enterFault]; repeat' split
  all_goals simp
@[simp] theorem State.enterFault_controllers (p : PrinterId) (k : FaultKind) (x : Option StripRead) : (s.enterFault p k x).controllers = s.controllers := by
  simp only [State.enterFault]; repeat' split
  all_goals simp

@[simp] theorem State.clearEntry_settings (p : PrinterId) : (s.clearEntry p).settings = s.settings := by
  simp only [State.clearEntry]; repeat' split
  all_goals simp
@[simp] theorem State.clearEntry_draws (p : PrinterId) : (s.clearEntry p).draws = s.draws := by
  simp only [State.clearEntry]; repeat' split
  all_goals simp
@[simp] theorem State.clearEntry_drawers (p : PrinterId) : (s.clearEntry p).drawers = s.drawers := by
  simp only [State.clearEntry]; repeat' split
  all_goals simp
@[simp] theorem State.clearEntry_lanes (p : PrinterId) : (s.clearEntry p).lanes = s.lanes := by
  simp only [State.clearEntry]; repeat' split
  all_goals simp
@[simp] theorem State.clearEntry_stock (p : PrinterId) : (s.clearEntry p).stock = s.stock := by
  simp only [State.clearEntry]; repeat' split
  all_goals simp
@[simp] theorem State.clearEntry_till (p : PrinterId) : (s.clearEntry p).till = s.till := by
  simp only [State.clearEntry]; repeat' split
  all_goals simp
@[simp] theorem State.clearEntry_progress (p : PrinterId) : (s.clearEntry p).progress = s.progress := by
  simp only [State.clearEntry]; repeat' split
  all_goals simp
@[simp] theorem State.clearEntry_controllers (p : PrinterId) : (s.clearEntry p).controllers = s.controllers := by
  simp only [State.clearEntry]; repeat' split
  all_goals simp

@[simp] theorem State.mapCtl_settings (p : PrinterId) (f : Controller → Controller) : (s.mapCtl p f).settings = s.settings := by
  simp [State.mapCtl]
@[simp] theorem State.mapCtl_draws (p : PrinterId) (f : Controller → Controller) : (s.mapCtl p f).draws = s.draws := by
  simp [State.mapCtl]
@[simp] theorem State.mapCtl_drawers (p : PrinterId) (f : Controller → Controller) : (s.mapCtl p f).drawers = s.drawers := by
  simp [State.mapCtl]
@[simp] theorem State.mapCtl_log (p : PrinterId) (f : Controller → Controller) : (s.mapCtl p f).log = s.log := by
  simp [State.mapCtl]
@[simp] theorem State.mapCtl_lanes (p : PrinterId) (f : Controller → Controller) : (s.mapCtl p f).lanes = s.lanes := by
  simp [State.mapCtl]
@[simp] theorem State.mapCtl_stock (p : PrinterId) (f : Controller → Controller) : (s.mapCtl p f).stock = s.stock := by
  simp [State.mapCtl]
@[simp] theorem State.mapCtl_till (p : PrinterId) (f : Controller → Controller) : (s.mapCtl p f).till = s.till := by
  simp [State.mapCtl]
@[simp] theorem State.mapCtl_progress (p : PrinterId) (f : Controller → Controller) : (s.mapCtl p f).progress = s.progress := by
  simp [State.mapCtl]

@[simp] theorem State.setPrinterState_settings (p : PrinterId) (st : PrinterState) : (s.setPrinterState p st).settings = s.settings := by
  simp only [State.setPrinterState]; repeat' split
  all_goals simp
@[simp] theorem State.setPrinterState_draws (p : PrinterId) (st : PrinterState) : (s.setPrinterState p st).draws = s.draws := by
  simp only [State.setPrinterState]; repeat' split
  all_goals simp
@[simp] theorem State.setPrinterState_drawers (p : PrinterId) (st : PrinterState) : (s.setPrinterState p st).drawers = s.drawers := by
  simp only [State.setPrinterState]; repeat' split
  all_goals simp
@[simp] theorem State.setPrinterState_log (p : PrinterId) (st : PrinterState) : (s.setPrinterState p st).log = s.log := by
  simp only [State.setPrinterState]; repeat' split
  all_goals simp
@[simp] theorem State.setPrinterState_lanes (p : PrinterId) (st : PrinterState) : (s.setPrinterState p st).lanes = s.lanes := by
  simp only [State.setPrinterState]; repeat' split
  all_goals simp
@[simp] theorem State.setPrinterState_stock (p : PrinterId) (st : PrinterState) : (s.setPrinterState p st).stock = s.stock := by
  simp only [State.setPrinterState]; repeat' split
  all_goals simp
@[simp] theorem State.setPrinterState_till (p : PrinterId) (st : PrinterState) : (s.setPrinterState p st).till = s.till := by
  simp only [State.setPrinterState]; repeat' split
  all_goals simp
@[simp] theorem State.setPrinterState_progress (p : PrinterId) (st : PrinterState) : (s.setPrinterState p st).progress = s.progress := by
  simp only [State.setPrinterState]; repeat' split
  all_goals simp

/-- What sending an operation does to its controller: it is outstanding, once as R105 has it, and its frame is on the line
(R104, R105, R204). -/
theorem State.transmit_ctl (p : PrinterId) (o : Operation) (w : Purpose) : (s.transmit p o w).ctl p =
    { s.ctl p with outstanding := some ⟨o, w, (s.ctl p).sendsOnce o⟩, sending := some o.frame } := by
  simp [State.transmit, State.mapCtl, Controller.puts]
@[simp] theorem State.transmit_settings (p : PrinterId) (o : Operation) (w : Purpose) : (s.transmit p o w).settings = s.settings := by
  simp [State.transmit]
@[simp] theorem State.transmit_draws (p : PrinterId) (o : Operation) (w : Purpose) : (s.transmit p o w).draws = s.draws := by
  simp [State.transmit]
@[simp] theorem State.transmit_drawers (p : PrinterId) (o : Operation) (w : Purpose) : (s.transmit p o w).drawers = s.drawers := by
  simp [State.transmit]
@[simp] theorem State.transmit_log (p : PrinterId) (o : Operation) (w : Purpose) : (s.transmit p o w).log = s.log := by
  simp [State.transmit]
@[simp] theorem State.transmit_lanes (p : PrinterId) (o : Operation) (w : Purpose) : (s.transmit p o w).lanes = s.lanes := by
  simp [State.transmit]
@[simp] theorem State.transmit_stock (p : PrinterId) (o : Operation) (w : Purpose) : (s.transmit p o w).stock = s.stock := by
  simp [State.transmit]
@[simp] theorem State.transmit_till (p : PrinterId) (o : Operation) (w : Purpose) : (s.transmit p o w).till = s.till := by
  simp [State.transmit]
@[simp] theorem State.transmit_progress (p : PrinterId) (o : Operation) (w : Purpose) : (s.transmit p o w).progress = s.progress := by
  simp [State.transmit]

@[simp] theorem State.sendOp_settings (p : PrinterId) (o : Operation) (w : Purpose) : (s.sendOp p o w).settings = s.settings := by
  simp only [State.sendOp]; repeat' split
  all_goals simp
@[simp] theorem State.sendOp_draws (p : PrinterId) (o : Operation) (w : Purpose) : (s.sendOp p o w).draws = s.draws := by
  simp only [State.sendOp]; repeat' split
  all_goals simp
@[simp] theorem State.sendOp_drawers (p : PrinterId) (o : Operation) (w : Purpose) : (s.sendOp p o w).drawers = s.drawers := by
  simp only [State.sendOp]; repeat' split
  all_goals simp
@[simp] theorem State.sendOp_log (p : PrinterId) (o : Operation) (w : Purpose) : (s.sendOp p o w).log = s.log := by
  simp only [State.sendOp]; repeat' split
  all_goals simp
@[simp] theorem State.sendOp_lanes (p : PrinterId) (o : Operation) (w : Purpose) : (s.sendOp p o w).lanes = s.lanes := by
  simp only [State.sendOp]; repeat' split
  all_goals simp
@[simp] theorem State.sendOp_stock (p : PrinterId) (o : Operation) (w : Purpose) : (s.sendOp p o w).stock = s.stock := by
  simp only [State.sendOp]; repeat' split
  all_goals simp
@[simp] theorem State.sendOp_till (p : PrinterId) (o : Operation) (w : Purpose) : (s.sendOp p o w).till = s.till := by
  simp only [State.sendOp]; repeat' split
  all_goals simp
@[simp] theorem State.sendOp_progress (p : PrinterId) (o : Operation) (w : Purpose) : (s.sendOp p o w).progress = s.progress := by
  simp only [State.sendOp]; repeat' split
  all_goals simp

@[simp] theorem State.suspend_settings (p : PrinterId) : (s.suspend p).settings = s.settings := by
  simp [State.suspend]
@[simp] theorem State.suspend_draws (p : PrinterId) : (s.suspend p).draws = s.draws := by
  simp [State.suspend]
@[simp] theorem State.suspend_drawers (p : PrinterId) : (s.suspend p).drawers = s.drawers := by
  simp [State.suspend]
@[simp] theorem State.suspend_log (p : PrinterId) : (s.suspend p).log = s.log := by
  simp [State.suspend]
@[simp] theorem State.suspend_lanes (p : PrinterId) : (s.suspend p).lanes = s.lanes := by
  simp [State.suspend]
@[simp] theorem State.suspend_stock (p : PrinterId) : (s.suspend p).stock = s.stock := by
  simp [State.suspend]
@[simp] theorem State.suspend_till (p : PrinterId) : (s.suspend p).till = s.till := by
  simp [State.suspend]
@[simp] theorem State.suspend_controllers (p : PrinterId) : (s.suspend p).controllers = s.controllers := by
  simp [State.suspend]

@[simp] theorem State.hold_settings (p : PrinterId) (k : FaultKind) (x : Option StripRead) : (s.hold p k x).settings = s.settings := by
  simp [State.hold]
@[simp] theorem State.hold_draws (p : PrinterId) (k : FaultKind) (x : Option StripRead) : (s.hold p k x).draws = s.draws := by
  simp [State.hold]
@[simp] theorem State.hold_drawers (p : PrinterId) (k : FaultKind) (x : Option StripRead) : (s.hold p k x).drawers = s.drawers := by
  simp [State.hold]
@[simp] theorem State.hold_lanes (p : PrinterId) (k : FaultKind) (x : Option StripRead) : (s.hold p k x).lanes = s.lanes := by
  simp [State.hold]
@[simp] theorem State.hold_stock (p : PrinterId) (k : FaultKind) (x : Option StripRead) : (s.hold p k x).stock = s.stock := by
  simp [State.hold]
@[simp] theorem State.hold_till (p : PrinterId) (k : FaultKind) (x : Option StripRead) : (s.hold p k x).till = s.till := by
  simp [State.hold]
@[simp] theorem State.hold_progress (p : PrinterId) (k : FaultKind) (x : Option StripRead) : (s.hold p k x).progress = s.progress := by
  simp [State.hold]

@[simp] theorem State.endAtBoundary_settings (p : PrinterId) : (s.endAtBoundary p).settings = s.settings := by
  simp only [State.endAtBoundary]; repeat' split
  all_goals simp
@[simp] theorem State.endAtBoundary_draws (p : PrinterId) : (s.endAtBoundary p).draws = s.draws := by
  simp only [State.endAtBoundary]; repeat' split
  all_goals simp
@[simp] theorem State.endAtBoundary_drawers (p : PrinterId) : (s.endAtBoundary p).drawers = s.drawers := by
  simp only [State.endAtBoundary]; repeat' split
  all_goals simp
@[simp] theorem State.endAtBoundary_log (p : PrinterId) : (s.endAtBoundary p).log = s.log := by
  simp only [State.endAtBoundary]; repeat' split
  all_goals simp
@[simp] theorem State.endAtBoundary_lanes (p : PrinterId) : (s.endAtBoundary p).lanes = s.lanes := by
  simp only [State.endAtBoundary]; repeat' split
  all_goals simp
@[simp] theorem State.endAtBoundary_controllers (p : PrinterId) : (s.endAtBoundary p).controllers = s.controllers := by
  simp only [State.endAtBoundary]; repeat' split
  all_goals simp

@[simp] theorem State.spoilForm_settings (p : PrinterId) : (s.spoilForm p).settings = s.settings := by
  simp only [State.spoilForm]; repeat' split
  all_goals simp
@[simp] theorem State.spoilForm_draws (p : PrinterId) : (s.spoilForm p).draws = s.draws := by
  simp only [State.spoilForm]; repeat' split
  all_goals simp
@[simp] theorem State.spoilForm_drawers (p : PrinterId) : (s.spoilForm p).drawers = s.drawers := by
  simp only [State.spoilForm]; repeat' split
  all_goals simp
@[simp] theorem State.spoilForm_log (p : PrinterId) : (s.spoilForm p).log = s.log := by
  simp only [State.spoilForm]; repeat' split
  all_goals simp
@[simp] theorem State.spoilForm_lanes (p : PrinterId) : (s.spoilForm p).lanes = s.lanes := by
  simp only [State.spoilForm]; repeat' split
  all_goals simp

@[simp] theorem State.faultLoad_settings (p : PrinterId) : (s.faultLoad p).settings = s.settings := by
  simp only [State.faultLoad]; repeat' split
  all_goals simp
@[simp] theorem State.faultLoad_draws (p : PrinterId) : (s.faultLoad p).draws = s.draws := by
  simp only [State.faultLoad]; repeat' split
  all_goals simp
@[simp] theorem State.faultLoad_drawers (p : PrinterId) : (s.faultLoad p).drawers = s.drawers := by
  simp only [State.faultLoad]; repeat' split
  all_goals simp
@[simp] theorem State.faultLoad_log (p : PrinterId) : (s.faultLoad p).log = s.log := by
  simp only [State.faultLoad]; repeat' split
  all_goals simp
@[simp] theorem State.faultLoad_lanes (p : PrinterId) : (s.faultLoad p).lanes = s.lanes := by
  simp only [State.faultLoad]; repeat' split
  all_goals simp
@[simp] theorem State.faultLoad_stock (p : PrinterId) : (s.faultLoad p).stock = s.stock := by
  simp only [State.faultLoad]; repeat' split
  all_goals simp
@[simp] theorem State.faultLoad_till (p : PrinterId) : (s.faultLoad p).till = s.till := by
  simp only [State.faultLoad]; repeat' split
  all_goals simp
@[simp] theorem State.faultLoad_progress (p : PrinterId) : (s.faultLoad p).progress = s.progress := by
  simp only [State.faultLoad]; repeat' split
  all_goals simp

@[simp] theorem State.physicalFault_settings (p : PrinterId) (k : FaultKind) : (s.physicalFault p k).settings = s.settings := by
  simp only [State.physicalFault]; repeat' split
  all_goals simp
@[simp] theorem State.physicalFault_draws (p : PrinterId) (k : FaultKind) : (s.physicalFault p k).draws = s.draws := by
  simp only [State.physicalFault]; repeat' split
  all_goals simp
@[simp] theorem State.physicalFault_drawers (p : PrinterId) (k : FaultKind) : (s.physicalFault p k).drawers = s.drawers := by
  simp only [State.physicalFault]; repeat' split
  all_goals simp
@[simp] theorem State.physicalFault_lanes (p : PrinterId) (k : FaultKind) : (s.physicalFault p k).lanes = s.lanes := by
  simp only [State.physicalFault]; repeat' split
  all_goals simp

@[simp] theorem State.clearFault_settings (p : PrinterId) : (s.clearFault p).settings = s.settings := by
  simp only [State.clearFault]; repeat' split
  all_goals simp
@[simp] theorem State.clearFault_draws (p : PrinterId) : (s.clearFault p).draws = s.draws := by
  simp only [State.clearFault]; repeat' split
  all_goals simp
@[simp] theorem State.clearFault_drawers (p : PrinterId) : (s.clearFault p).drawers = s.drawers := by
  simp only [State.clearFault]; repeat' split
  all_goals simp
@[simp] theorem State.clearFault_lanes (p : PrinterId) : (s.clearFault p).lanes = s.lanes := by
  simp only [State.clearFault]; repeat' split
  all_goals simp
@[simp] theorem State.clearFault_stock (p : PrinterId) : (s.clearFault p).stock = s.stock := by
  simp only [State.clearFault]; repeat' split
  all_goals simp
@[simp] theorem State.clearFault_till (p : PrinterId) : (s.clearFault p).till = s.till := by
  simp only [State.clearFault]; repeat' split
  all_goals simp
@[simp] theorem State.clearFault_progress (p : PrinterId) : (s.clearFault p).progress = s.progress := by
  simp only [State.clearFault]; repeat' split
  all_goals simp

@[simp] theorem State.physicalFaults_settings (p : PrinterId) (ks : List FaultKind) :
    (ks.foldl (fun t k => t.physicalFault p k) s).settings = s.settings := by
  induction ks generalizing s with
  | nil => rfl
  | cons k ks ih => simp [ih]
@[simp] theorem State.physicalFaults_draws (p : PrinterId) (ks : List FaultKind) :
    (ks.foldl (fun t k => t.physicalFault p k) s).draws = s.draws := by
  induction ks generalizing s with
  | nil => rfl
  | cons k ks ih => simp [ih]
@[simp] theorem State.physicalFaults_drawers (p : PrinterId) (ks : List FaultKind) :
    (ks.foldl (fun t k => t.physicalFault p k) s).drawers = s.drawers := by
  induction ks generalizing s with
  | nil => rfl
  | cons k ks ih => simp [ih]
@[simp] theorem State.physicalFaults_lanes (p : PrinterId) (ks : List FaultKind) :
    (ks.foldl (fun t k => t.physicalFault p k) s).lanes = s.lanes := by
  induction ks generalizing s with
  | nil => rfl
  | cons k ks ih => simp [ih]

@[simp] theorem State.judgeSet_settings (p : PrinterId) (x : Sensors) (b : Bool) : (s.judgeSet p x b).settings = s.settings := by
  simp only [State.judgeSet]; repeat' split
  all_goals simp
@[simp] theorem State.judgeSet_draws (p : PrinterId) (x : Sensors) (b : Bool) : (s.judgeSet p x b).draws = s.draws := by
  simp only [State.judgeSet]; repeat' split
  all_goals simp
@[simp] theorem State.judgeSet_drawers (p : PrinterId) (x : Sensors) (b : Bool) : (s.judgeSet p x b).drawers = s.drawers := by
  simp only [State.judgeSet]; repeat' split
  all_goals simp
@[simp] theorem State.judgeSet_lanes (p : PrinterId) (x : Sensors) (b : Bool) : (s.judgeSet p x b).lanes = s.lanes := by
  simp only [State.judgeSet]; repeat' split
  all_goals simp

@[simp] theorem State.finishReset_settings (p : PrinterId) : (s.finishReset p).settings = s.settings := by
  simp only [State.finishReset]; repeat' split
  all_goals simp
@[simp] theorem State.finishReset_draws (p : PrinterId) : (s.finishReset p).draws = s.draws := by
  simp only [State.finishReset]; repeat' split
  all_goals simp
@[simp] theorem State.finishReset_drawers (p : PrinterId) : (s.finishReset p).drawers = s.drawers := by
  simp only [State.finishReset]; repeat' split
  all_goals simp
@[simp] theorem State.finishReset_log (p : PrinterId) : (s.finishReset p).log = s.log := by
  simp only [State.finishReset]; repeat' split
  all_goals simp
@[simp] theorem State.finishReset_lanes (p : PrinterId) : (s.finishReset p).lanes = s.lanes := by
  simp only [State.finishReset]; repeat' split
  all_goals simp
@[simp] theorem State.finishReset_stock (p : PrinterId) : (s.finishReset p).stock = s.stock := by
  simp only [State.finishReset]; repeat' split
  all_goals simp
@[simp] theorem State.finishReset_till (p : PrinterId) : (s.finishReset p).till = s.till := by
  simp only [State.finishReset]; repeat' split
  all_goals simp
@[simp] theorem State.finishReset_progress (p : PrinterId) : (s.finishReset p).progress = s.progress := by
  simp only [State.finishReset]; repeat' split
  all_goals simp

@[simp] theorem State.endAbsent_settings (p : PrinterId) (c : FrameContent) : (s.endAbsent p c).settings = s.settings := by
  simp only [State.endAbsent]; repeat' split
  all_goals simp
@[simp] theorem State.endAbsent_draws (p : PrinterId) (c : FrameContent) : (s.endAbsent p c).draws = s.draws := by
  simp only [State.endAbsent]; repeat' split
  all_goals simp
@[simp] theorem State.endAbsent_drawers (p : PrinterId) (c : FrameContent) : (s.endAbsent p c).drawers = s.drawers := by
  simp only [State.endAbsent]; repeat' split
  all_goals simp
@[simp] theorem State.endAbsent_lanes (p : PrinterId) (c : FrameContent) : (s.endAbsent p c).lanes = s.lanes := by
  simp only [State.endAbsent]; repeat' split
  all_goals simp

@[simp] theorem State.heard_settings (p : PrinterId) (c : FrameContent) (b : Bool) : (s.heard p c b).settings = s.settings := by
  simp only [State.heard]; repeat' split
  all_goals simp
@[simp] theorem State.heard_draws (p : PrinterId) (c : FrameContent) (b : Bool) : (s.heard p c b).draws = s.draws := by
  simp only [State.heard]; repeat' split
  all_goals simp
@[simp] theorem State.heard_drawers (p : PrinterId) (c : FrameContent) (b : Bool) : (s.heard p c b).drawers = s.drawers := by
  simp only [State.heard]; repeat' split
  all_goals simp
@[simp] theorem State.heard_lanes (p : PrinterId) (c : FrameContent) (b : Bool) : (s.heard p c b).lanes = s.lanes := by
  simp only [State.heard]; repeat' split
  all_goals simp

@[simp] theorem State.nextLine_settings (p : PrinterId) : (s.nextLine p).settings = s.settings := by
  simp only [State.nextLine]; repeat' split
  all_goals simp
@[simp] theorem State.nextLine_draws (p : PrinterId) : (s.nextLine p).draws = s.draws := by
  simp only [State.nextLine]; repeat' split
  all_goals simp
@[simp] theorem State.nextLine_drawers (p : PrinterId) : (s.nextLine p).drawers = s.drawers := by
  simp only [State.nextLine]; repeat' split
  all_goals simp
@[simp] theorem State.nextLine_log (p : PrinterId) : (s.nextLine p).log = s.log := by
  simp only [State.nextLine]; repeat' split
  all_goals simp
@[simp] theorem State.nextLine_lanes (p : PrinterId) : (s.nextLine p).lanes = s.lanes := by
  simp only [State.nextLine]; repeat' split
  all_goals simp
@[simp] theorem State.nextLine_stock (p : PrinterId) : (s.nextLine p).stock = s.stock := by
  simp only [State.nextLine]; repeat' split
  all_goals simp
@[simp] theorem State.nextLine_till (p : PrinterId) : (s.nextLine p).till = s.till := by
  simp only [State.nextLine]; repeat' split
  all_goals simp
@[simp] theorem State.nextLine_progress (p : PrinterId) : (s.nextLine p).progress = s.progress := by
  simp only [State.nextLine]; repeat' split
  all_goals simp

@[simp] theorem State.formVerified_settings (p : PrinterId) : (s.formVerified p).settings = s.settings := by
  simp only [State.formVerified]; repeat' split
  all_goals simp
@[simp] theorem State.formVerified_draws (p : PrinterId) : (s.formVerified p).draws = s.draws := by
  simp only [State.formVerified]; repeat' split
  all_goals simp
@[simp] theorem State.formVerified_drawers (p : PrinterId) : (s.formVerified p).drawers = s.drawers := by
  simp only [State.formVerified]; repeat' split
  all_goals simp
@[simp] theorem State.formVerified_log (p : PrinterId) : (s.formVerified p).log = s.log := by
  simp only [State.formVerified]; repeat' split
  all_goals simp
@[simp] theorem State.formVerified_lanes (p : PrinterId) : (s.formVerified p).lanes = s.lanes := by
  simp only [State.formVerified]; repeat' split
  all_goals simp

@[simp] theorem State.feed_settings (p : PrinterId) (k : FormKind) : (s.feed p k).settings = s.settings := by
  simp [State.feed]
@[simp] theorem State.feed_draws (p : PrinterId) (k : FormKind) : (s.feed p k).draws = s.draws := by
  simp [State.feed]
@[simp] theorem State.feed_drawers (p : PrinterId) (k : FormKind) : (s.feed p k).drawers = s.drawers := by
  simp [State.feed]
@[simp] theorem State.feed_log (p : PrinterId) (k : FormKind) : (s.feed p k).log = s.log := by
  simp [State.feed]
@[simp] theorem State.feed_lanes (p : PrinterId) (k : FormKind) : (s.feed p k).lanes = s.lanes := by
  simp [State.feed]
@[simp] theorem State.feed_stock (p : PrinterId) (k : FormKind) : (s.feed p k).stock = s.stock := by
  simp [State.feed]
@[simp] theorem State.feed_till (p : PrinterId) (k : FormKind) : (s.feed p k).till = s.till := by
  simp [State.feed]
@[simp] theorem State.feed_progress (p : PrinterId) (k : FormKind) : (s.feed p k).progress = s.progress := by
  simp [State.feed]

@[simp] theorem State.readForm_settings (p : PrinterId) (k : FormKind) : (s.readForm p k).settings = s.settings := by
  simp [State.readForm]
@[simp] theorem State.readForm_draws (p : PrinterId) (k : FormKind) : (s.readForm p k).draws = s.draws := by
  simp [State.readForm]
@[simp] theorem State.readForm_drawers (p : PrinterId) (k : FormKind) : (s.readForm p k).drawers = s.drawers := by
  simp [State.readForm]
@[simp] theorem State.readForm_log (p : PrinterId) (k : FormKind) : (s.readForm p k).log = s.log := by
  simp [State.readForm]
@[simp] theorem State.readForm_lanes (p : PrinterId) (k : FormKind) : (s.readForm p k).lanes = s.lanes := by
  simp [State.readForm]
@[simp] theorem State.readForm_stock (p : PrinterId) (k : FormKind) : (s.readForm p k).stock = s.stock := by
  simp [State.readForm]
@[simp] theorem State.readForm_till (p : PrinterId) (k : FormKind) : (s.readForm p k).till = s.till := by
  simp [State.readForm]
@[simp] theorem State.readForm_progress (p : PrinterId) (k : FormKind) : (s.readForm p k).progress = s.progress := by
  simp [State.readForm]

@[simp] theorem State.positionForm_settings (p : PrinterId) : (s.positionForm p).settings = s.settings := by
  simp only [State.positionForm]; repeat' split
  all_goals simp
@[simp] theorem State.positionForm_draws (p : PrinterId) : (s.positionForm p).draws = s.draws := by
  simp only [State.positionForm]; repeat' split
  all_goals simp
@[simp] theorem State.positionForm_drawers (p : PrinterId) : (s.positionForm p).drawers = s.drawers := by
  simp only [State.positionForm]; repeat' split
  all_goals simp
@[simp] theorem State.positionForm_log (p : PrinterId) : (s.positionForm p).log = s.log := by
  simp only [State.positionForm]; repeat' split
  all_goals simp
@[simp] theorem State.positionForm_lanes (p : PrinterId) : (s.positionForm p).lanes = s.lanes := by
  simp only [State.positionForm]; repeat' split
  all_goals simp

@[simp] theorem State.startPass_settings (p : PrinterId) : (s.startPass p).settings = s.settings := by
  simp only [State.startPass]; repeat' split
  all_goals simp
@[simp] theorem State.startPass_draws (p : PrinterId) : (s.startPass p).draws = s.draws := by
  simp only [State.startPass]; repeat' split
  all_goals simp
@[simp] theorem State.startPass_drawers (p : PrinterId) : (s.startPass p).drawers = s.drawers := by
  simp only [State.startPass]; repeat' split
  all_goals simp
@[simp] theorem State.startPass_lanes (p : PrinterId) : (s.startPass p).lanes = s.lanes := by
  simp only [State.startPass]; repeat' split
  all_goals simp

@[simp] theorem State.beginLoop_settings (p : PrinterId) : (s.beginLoop p).settings = s.settings := by
  simp only [State.beginLoop]; repeat' split
  all_goals simp
@[simp] theorem State.beginLoop_draws (p : PrinterId) : (s.beginLoop p).draws = s.draws := by
  simp only [State.beginLoop]; repeat' split
  all_goals simp
@[simp] theorem State.beginLoop_drawers (p : PrinterId) : (s.beginLoop p).drawers = s.drawers := by
  simp only [State.beginLoop]; repeat' split
  all_goals simp
@[simp] theorem State.beginLoop_lanes (p : PrinterId) : (s.beginLoop p).lanes = s.lanes := by
  simp only [State.beginLoop]; repeat' split
  all_goals simp

@[simp] theorem State.showLoad_settings (p : PrinterId) (g : Load) (st : PrinterState) : (s.showLoad p g st).settings = s.settings := by
  simp only [State.showLoad]; repeat' split
  all_goals simp
@[simp] theorem State.showLoad_draws (p : PrinterId) (g : Load) (st : PrinterState) : (s.showLoad p g st).draws = s.draws := by
  simp only [State.showLoad]; repeat' split
  all_goals simp
@[simp] theorem State.showLoad_drawers (p : PrinterId) (g : Load) (st : PrinterState) : (s.showLoad p g st).drawers = s.drawers := by
  simp only [State.showLoad]; repeat' split
  all_goals simp
@[simp] theorem State.showLoad_log (p : PrinterId) (g : Load) (st : PrinterState) : (s.showLoad p g st).log = s.log := by
  simp only [State.showLoad]; repeat' split
  all_goals simp
@[simp] theorem State.showLoad_lanes (p : PrinterId) (g : Load) (st : PrinterState) : (s.showLoad p g st).lanes = s.lanes := by
  simp only [State.showLoad]; repeat' split
  all_goals simp
@[simp] theorem State.showLoad_stock (p : PrinterId) (g : Load) (st : PrinterState) : (s.showLoad p g st).stock = s.stock := by
  simp only [State.showLoad]; repeat' split
  all_goals simp
@[simp] theorem State.showLoad_till (p : PrinterId) (g : Load) (st : PrinterState) : (s.showLoad p g st).till = s.till := by
  simp only [State.showLoad]; repeat' split
  all_goals simp
@[simp] theorem State.showLoad_progress (p : PrinterId) (g : Load) (st : PrinterState) : (s.showLoad p g st).progress = s.progress := by
  simp only [State.showLoad]; repeat' split
  all_goals simp

@[simp] theorem State.loadStep_settings (p : PrinterId) : (s.loadStep p).settings = s.settings := by
  simp only [State.loadStep]; repeat' split
  all_goals simp
@[simp] theorem State.loadStep_draws (p : PrinterId) : (s.loadStep p).draws = s.draws := by
  simp only [State.loadStep]; repeat' split
  all_goals simp
@[simp] theorem State.loadStep_drawers (p : PrinterId) : (s.loadStep p).drawers = s.drawers := by
  simp only [State.loadStep]; repeat' split
  all_goals simp
@[simp] theorem State.loadStep_log (p : PrinterId) : (s.loadStep p).log = s.log := by
  simp only [State.loadStep]; repeat' split
  all_goals simp
@[simp] theorem State.loadStep_lanes (p : PrinterId) : (s.loadStep p).lanes = s.lanes := by
  simp only [State.loadStep]; repeat' split
  all_goals simp
@[simp] theorem State.loadStep_stock (p : PrinterId) : (s.loadStep p).stock = s.stock := by
  simp only [State.loadStep]; repeat' split
  all_goals simp
@[simp] theorem State.loadStep_till (p : PrinterId) : (s.loadStep p).till = s.till := by
  simp only [State.loadStep]; repeat' split
  all_goals simp
@[simp] theorem State.loadStep_progress (p : PrinterId) : (s.loadStep p).progress = s.progress := by
  simp only [State.loadStep]; repeat' split
  all_goals simp

/-- A LIFTED head is found LIFTED. -/
theorem Controller.headFound_of_lifted {c : Controller} (h : c.head = .lifted) : c.headFound = .lifted := by
  simp [Controller.headFound, h]

/-- With no LIFT ahead the head is found as it stands. -/
theorem Controller.headFound_of_no_lift {c : Controller} (h : c.liftAhead = false) : c.headFound = c.head := by
  simp [Controller.headFound, h]

@[simp] theorem State.beginLoad_settings (p : PrinterId) (slot : Slot) : (s.beginLoad p slot).settings = s.settings := by
  simp only [State.beginLoad]; repeat' split
  all_goals simp
@[simp] theorem State.beginLoad_draws (p : PrinterId) (slot : Slot) : (s.beginLoad p slot).draws = s.draws := by
  simp only [State.beginLoad]; repeat' split
  all_goals simp
@[simp] theorem State.beginLoad_drawers (p : PrinterId) (slot : Slot) : (s.beginLoad p slot).drawers = s.drawers := by
  simp only [State.beginLoad]; repeat' split
  all_goals simp
@[simp] theorem State.beginLoad_log (p : PrinterId) (slot : Slot) : (s.beginLoad p slot).log = s.log := by
  simp only [State.beginLoad]; repeat' split
  all_goals simp
@[simp] theorem State.beginLoad_lanes (p : PrinterId) (slot : Slot) : (s.beginLoad p slot).lanes = s.lanes := by
  simp only [State.beginLoad]; repeat' split
  all_goals simp
@[simp] theorem State.beginLoad_stock (p : PrinterId) (slot : Slot) : (s.beginLoad p slot).stock = s.stock := by
  simp only [State.beginLoad]; repeat' split
  all_goals simp
@[simp] theorem State.beginLoad_till (p : PrinterId) (slot : Slot) : (s.beginLoad p slot).till = s.till := by
  simp only [State.beginLoad]; repeat' split
  all_goals simp
@[simp] theorem State.beginLoad_progress (p : PrinterId) (slot : Slot) : (s.beginLoad p slot).progress = s.progress := by
  simp only [State.beginLoad]; repeat' split
  all_goals simp

@[simp] theorem State.liftOffline_settings (p : PrinterId) : (s.liftOffline p).settings = s.settings := by
  simp only [State.liftOffline]; repeat' split
  all_goals simp
@[simp] theorem State.liftOffline_draws (p : PrinterId) : (s.liftOffline p).draws = s.draws := by
  simp only [State.liftOffline]; repeat' split
  all_goals simp
@[simp] theorem State.liftOffline_drawers (p : PrinterId) : (s.liftOffline p).drawers = s.drawers := by
  simp only [State.liftOffline]; repeat' split
  all_goals simp
@[simp] theorem State.liftOffline_log (p : PrinterId) : (s.liftOffline p).log = s.log := by
  simp only [State.liftOffline]; repeat' split
  all_goals simp
@[simp] theorem State.liftOffline_lanes (p : PrinterId) : (s.liftOffline p).lanes = s.lanes := by
  simp only [State.liftOffline]; repeat' split
  all_goals simp
@[simp] theorem State.liftOffline_stock (p : PrinterId) : (s.liftOffline p).stock = s.stock := by
  simp only [State.liftOffline]; repeat' split
  all_goals simp
@[simp] theorem State.liftOffline_till (p : PrinterId) : (s.liftOffline p).till = s.till := by
  simp only [State.liftOffline]; repeat' split
  all_goals simp
@[simp] theorem State.liftOffline_progress (p : PrinterId) : (s.liftOffline p).progress = s.progress := by
  simp only [State.liftOffline]; repeat' split
  all_goals simp

@[simp] theorem State.returnFromLoad_settings (p : PrinterId) (g : Load) : (s.returnFromLoad p g).settings = s.settings := by
  simp only [State.returnFromLoad]; repeat' split
  all_goals simp
@[simp] theorem State.returnFromLoad_draws (p : PrinterId) (g : Load) : (s.returnFromLoad p g).draws = s.draws := by
  simp only [State.returnFromLoad]; repeat' split
  all_goals simp
@[simp] theorem State.returnFromLoad_drawers (p : PrinterId) (g : Load) : (s.returnFromLoad p g).drawers = s.drawers := by
  simp only [State.returnFromLoad]; repeat' split
  all_goals simp
@[simp] theorem State.returnFromLoad_log (p : PrinterId) (g : Load) : (s.returnFromLoad p g).log = s.log := by
  simp only [State.returnFromLoad]; repeat' split
  all_goals simp
@[simp] theorem State.returnFromLoad_lanes (p : PrinterId) (g : Load) : (s.returnFromLoad p g).lanes = s.lanes := by
  simp only [State.returnFromLoad]; repeat' split
  all_goals simp
@[simp] theorem State.returnFromLoad_stock (p : PrinterId) (g : Load) : (s.returnFromLoad p g).stock = s.stock := by
  simp only [State.returnFromLoad]; repeat' split
  all_goals simp
@[simp] theorem State.returnFromLoad_till (p : PrinterId) (g : Load) : (s.returnFromLoad p g).till = s.till := by
  simp only [State.returnFromLoad]; repeat' split
  all_goals simp
@[simp] theorem State.returnFromLoad_progress (p : PrinterId) (g : Load) : (s.returnFromLoad p g).progress = s.progress := by
  simp only [State.returnFromLoad]; repeat' split
  all_goals simp

@[simp] theorem State.mismatchLoad_settings (p : PrinterId) (g : Load) (d : Nat) (a b : Byte) (n : Nat) : (s.mismatchLoad p g d a b n).settings = s.settings := by
  simp [State.mismatchLoad]
@[simp] theorem State.mismatchLoad_draws (p : PrinterId) (g : Load) (d : Nat) (a b : Byte) (n : Nat) : (s.mismatchLoad p g d a b n).draws = s.draws := by
  simp [State.mismatchLoad]
@[simp] theorem State.mismatchLoad_drawers (p : PrinterId) (g : Load) (d : Nat) (a b : Byte) (n : Nat) : (s.mismatchLoad p g d a b n).drawers = s.drawers := by
  simp [State.mismatchLoad]
@[simp] theorem State.mismatchLoad_log (p : PrinterId) (g : Load) (d : Nat) (a b : Byte) (n : Nat) : (s.mismatchLoad p g d a b n).log = s.log := by
  simp [State.mismatchLoad]
@[simp] theorem State.mismatchLoad_lanes (p : PrinterId) (g : Load) (d : Nat) (a b : Byte) (n : Nat) : (s.mismatchLoad p g d a b n).lanes = s.lanes := by
  simp [State.mismatchLoad]
@[simp] theorem State.mismatchLoad_stock (p : PrinterId) (g : Load) (d : Nat) (a b : Byte) (n : Nat) : (s.mismatchLoad p g d a b n).stock = s.stock := by
  simp [State.mismatchLoad]
@[simp] theorem State.mismatchLoad_till (p : PrinterId) (g : Load) (d : Nat) (a b : Byte) (n : Nat) : (s.mismatchLoad p g d a b n).till = s.till := by
  simp [State.mismatchLoad]
@[simp] theorem State.mismatchLoad_progress (p : PrinterId) (g : Load) (d : Nat) (a b : Byte) (n : Nat) : (s.mismatchLoad p g d a b n).progress = s.progress := by
  simp [State.mismatchLoad]

@[simp] theorem State.endNoPack_settings (p : PrinterId) : (s.endNoPack p).settings = s.settings := by
  simp only [State.endNoPack]; repeat' split
  all_goals simp
@[simp] theorem State.endNoPack_draws (p : PrinterId) : (s.endNoPack p).draws = s.draws := by
  simp only [State.endNoPack]; repeat' split
  all_goals simp
@[simp] theorem State.endNoPack_drawers (p : PrinterId) : (s.endNoPack p).drawers = s.drawers := by
  simp only [State.endNoPack]; repeat' split
  all_goals simp
@[simp] theorem State.endNoPack_lanes (p : PrinterId) : (s.endNoPack p).lanes = s.lanes := by
  simp only [State.endNoPack]; repeat' split
  all_goals simp
@[simp] theorem State.endNoPack_stock (p : PrinterId) : (s.endNoPack p).stock = s.stock := by
  simp only [State.endNoPack]; repeat' split
  all_goals simp
@[simp] theorem State.endNoPack_till (p : PrinterId) : (s.endNoPack p).till = s.till := by
  simp only [State.endNoPack]; repeat' split
  all_goals simp
@[simp] theorem State.endNoPack_progress (p : PrinterId) : (s.endNoPack p).progress = s.progress := by
  simp only [State.endNoPack]; repeat' split
  all_goals simp

@[simp] theorem State.verifyLoad_settings (p : PrinterId) (g : Load) (k : Pack) : (s.verifyLoad p g k).settings = s.settings := by
  simp only [State.verifyLoad]; repeat' split
  all_goals simp
@[simp] theorem State.verifyLoad_draws (p : PrinterId) (g : Load) (k : Pack) : (s.verifyLoad p g k).draws = s.draws := by
  simp only [State.verifyLoad]; repeat' split
  all_goals simp
@[simp] theorem State.verifyLoad_drawers (p : PrinterId) (g : Load) (k : Pack) : (s.verifyLoad p g k).drawers = s.drawers := by
  simp only [State.verifyLoad]; repeat' split
  all_goals simp
@[simp] theorem State.verifyLoad_lanes (p : PrinterId) (g : Load) (k : Pack) : (s.verifyLoad p g k).lanes = s.lanes := by
  simp only [State.verifyLoad]; repeat' split
  all_goals simp
@[simp] theorem State.verifyLoad_till (p : PrinterId) (g : Load) (k : Pack) : (s.verifyLoad p g k).till = s.till := by
  simp only [State.verifyLoad]; repeat' split
  all_goals simp
@[simp] theorem State.verifyLoad_progress (p : PrinterId) (g : Load) (k : Pack) : (s.verifyLoad p g k).progress = s.progress := by
  simp only [State.verifyLoad]; repeat' split
  all_goals simp

@[simp] theorem State.abortLoad_settings (p : PrinterId) : (s.abortLoad p).settings = s.settings := by
  simp only [State.abortLoad]; repeat' split
  all_goals simp
@[simp] theorem State.abortLoad_draws (p : PrinterId) : (s.abortLoad p).draws = s.draws := by
  simp only [State.abortLoad]; repeat' split
  all_goals simp
@[simp] theorem State.abortLoad_drawers (p : PrinterId) : (s.abortLoad p).drawers = s.drawers := by
  simp only [State.abortLoad]; repeat' split
  all_goals simp
@[simp] theorem State.abortLoad_log (p : PrinterId) : (s.abortLoad p).log = s.log := by
  simp only [State.abortLoad]; repeat' split
  all_goals simp
@[simp] theorem State.abortLoad_lanes (p : PrinterId) : (s.abortLoad p).lanes = s.lanes := by
  simp only [State.abortLoad]; repeat' split
  all_goals simp
@[simp] theorem State.abortLoad_stock (p : PrinterId) : (s.abortLoad p).stock = s.stock := by
  simp only [State.abortLoad]; repeat' split
  all_goals simp
@[simp] theorem State.abortLoad_till (p : PrinterId) : (s.abortLoad p).till = s.till := by
  simp only [State.abortLoad]; repeat' split
  all_goals simp
@[simp] theorem State.abortLoad_progress (p : PrinterId) : (s.abortLoad p).progress = s.progress := by
  simp only [State.abortLoad]; repeat' split
  all_goals simp

@[simp] theorem State.settled_settings (p : PrinterId) : (s.settled p).settings = s.settings := by
  simp only [State.settled]; repeat' split
  all_goals simp
@[simp] theorem State.settled_draws (p : PrinterId) : (s.settled p).draws = s.draws := by
  simp only [State.settled]; repeat' split
  all_goals simp
@[simp] theorem State.settled_drawers (p : PrinterId) : (s.settled p).drawers = s.drawers := by
  simp only [State.settled]; repeat' split
  all_goals simp
@[simp] theorem State.settled_log (p : PrinterId) : (s.settled p).log = s.log := by
  simp only [State.settled]; repeat' split
  all_goals simp
@[simp] theorem State.settled_lanes (p : PrinterId) : (s.settled p).lanes = s.lanes := by
  simp only [State.settled]; repeat' split
  all_goals simp

@[simp] theorem State.goOn_settings (p : PrinterId) (n : NextStep) : (s.goOn p n).settings = s.settings := by
  cases n <;> simp [State.goOn]
  split <;> simp
@[simp] theorem State.goOn_draws (p : PrinterId) (n : NextStep) : (s.goOn p n).draws = s.draws := by
  cases n <;> simp [State.goOn]
  split <;> simp
@[simp] theorem State.goOn_drawers (p : PrinterId) (n : NextStep) : (s.goOn p n).drawers = s.drawers := by
  cases n <;> simp [State.goOn]
  split <;> simp
@[simp] theorem State.goOn_lanes (p : PrinterId) (n : NextStep) : (s.goOn p n).lanes = s.lanes := by
  cases n <;> simp [State.goOn]
  split <;> simp

@[simp] theorem State.drain_settings (p : PrinterId) (n : Nat) : (s.drain p n).settings = s.settings := by
  induction n generalizing s with
  | zero => rfl
  | succ n ih => unfold State.drain; split <;> (try split) <;> simp [ih]
@[simp] theorem State.drain_draws (p : PrinterId) (n : Nat) : (s.drain p n).draws = s.draws := by
  induction n generalizing s with
  | zero => rfl
  | succ n ih => unfold State.drain; split <;> (try split) <;> simp [ih]
@[simp] theorem State.drain_drawers (p : PrinterId) (n : Nat) : (s.drain p n).drawers = s.drawers := by
  induction n generalizing s with
  | zero => rfl
  | succ n ih => unfold State.drain; split <;> (try split) <;> simp [ih]
@[simp] theorem State.drain_lanes (p : PrinterId) (n : Nat) : (s.drain p n).lanes = s.lanes := by
  induction n generalizing s with
  | zero => rfl
  | succ n ih => unfold State.drain; split <;> (try split) <;> simp [ih]

@[simp] theorem State.opEnded_settings (p : PrinterId) : (s.opEnded p).settings = s.settings := by
  simp [State.opEnded]
@[simp] theorem State.opEnded_draws (p : PrinterId) : (s.opEnded p).draws = s.draws := by
  simp [State.opEnded]
@[simp] theorem State.opEnded_drawers (p : PrinterId) : (s.opEnded p).drawers = s.drawers := by
  simp [State.opEnded]
@[simp] theorem State.opEnded_lanes (p : PrinterId) : (s.opEnded p).lanes = s.lanes := by
  simp [State.opEnded]

@[simp] theorem State.engaged_settings (p : PrinterId) (w : Purpose) : (s.engaged p w).1.settings = s.settings := by
  simp only [State.engaged]; split <;> simp
@[simp] theorem State.engaged_draws (p : PrinterId) (w : Purpose) : (s.engaged p w).1.draws = s.draws := by
  simp only [State.engaged]; split <;> simp
@[simp] theorem State.engaged_drawers (p : PrinterId) (w : Purpose) : (s.engaged p w).1.drawers = s.drawers := by
  simp only [State.engaged]; split <;> simp
@[simp] theorem State.engaged_log (p : PrinterId) (w : Purpose) : (s.engaged p w).1.log = s.log := by
  simp only [State.engaged]; split <;> simp
@[simp] theorem State.engaged_lanes (p : PrinterId) (w : Purpose) : (s.engaged p w).1.lanes = s.lanes := by
  simp only [State.engaged]; split <;> simp
@[simp] theorem State.engaged_stock (p : PrinterId) (w : Purpose) : (s.engaged p w).1.stock = s.stock := by
  simp only [State.engaged]; split <;> simp
@[simp] theorem State.engaged_till (p : PrinterId) (w : Purpose) : (s.engaged p w).1.till = s.till := by
  simp only [State.engaged]; split <;> simp
@[simp] theorem State.engaged_progress (p : PrinterId) (w : Purpose) : (s.engaged p w).1.progress = s.progress := by
  simp only [State.engaged]; split <;> simp

@[simp] theorem State.lifted_settings (p : PrinterId) : (s.lifted p).1.settings = s.settings := by
  simp [State.lifted]
@[simp] theorem State.lifted_draws (p : PrinterId) : (s.lifted p).1.draws = s.draws := by
  simp [State.lifted]
@[simp] theorem State.lifted_drawers (p : PrinterId) : (s.lifted p).1.drawers = s.drawers := by
  simp [State.lifted]
@[simp] theorem State.lifted_log (p : PrinterId) : (s.lifted p).1.log = s.log := by
  simp [State.lifted]
@[simp] theorem State.lifted_lanes (p : PrinterId) : (s.lifted p).1.lanes = s.lanes := by
  simp [State.lifted]
@[simp] theorem State.lifted_stock (p : PrinterId) : (s.lifted p).1.stock = s.stock := by
  simp [State.lifted]
@[simp] theorem State.lifted_till (p : PrinterId) : (s.lifted p).1.till = s.till := by
  simp [State.lifted]
@[simp] theorem State.lifted_progress (p : PrinterId) : (s.lifted p).1.progress = s.progress := by
  simp [State.lifted]

@[simp] theorem State.couponEjected_settings (p : PrinterId) : (s.couponEjected p).1.settings = s.settings := by
  simp only [State.couponEjected]; repeat' split
  all_goals simp
@[simp] theorem State.couponEjected_draws (p : PrinterId) : (s.couponEjected p).1.draws = s.draws := by
  simp only [State.couponEjected]; repeat' split
  all_goals simp
@[simp] theorem State.couponEjected_log (p : PrinterId) : (s.couponEjected p).1.log = s.log := by
  simp only [State.couponEjected]; repeat' split
  all_goals simp
@[simp] theorem State.couponEjected_lanes (p : PrinterId) : (s.couponEjected p).1.lanes = s.lanes := by
  simp only [State.couponEjected]; repeat' split
  all_goals simp

@[simp] theorem State.wasteEjected_settings (p : PrinterId) : (s.wasteEjected p).1.settings = s.settings := by
  simp only [State.wasteEjected]; repeat' split
  all_goals simp
@[simp] theorem State.wasteEjected_draws (p : PrinterId) : (s.wasteEjected p).1.draws = s.draws := by
  simp only [State.wasteEjected]; repeat' split
  all_goals simp
@[simp] theorem State.wasteEjected_drawers (p : PrinterId) : (s.wasteEjected p).1.drawers = s.drawers := by
  simp only [State.wasteEjected]; repeat' split
  all_goals simp
@[simp] theorem State.wasteEjected_log (p : PrinterId) : (s.wasteEjected p).1.log = s.log := by
  simp only [State.wasteEjected]; repeat' split
  all_goals simp
@[simp] theorem State.wasteEjected_lanes (p : PrinterId) : (s.wasteEjected p).1.lanes = s.lanes := by
  simp only [State.wasteEjected]; repeat' split
  all_goals simp
@[simp] theorem State.wasteEjected_stock (p : PrinterId) : (s.wasteEjected p).1.stock = s.stock := by
  simp only [State.wasteEjected]; repeat' split
  all_goals simp
@[simp] theorem State.wasteEjected_till (p : PrinterId) : (s.wasteEjected p).1.till = s.till := by
  simp only [State.wasteEjected]; repeat' split
  all_goals simp
@[simp] theorem State.wasteEjected_progress (p : PrinterId) : (s.wasteEjected p).1.progress = s.progress := by
  simp only [State.wasteEjected]; repeat' split
  all_goals simp

@[simp] theorem State.ejected_settings (p : PrinterId) (w : Purpose) : (s.ejected p w).1.settings = s.settings := by
  simp only [State.ejected]; repeat' split
  all_goals simp
@[simp] theorem State.ejected_draws (p : PrinterId) (w : Purpose) : (s.ejected p w).1.draws = s.draws := by
  simp only [State.ejected]; repeat' split
  all_goals simp
@[simp] theorem State.ejected_log (p : PrinterId) (w : Purpose) : (s.ejected p w).1.log = s.log := by
  simp only [State.ejected]; repeat' split
  all_goals simp
@[simp] theorem State.ejected_lanes (p : PrinterId) (w : Purpose) : (s.ejected p w).1.lanes = s.lanes := by
  simp only [State.ejected]; repeat' split
  all_goals simp

@[simp] theorem State.unreadableForm_settings (p : PrinterId) (slot : Slot) (n : Nat) : (s.unreadableForm p slot n).1.settings = s.settings := by
  simp [State.unreadableForm]
@[simp] theorem State.unreadableForm_draws (p : PrinterId) (slot : Slot) (n : Nat) : (s.unreadableForm p slot n).1.draws = s.draws := by
  simp [State.unreadableForm]
@[simp] theorem State.unreadableForm_drawers (p : PrinterId) (slot : Slot) (n : Nat) : (s.unreadableForm p slot n).1.drawers = s.drawers := by
  simp [State.unreadableForm]
@[simp] theorem State.unreadableForm_log (p : PrinterId) (slot : Slot) (n : Nat) : (s.unreadableForm p slot n).1.log = s.log := by
  simp [State.unreadableForm]
@[simp] theorem State.unreadableForm_lanes (p : PrinterId) (slot : Slot) (n : Nat) : (s.unreadableForm p slot n).1.lanes = s.lanes := by
  simp [State.unreadableForm]
@[simp] theorem State.unreadableForm_controllers (p : PrinterId) (slot : Slot) (n : Nat) : (s.unreadableForm p slot n).1.controllers = s.controllers := by
  simp [State.unreadableForm]

@[simp] theorem State.strangeForm_settings (p : PrinterId) (k : FaultKind) (x : StripRead) : (s.strangeForm p k x).1.settings = s.settings := by
  simp [State.strangeForm]
@[simp] theorem State.strangeForm_draws (p : PrinterId) (k : FaultKind) (x : StripRead) : (s.strangeForm p k x).1.draws = s.draws := by
  simp [State.strangeForm]
@[simp] theorem State.strangeForm_drawers (p : PrinterId) (k : FaultKind) (x : StripRead) : (s.strangeForm p k x).1.drawers = s.drawers := by
  simp [State.strangeForm]
@[simp] theorem State.strangeForm_lanes (p : PrinterId) (k : FaultKind) (x : StripRead) : (s.strangeForm p k x).1.lanes = s.lanes := by
  simp [State.strangeForm]

@[simp] theorem State.gapForm_settings (p : PrinterId) (slot : Slot) (x : StripRead) : (s.gapForm p slot x).1.settings = s.settings := by
  simp only [State.gapForm]; repeat' split
  all_goals simp
@[simp] theorem State.gapForm_draws (p : PrinterId) (slot : Slot) (x : StripRead) : (s.gapForm p slot x).1.draws = s.draws := by
  simp only [State.gapForm]; repeat' split
  all_goals simp
@[simp] theorem State.gapForm_drawers (p : PrinterId) (slot : Slot) (x : StripRead) : (s.gapForm p slot x).1.drawers = s.drawers := by
  simp only [State.gapForm]; repeat' split
  all_goals simp
@[simp] theorem State.gapForm_lanes (p : PrinterId) (slot : Slot) (x : StripRead) : (s.gapForm p slot x).1.lanes = s.lanes := by
  simp only [State.gapForm]; repeat' split
  all_goals simp

@[simp] theorem State.serialRead_settings (p : PrinterId) (slot : Slot) (k : Pack) (x : StripRead) : (s.serialRead p slot k x).1.settings = s.settings := by
  simp only [State.serialRead]; repeat' split
  all_goals simp
@[simp] theorem State.serialRead_draws (p : PrinterId) (slot : Slot) (k : Pack) (x : StripRead) : (s.serialRead p slot k x).1.draws = s.draws := by
  simp only [State.serialRead]; repeat' split
  all_goals simp
@[simp] theorem State.serialRead_drawers (p : PrinterId) (slot : Slot) (k : Pack) (x : StripRead) : (s.serialRead p slot k x).1.drawers = s.drawers := by
  simp only [State.serialRead]; repeat' split
  all_goals simp
@[simp] theorem State.serialRead_lanes (p : PrinterId) (slot : Slot) (k : Pack) (x : StripRead) : (s.serialRead p slot k x).1.lanes = s.lanes := by
  simp only [State.serialRead]; repeat' split
  all_goals simp

@[simp] theorem State.badStrip_settings (p : PrinterId) (slot : Slot) (k : Pack) : (s.badStrip p slot k).1.settings = s.settings := by
  simp only [State.badStrip]; repeat' split
  all_goals simp
@[simp] theorem State.badStrip_draws (p : PrinterId) (slot : Slot) (k : Pack) : (s.badStrip p slot k).1.draws = s.draws := by
  simp only [State.badStrip]; repeat' split
  all_goals simp
@[simp] theorem State.badStrip_drawers (p : PrinterId) (slot : Slot) (k : Pack) : (s.badStrip p slot k).1.drawers = s.drawers := by
  simp only [State.badStrip]; repeat' split
  all_goals simp
@[simp] theorem State.badStrip_lanes (p : PrinterId) (slot : Slot) (k : Pack) : (s.badStrip p slot k).1.lanes = s.lanes := by
  simp only [State.badStrip]; repeat' split
  all_goals simp

@[simp] theorem State.loopStrip_settings (p : PrinterId) (a : StripAnswer) : (s.loopStrip p a).1.settings = s.settings := by
  simp only [State.loopStrip]; repeat' split
  all_goals simp
@[simp] theorem State.loopStrip_draws (p : PrinterId) (a : StripAnswer) : (s.loopStrip p a).1.draws = s.draws := by
  simp only [State.loopStrip]; repeat' split
  all_goals simp
@[simp] theorem State.loopStrip_drawers (p : PrinterId) (a : StripAnswer) : (s.loopStrip p a).1.drawers = s.drawers := by
  simp only [State.loopStrip]; repeat' split
  all_goals simp
@[simp] theorem State.loopStrip_lanes (p : PrinterId) (a : StripAnswer) : (s.loopStrip p a).1.lanes = s.lanes := by
  simp only [State.loopStrip]; repeat' split
  all_goals simp

@[simp] theorem State.loadStrip_settings (p : PrinterId) (a : StripAnswer) : (s.loadStrip p a).1.settings = s.settings := by
  simp only [State.loadStrip]; repeat' split
  all_goals simp
@[simp] theorem State.loadStrip_draws (p : PrinterId) (a : StripAnswer) : (s.loadStrip p a).1.draws = s.draws := by
  simp only [State.loadStrip]; repeat' split
  all_goals simp
@[simp] theorem State.loadStrip_drawers (p : PrinterId) (a : StripAnswer) : (s.loadStrip p a).1.drawers = s.drawers := by
  simp only [State.loadStrip]; repeat' split
  all_goals simp
@[simp] theorem State.loadStrip_lanes (p : PrinterId) (a : StripAnswer) : (s.loadStrip p a).1.lanes = s.lanes := by
  simp only [State.loadStrip]; repeat' split
  all_goals simp
@[simp] theorem State.loadStrip_till (p : PrinterId) (a : StripAnswer) : (s.loadStrip p a).1.till = s.till := by
  simp only [State.loadStrip]; repeat' split
  all_goals simp
@[simp] theorem State.loadStrip_progress (p : PrinterId) (a : StripAnswer) : (s.loadStrip p a).1.progress = s.progress := by
  simp only [State.loadStrip]; repeat' split
  all_goals simp

@[simp] theorem State.stripRead_settings (p : PrinterId) (a : StripAnswer) (w : Purpose) : (s.stripRead p a w).1.settings = s.settings := by
  simp only [State.stripRead]; repeat' split
  all_goals simp
@[simp] theorem State.stripRead_draws (p : PrinterId) (a : StripAnswer) (w : Purpose) : (s.stripRead p a w).1.draws = s.draws := by
  simp only [State.stripRead]; repeat' split
  all_goals simp
@[simp] theorem State.stripRead_drawers (p : PrinterId) (a : StripAnswer) (w : Purpose) : (s.stripRead p a w).1.drawers = s.drawers := by
  simp only [State.stripRead]; repeat' split
  all_goals simp
@[simp] theorem State.stripRead_lanes (p : PrinterId) (a : StripAnswer) (w : Purpose) : (s.stripRead p a w).1.lanes = s.lanes := by
  simp only [State.stripRead]; repeat' split
  all_goals simp

@[simp] theorem State.frameSetAside_settings (p : PrinterId) (c : FrameContent) : (s.frameSetAside p c).settings = s.settings := by
  simp only [State.frameSetAside]; repeat' split
  all_goals simp
@[simp] theorem State.frameSetAside_draws (p : PrinterId) (c : FrameContent) : (s.frameSetAside p c).draws = s.draws := by
  simp only [State.frameSetAside]; repeat' split
  all_goals simp
@[simp] theorem State.frameSetAside_drawers (p : PrinterId) (c : FrameContent) : (s.frameSetAside p c).drawers = s.drawers := by
  simp only [State.frameSetAside]; repeat' split
  all_goals simp
@[simp] theorem State.frameSetAside_lanes (p : PrinterId) (c : FrameContent) : (s.frameSetAside p c).lanes = s.lanes := by
  simp only [State.frameSetAside]; repeat' split
  all_goals simp

@[simp] theorem State.sensorFrame_settings (p : PrinterId) (x : Sensors) : (s.sensorFrame p x).settings = s.settings := by
  simp [State.sensorFrame]
@[simp] theorem State.sensorFrame_draws (p : PrinterId) (x : Sensors) : (s.sensorFrame p x).draws = s.draws := by
  simp [State.sensorFrame]
@[simp] theorem State.sensorFrame_drawers (p : PrinterId) (x : Sensors) : (s.sensorFrame p x).drawers = s.drawers := by
  simp [State.sensorFrame]
@[simp] theorem State.sensorFrame_lanes (p : PrinterId) (x : Sensors) : (s.sensorFrame p x).lanes = s.lanes := by
  simp [State.sensorFrame]

@[simp] theorem State.endUnanswered_settings (p : PrinterId) : (s.endUnanswered p).settings = s.settings := by
  simp [State.endUnanswered]
@[simp] theorem State.endUnanswered_draws (p : PrinterId) : (s.endUnanswered p).draws = s.draws := by
  simp [State.endUnanswered]
@[simp] theorem State.endUnanswered_drawers (p : PrinterId) : (s.endUnanswered p).drawers = s.drawers := by
  simp [State.endUnanswered]
@[simp] theorem State.endUnanswered_lanes (p : PrinterId) : (s.endUnanswered p).lanes = s.lanes := by
  simp [State.endUnanswered]

@[simp] theorem State.deadline_settings (p : PrinterId) : (s.deadline p).settings = s.settings := by
  simp only [State.deadline]; repeat' split
  all_goals simp
@[simp] theorem State.deadline_draws (p : PrinterId) : (s.deadline p).draws = s.draws := by
  simp only [State.deadline]; repeat' split
  all_goals simp
@[simp] theorem State.deadline_drawers (p : PrinterId) : (s.deadline p).drawers = s.drawers := by
  simp only [State.deadline]; repeat' split
  all_goals simp
@[simp] theorem State.deadline_lanes (p : PrinterId) : (s.deadline p).lanes = s.lanes := by
  simp only [State.deadline]; repeat' split
  all_goals simp

@[simp] theorem State.enquire_settings (p : PrinterId) : (s.enquire p).settings = s.settings := by
  simp only [State.enquire]; repeat' split
  all_goals simp
@[simp] theorem State.enquire_draws (p : PrinterId) : (s.enquire p).draws = s.draws := by
  simp only [State.enquire]; repeat' split
  all_goals simp
@[simp] theorem State.enquire_drawers (p : PrinterId) : (s.enquire p).drawers = s.drawers := by
  simp only [State.enquire]; repeat' split
  all_goals simp
@[simp] theorem State.enquire_log (p : PrinterId) : (s.enquire p).log = s.log := by
  simp only [State.enquire]; repeat' split
  all_goals simp
@[simp] theorem State.enquire_lanes (p : PrinterId) : (s.enquire p).lanes = s.lanes := by
  simp only [State.enquire]; repeat' split
  all_goals simp
@[simp] theorem State.enquire_stock (p : PrinterId) : (s.enquire p).stock = s.stock := by
  simp only [State.enquire]; repeat' split
  all_goals simp
@[simp] theorem State.enquire_till (p : PrinterId) : (s.enquire p).till = s.till := by
  simp only [State.enquire]; repeat' split
  all_goals simp
@[simp] theorem State.enquire_progress (p : PrinterId) : (s.enquire p).progress = s.progress := by
  simp only [State.enquire]; repeat' split
  all_goals simp

@[simp] theorem State.admitHead_settings (p : PrinterId) (j : Job) (rest : Lanes) : (s.admitHead p j rest).settings = s.settings := by
  simp [State.admitHead]
@[simp] theorem State.admitHead_draws (p : PrinterId) (j : Job) (rest : Lanes) : (s.admitHead p j rest).draws = s.draws := by
  simp [State.admitHead]
@[simp] theorem State.admitHead_drawers (p : PrinterId) (j : Job) (rest : Lanes) : (s.admitHead p j rest).drawers = s.drawers := by
  simp [State.admitHead]

@[simp] theorem State.offer_settings (p : PrinterId) (j : Job) (rest : Lanes) : (s.offer p j rest).settings = s.settings := by
  simp only [State.offer]; repeat' split
  all_goals simp
@[simp] theorem State.offer_draws (p : PrinterId) (j : Job) (rest : Lanes) : (s.offer p j rest).draws = s.draws := by
  simp only [State.offer]; repeat' split
  all_goals simp
@[simp] theorem State.offer_drawers (p : PrinterId) (j : Job) (rest : Lanes) : (s.offer p j rest).drawers = s.drawers := by
  simp only [State.offer]; repeat' split
  all_goals simp

@[simp] theorem State.arbiter_settings (p : PrinterId) : (s.arbiter p).settings = s.settings := by
  simp only [State.arbiter]; repeat' split
  all_goals simp
@[simp] theorem State.arbiter_draws (p : PrinterId) : (s.arbiter p).draws = s.draws := by
  simp only [State.arbiter]; repeat' split
  all_goals simp
@[simp] theorem State.arbiter_drawers (p : PrinterId) : (s.arbiter p).drawers = s.drawers := by
  simp only [State.arbiter]; repeat' split
  all_goals simp

@[simp] theorem State.arbiters_settings (ps : List PrinterId) :
    (ps.foldl (fun t p => t.arbiter p) s).settings = s.settings := by
  induction ps generalizing s with
  | nil => rfl
  | cons p ps ih => simp [ih]
@[simp] theorem State.arbiters_draws (ps : List PrinterId) :
    (ps.foldl (fun t p => t.arbiter p) s).draws = s.draws := by
  induction ps generalizing s with
  | nil => rfl
  | cons p ps ih => simp [ih]
@[simp] theorem State.arbiters_drawers (ps : List PrinterId) :
    (ps.foldl (fun t p => t.arbiter p) s).drawers = s.drawers := by
  induction ps generalizing s with
  | nil => rfl
  | cons p ps ih => simp [ih]

@[simp] theorem State.arbitrateAll_settings  : (s.arbitrateAll).settings = s.settings := by
  simp only [State.arbitrateAll]; repeat' split
  all_goals simp
@[simp] theorem State.arbitrateAll_drawers  : (s.arbitrateAll).drawers = s.drawers := by
  simp only [State.arbitrateAll]; repeat' split
  all_goals simp

@[simp] theorem State.refreshLamps_settings  : (s.refreshLamps).settings = s.settings := by
  rfl
@[simp] theorem State.refreshLamps_draws  : (s.refreshLamps).draws = s.draws := by
  simp [State.refreshLamps]
@[simp] theorem State.refreshLamps_drawers  : (s.refreshLamps).drawers = s.drawers := by
  simp [State.refreshLamps]
@[simp] theorem State.refreshLamps_log  : (s.refreshLamps).log = s.log := by
  simp [State.refreshLamps]
@[simp] theorem State.refreshLamps_lanes  : (s.refreshLamps).lanes = s.lanes := by
  simp [State.refreshLamps]
@[simp] theorem State.refreshLamps_stock  : (s.refreshLamps).stock = s.stock := by
  simp [State.refreshLamps]
@[simp] theorem State.refreshLamps_till  : (s.refreshLamps).till = s.till := by
  simp [State.refreshLamps]
@[simp] theorem State.refreshLamps_progress  : (s.refreshLamps).progress = s.progress := by
  simp [State.refreshLamps]

@[simp] theorem State.afterEvent_settings  : (s.afterEvent).settings = s.settings := by
  simp [State.afterEvent]
@[simp] theorem State.afterEvent_drawers  : (s.afterEvent).drawers = s.drawers := by
  simp [State.afterEvent]

end Sys2Proof.Machine
end

