-- ==== Sys2Proof/Laws/Operands.lean ====
section
/-! SUPPORT. What a number of a frame names (R201, R203): the numbers 1-n name the n things, and no other number names one. -/

namespace Sys2Proof.Machine

theorem idOf_out {n x : Nat} (h : x < 1 ∨ n < x) : idOf n x = none := by
  unfold idOf; rw [dif_neg (by omega)]

@[simp] theorem idOf_succ {n : Nat} (i : Fin n) : idOf n (i.val + 1) = some i := by
  unfold idOf; rw [dif_pos (by omega)]; simp

theorem idOf_eq_some {n x : Nat} {i : Fin n} : idOf n x = some i ↔ x = i.val + 1 := by
  constructor
  · intro h
    unfold idOf at h
    split at h
    · simp only [Option.some.injEq] at h; subst h; simp; omega
    · cases h
  · rintro rfl; exact idOf_succ i

@[simp] theorem sessionOf_succ (n : SessionId) : sessionOf (n.val + 1) = some n := idOf_succ n
@[simp] theorem printerOf_succ (p : PrinterId) : printerOf (p.val + 1) = some p := idOf_succ p
@[simp] theorem kindOf_succ (k : Kind) : kindOf (k.val + 1) = some k := idOf_succ k
@[simp] theorem slotOf_succ (slot : Slot) : slotOf (slot.val + 1) = some slot := idOf_succ slot

theorem sessionOf_out {x : Nat} (h : x < 1 ∨ 7 < x) : sessionOf x = none := idOf_out h
theorem printerOf_out {x : Nat} (h : x < 1 ∨ 4 < x) : printerOf x = none := idOf_out h
theorem kindOf_out {x : Nat} (h : x < 1 ∨ 8 < x) : kindOf x = none := idOf_out h
theorem slotOf_out {x : Nat} (h : x < 1 ∨ 64 < x) : slotOf x = none := idOf_out h

/-- The session a request that names one reaches from a line (R44, R155). -/
@[simp] theorem reachSession_succ (l : Line) (n : SessionId) :
    reachSession l (n.val + 1) = if l = officeLine ∨ n = l then .ok n else .error .notPermitted := by
  simp [reachSession]

theorem reachSession_out (l : Line) {x : Nat} (h : x < 1 ∨ 7 < x) : reachSession l x = .error .badParameter := by
  simp [reachSession, sessionOf_out h]

end Sys2Proof.Machine
end

