-- ==== Sys2Proof/Laws/Outcomes.lean ====
section
/-! SUPPORT. What handing over outcomes does to a line, said once (R96, R98, R188, R199). -/

namespace Sys2Proof.Machine

variable (s : State)

/-- An outcome joins the list of its own window line and touches no other line (R96, R188). -/
theorem State.handOver_line (o : Outcome) (l : Line) : (s.handOver o).line l =
    if l ≠ officeLine ∧ o.session = l then { s.line l with outcomes := joinOutcome (s.line l).outcomes o } else s.line l := by
  unfold State.handOver
  split
  · rename_i h
    rw [if_neg (by rintro ⟨h1, h2⟩; exact h1 (h2 ▸ h))]
  · rename_i h
    simp only [State.putLine, State.line, Fin.getElem_fin, Vector.getElem_set]
    by_cases e : o.session = l
    · subst e; simp [h]
    · have : (o.session : Nat) ≠ l := fun k => e (Fin.ext k)
      simp [e, this]

/-- Outcomes handed over one after another join their own lines' lists in their order (R98, R199). -/
theorem State.handOvers_line (l : Line) : ∀ (os : List Outcome) (s : State),
    (os.foldl (fun t o => t.handOver o) s).line l =
      if l = officeLine then s.line l
      else { s.line l with outcomes := (os.filter fun o => o.session == l).foldl joinOutcome (s.line l).outcomes }
  | [], s => by simp
  | o :: rest, s => by
    rw [List.foldl_cons, State.handOvers_line l rest, State.handOver_line]
    by_cases h : l = officeLine
    · simp [h]
    · by_cases e : o.session = l <;> simp [h, e]

end Sys2Proof.Machine
end

