-- ==== Sys2Proof/Laws/Requests.lean ====
section
/-! SUPPORT. What taking a request can do, said once: the line's tests, a refusal by the owner, an effect with its reply
(R179, R180). Claims about a request cite these and its `serve…`. -/

namespace Sys2Proof.Machine

variable (s : State) (l : Line) (code : Byte) (close : State → State) (serve : State → Served)

@[simp] theorem State.frameEnded_line (m : Line) :
    (s.frameEnded l).line m = if m = l then { s.line l with receiver := .waitLead } else s.line m := by
  simp [State.frameEnded]

@[simp] theorem State.queueReply_line (r : Reply) (m : Line) :
    (s.queueReply l r).line m = if m = l then { s.line l with replies := (s.line l).replies ++ [r] } else s.line m := by
  simp [State.queueReply]

@[simp] theorem State.pump_line (m : Line) :
    (s.pump l).line m = if m = l then (s.line l).pump s.startResult else s.line m := by
  simp [State.pump]

@[simp] theorem State.pumpAll_line (m : Line) : s.pumpAll.line m = (s.line m).pump s.startResult := by
  simp [State.pumpAll, State.line]

/-- An idle transmitter with a waiting reply sends the oldest. -/
theorem LineState.pump_reply (ln : LineState) (r : StartResult) (first : Reply) (rest : List Reply)
    (hs : ln.sending = none) (hr : ln.replies = first :: rest) :
    ln.pump r = { ln with
      replies := rest, sending := some ⟨frameOf leadA5 first.body, first.second.map (frameOf leadA5)⟩ } := by
  simp [LineState.pump, hs, hr]

/-- A busy transmitter leaves the line as it is. -/
theorem LineState.pump_busy (ln : LineState) (r : StartResult) (h : ln.sending.isSome) : ln.pump r = ln := by
  obtain ⟨f, hf⟩ := Option.isSome_iff_exists.mp h
  simp [LineState.pump, hf]

/-- A halted part takes no request (R195). -/
theorem State.request_halted (h : s.phase = .halted) : s.request l code close serve = s := by
  simp [State.request, h]

/-- A frame that completes while 4 or more replies wait is discarded (R179). -/
theorem State.request_full (h : s.phase ≠ .halted) (hr : 4 ≤ (s.line l).replies.length) :
    s.request l code close serve = s.frameEnded l := by
  simp [State.request, h, State.replyFull, hr]

/-- A request that fails a test of the line is answered with that test's status (R180). -/
theorem State.request_test (status : Status) (h : s.phase ≠ .halted) (hr : (s.line l).replies.length < 4)
    (ht : (s.frameEnded l).lineTest l code = some status) :
    s.request l code close serve = s.said l code status [] := by
  simp [State.request, h, State.replyFull, Nat.not_le.mpr hr, ht, State.said, State.answered]

/-- The line's tests pass on a ready line, for a request its line may send. -/
theorem State.lineTest_ready (h : s.Ready l) (hc : code.toNat ∈ requestCodes)
    (hp : l = officeLine ∨ code.toNat ∉ officeCodes) : (s.frameEnded l).lineTest l code = none := by
  obtain ⟨h1, h2, -⟩ := h
  have hp' : ¬(l ≠ officeLine ∧ code.toNat ∈ officeCodes) := by
    rintro ⟨a, b⟩; rcases hp with hp | hp
    · exact a hp
    · exact hp b
  have h1' : (s.frameEnded l).phase = .running := by rw [← h1]; rfl
  simp only [State.lineTest, h1', ne_eq, not_true, if_false, State.frameEnded_line, if_true, h2, hc]
  simpa using hp'

/-- A refusal by the owner: the reply carries the status, and nothing else changes (R180). -/
theorem State.request_refused (status : Status) (h : s.Ready l) (hc : code.toNat ∈ requestCodes)
    (hp : l = officeLine ∨ code.toNat ∉ officeCodes) (hs : status ≠ .ok)
    (hr : serve (s.frameEnded l) = refuse (s.frameEnded l) status) :
    s.request l code close serve = s.said l code status [] := by
  have ht := s.lineTest_ready l code h hc hp
  have h1 : s.phase ≠ .halted := by rw [h.1]; simp
  have h3 : ¬ 4 ≤ (s.line l).replies.length := Nat.not_le.mpr h.2.2
  simp [State.request, h1, State.replyFull, h3, ht, hr, refuse, Served.tookEffect, hs, State.said,
    State.answered, Answered.reply]

/-- An answer that is not OK but carries fields, as READ FAULTS gives with NOT FOUND (R148, R180). -/
theorem State.request_answered (a : Answered) (h : s.Ready l) (hc : code.toNat ∈ requestCodes)
    (hp : l = officeLine ∨ code.toNat ∉ officeCodes) (hs : a.status ≠ .ok)
    (hr : serve (s.frameEnded l) = ⟨s.frameEnded l, some a⟩) :
    s.request l code close serve = ((s.frameEnded l).queueReply l (a.reply code)).pump l := by
  have ht := s.lineTest_ready l code h hc hp
  have h1 : s.phase ≠ .halted := by rw [h.1]; simp
  have h3 : ¬ 4 ≤ (s.line l).replies.length := Nat.not_le.mpr h.2.2
  simp [State.request, h1, State.replyFull, h3, ht, hr, Served.tookEffect, hs]

/-- A request that takes effect: its reply is made in the same event, and what follows an event is done (R180). -/
theorem State.request_effect (u : State) (a : Answered) (h : s.Ready l) (hc : code.toNat ∈ requestCodes)
    (hp : l = officeLine ∨ code.toNat ∉ officeCodes) (hs : a.status = .ok)
    (hr : serve (s.frameEnded l) = ⟨u, some a⟩) :
    s.request l code close serve = close (u.queueReply l (a.reply code)) := by
  have ht := s.lineTest_ready l code h hc hp
  have h1 : s.phase ≠ .halted := by rw [h.1]; simp
  have h3 : ¬ 4 ≤ (s.line l).replies.length := Nat.not_le.mpr h.2.2
  simp [State.request, h1, State.replyFull, h3, ht, hr, Served.tookEffect, hs]

/-- A request that is accepted as the line's deferred request makes no reply yet (R182). -/
theorem State.request_deferred (u : State) (h : s.Ready l) (hc : code.toNat ∈ requestCodes)
    (hp : l = officeLine ∨ code.toNat ∉ officeCodes) (hr : serve (s.frameEnded l) = ⟨u, none⟩) :
    s.request l code close serve = close u := by
  have ht := s.lineTest_ready l code h hc hp
  have h1 : s.phase ≠ .halted := by rw [h.1]; simp
  have h3 : ¬ 4 ≤ (s.line l).replies.length := Nat.not_le.mpr h.2.2
  simp [State.request, h1, State.replyFull, h3, ht, hr, Served.tookEffect]

/-! ## What a frame's end leaves -/

@[simp] theorem State.frameEnded_phase : (s.frameEnded l).phase = s.phase := rfl
@[simp] theorem State.frameEnded_clock : (s.frameEnded l).clock = s.clock := rfl
@[simp] theorem State.frameEnded_audit : (s.frameEnded l).audit = s.audit := rfl
@[simp] theorem State.frameEnded_discounts : (s.frameEnded l).discounts = s.discounts := rfl
@[simp] theorem State.frameEnded_maps : (s.frameEnded l).maps = s.maps := rfl
@[simp] theorem State.frameEnded_configs : (s.frameEnded l).configs = s.configs := rfl
@[simp] theorem State.frameEnded_startResult : (s.frameEnded l).startResult = s.startResult := rfl
@[simp] theorem State.frameEnded_signature : (s.frameEnded l).signature = s.signature := rfl
@[simp] theorem State.frameEnded_straps : (s.frameEnded l).straps = s.straps := rfl
@[simp] theorem State.frameEnded_unreserved : (s.frameEnded l).unreserved = s.unreserved := rfl
@[simp] theorem State.frameEnded_stampNow : (s.frameEnded l).stampNow = s.stampNow := rfl
@[simp] theorem State.frameEnded_session (n : SessionId) : (s.frameEnded l).session n = s.session n := rfl
@[simp] theorem State.frameEnded_pack (slot : Slot) : (s.frameEnded l).pack slot = s.pack slot := rfl
@[simp] theorem State.frameEnded_kind (k : Kind) : (s.frameEnded l).kind k = s.kind k := rfl
@[simp] theorem State.frameEnded_loaded (p : PrinterId) : (s.frameEnded l).loaded p = s.loaded p := rfl
@[simp] theorem State.frameEnded_loadedPack (p : PrinterId) : (s.frameEnded l).loadedPack p = s.loadedPack p := rfl
@[simp] theorem State.frameEnded_lane (p : PrinterId) : (s.frameEnded l).lane p = s.lane p := rfl
@[simp] theorem State.frameEnded_config (p : PrinterId) : (s.frameEnded l).config p = s.config p := rfl
@[simp] theorem State.frameEnded_inProgress (p : PrinterId) : (s.frameEnded l).inProgress p = s.inProgress p := rfl
@[simp] theorem State.frameEnded_ctl (p : PrinterId) : (s.frameEnded l).ctl p = s.ctl p := rfl
@[simp] theorem State.frameEnded_openEntry (p : PrinterId) : (s.frameEnded l).openEntry p = s.openEntry p := rfl
@[simp] theorem State.frameEnded_midForm (p : PrinterId) : (s.frameEnded l).midForm p = s.midForm p := rfl

/-! ## A frame's end and the updates of other blocks

The owner's checks and effect are made on the state whose receiver is back in WAIT LEAD; the receiver is of no concern to
any block, so each update passes over it. -/

@[simp] theorem State.frameEnded_putStock (x : Stock) : (s.frameEnded l).putStock x = (s.putStock x).frameEnded l := rfl
@[simp] theorem State.frameEnded_putTill (x : Till) : (s.frameEnded l).putTill x = (s.putTill x).frameEnded l := rfl
@[simp] theorem State.frameEnded_putLog (x : FaultLog) : (s.frameEnded l).putLog x = (s.putLog x).frameEnded l := rfl
@[simp] theorem State.frameEnded_putDiscount (i : Fin 16) (x : Discount) :
    (s.frameEnded l).putDiscount i x = (s.putDiscount i x).frameEnded l := rfl
@[simp] theorem State.frameEnded_putMap (n : Fin 6) (x : Vector MapEntry 8) :
    (s.frameEnded l).putMap n x = (s.putMap n x).frameEnded l := rfl
@[simp] theorem State.frameEnded_putConfig (p : PrinterId) (x : PrinterConfig) :
    (s.frameEnded l).putConfig p x = (s.putConfig p x).frameEnded l := rfl
@[simp] theorem State.frameEnded_markProgress (p : PrinterId) (x : Option Progress) :
    (s.frameEnded l).markProgress p x = (s.markProgress p x).frameEnded l := rfl
@[simp] theorem State.frameEnded_putProgress (p : PrinterId) (x : Option Progress) :
    (s.frameEnded l).putProgress p x = (s.putProgress p x).frameEnded l := rfl
@[simp] theorem State.frameEnded_putClock (x : Clock) : (s.frameEnded l).putClock x = (s.putClock x).frameEnded l := rfl
@[simp] theorem State.frameEnded_putPack (slot : Slot) (x : Option Pack) :
    (s.frameEnded l).putPack slot x = (s.putPack slot x).frameEnded l := rfl
@[simp] theorem State.frameEnded_putKind (k : Kind) (x : StockKind) :
    (s.frameEnded l).putKind k x = (s.putKind k x).frameEnded l := rfl
@[simp] theorem State.frameEnded_putLoaded (p : PrinterId) (x : Option Slot) :
    (s.frameEnded l).putLoaded p x = (s.putLoaded p x).frameEnded l := rfl
@[simp] theorem State.frameEnded_putSession (n : SessionId) (x : Session) :
    (s.frameEnded l).putSession n x = (s.putSession n x).frameEnded l := rfl
@[simp] theorem State.frameEnded_putAudit (x : Option (Slot × Nat)) :
    (s.frameEnded l).putAudit x = (s.putAudit x).frameEnded l := rfl
@[simp] theorem State.frameEnded_putDrawer (n : SessionId) (x : Bool) :
    (s.frameEnded l).putDrawer n x = (s.putDrawer n x).frameEnded l := rfl
@[simp] theorem State.frameEnded_putLane (p : PrinterId) (x : Lanes) :
    (s.frameEnded l).putLane p x = (s.putLane p x).frameEnded l := rfl
@[simp] theorem State.frameEnded_putCtl (p : PrinterId) (x : Controller) :
    (s.frameEnded l).putCtl p x = (s.putCtl p x).frameEnded l := rfl
@[simp] theorem State.frameEnded_putDraws (x : Nat) : (s.frameEnded l).putDraws x = (s.putDraws x).frameEnded l := rfl

/-- Two states are equal when their lines are and all else is. -/
theorem State.ext_lines (t : State) (h : { s with lines := t.lines } = t) (hl : ∀ m, s.line m = t.line m) : s = t := by
  have h' : s.lines = t.lines := Vector.ext fun i hi => hl ⟨i, hi⟩
  rw [← h, ← h']

/-- What raising a class does to a line (R184, R186, R199). -/
theorem State.raise_line (c : NoticeClass) (sub : Subject) (m : Line) :
    (s.raise c sub).line m =
      if s.phase = .running ∧ s.receives m c sub = true then (s.line m).receive c else s.line m := by
  unfold State.raise
  split <;> simp [State.line, *]

theorem LineState.receive_waitLead (ln : LineState) (c : NoticeClass) :
    LineState.receive { ln with receiver := .waitLead } c = { ln.receive c with receiver := .waitLead } := by
  simp only [LineState.receive]; split <;> rfl

/-- A notice is raised alike whether or not the receiver is back in WAIT LEAD. -/
@[simp] theorem State.frameEnded_raise (c : NoticeClass) (sub : Subject) :
    (s.frameEnded l).raise c sub = (s.raise c sub).frameEnded l := by
  apply State.ext_lines
  · unfold State.raise
    by_cases hr : s.phase = .running
    · rw [if_pos hr, if_pos (show (s.frameEnded l).phase = .running from hr)]; rfl
    · rw [if_neg hr, if_neg (show ¬(s.frameEnded l).phase = .running from hr)]
  · intro m
    have hr : (s.frameEnded l).receives m c sub = s.receives m c sub := rfl
    have hp : (s.frameEnded l).phase = s.phase := rfl
    simp only [State.raise_line, State.frameEnded_line, hr, hp]
    by_cases hm : m = l
    · subst hm; simp only [if_true]; split <;> simp [LineState.receive_waitLead]
    · simp [hm]

/-! ## A request on a ready line, by its owner's answer -/

/-- What serving a request leads to: its reply joins the queue, and what follows an event that took effect is done, or the
transmitter looks (R179, R180). -/
def Served.finish (r : Served) (l : Line) (code : Byte) (close : State → State) : State :=
  match r.answer with
  | none => close r.state
  | some a =>
    if a.status = .ok then close (r.state.queueReply l (a.reply code)) else (r.state.queueReply l (a.reply code)).pump l

/-- A ready line hands a request it may send to its owner. -/
theorem State.request_ready (h : s.Ready l) (hc : code.toNat ∈ requestCodes)
    (hp : l = officeLine ∨ code.toNat ∉ officeCodes) :
    s.request l code close serve = (serve (s.frameEnded l)).finish l code close := by
  have ht := s.lineTest_ready l code h hc hp
  have h1 : s.phase ≠ .halted := by rw [h.1]; simp
  have h3 : ¬ 4 ≤ (s.line l).replies.length := Nat.not_le.mpr h.2.2
  simp only [State.request, h1, if_false, State.replyFull, State.frameEnded_line, if_true, h3, decide_false, ht,
    Served.finish, Served.tookEffect]
  obtain ⟨u, answer⟩ := serve (s.frameEnded l)
  cases answer <;> simp

/-- A refusal by the owner leaves the state as it was, with the reply made. -/
theorem Served.finish_refuse (status : Status) (hs : status ≠ .ok) :
    (refuse (s.frameEnded l) status).finish l code close = s.said l code status [] := by
  simp [Served.finish, refuse, hs, Answered.reply, State.said, State.answered]

/-- A request carried out is answered in the state its effect leaves. -/
theorem Served.finish_accept (u : State) (fields : List Byte) :
    (accept (u.frameEnded l) fields).finish l code close = close (u.answered l code .ok fields) := by
  simp [Served.finish, accept, Answered.reply, State.answered]

/-- A deferred request that is accepted makes no reply yet. -/
theorem Served.finish_deferred (u : State) : (⟨u, none⟩ : Served).finish l code close = close u := rfl

end Sys2Proof.Machine
end

