-- ==== Sys2Proof/Laws/Sensors.lean ====
section
/-! SUPPORT. What judging a sensor set amounts to, said once (R106, R137). -/

namespace Sys2Proof.Machine

variable (s : State)

/-- A set that shows no sensor newly bad arises no fault (R137). -/
theorem arisings_eq_nil (kept : Option Sensors) (x : Sensors) (h : Sensors.worsens x kept = false) : arisings kept x = [] := by
  cases kept <;> simp_all [Sensors.worsens, arisings, wasGood]

/-- A set with a sensor newly bad is kept, each sensor newly bad raises its fault in the order of R106, and no fault clears
(R106, R125, R137). -/
theorem State.judgeSet_worsens (p : PrinterId) (x : Sensors) (clears : Bool)
    (h : Sensors.worsens x (s.ctl p).sensors = true) : s.judgeSet p x clears = s.struck p x := by
  have bad : Sensors.allGood x = false := by
    cases x with | mk a b c => cases a <;> cases b <;> cases c <;> simp_all [Sensors.worsens, Sensors.allGood]
  have was : ∀ sensor : Sensors → Bool, wasGood (s.ctl p).sensors sensor = (s.ctl p).sensors.all sensor := by
    intro sensor; cases (s.ctl p).sensors <;> rfl
  simp only [State.judgeSet, bad, Bool.false_and, Bool.false_eq_true, if_false, arisings, was, List.foldl_append, State.struck,
    State.mapCtl]
  split <;> split <;> split <;> rfl

end Sys2Proof.Machine
end

