-- ==== Sys2Proof/Laws/Till.lean ====
section
/-! SUPPORT. The drawer estimate's update, said once (R60, R62), and its passing over a frame's end. -/

namespace Sys2Proof.Machine

variable (s : State)

theorem State.putSession_putSession (n : SessionId) (x y : Session) :
    (s.putSession n x).putSession n y = s.putSession n y := by
  simp [State.putSession, State.putTill]

/-- An estimate update writes the estimate and the drawer state of the thresholds in force, and raises the notice of a
change into HIGH or LOW (R62). -/
theorem State.updateEstimate_eq (n : SessionId) (x : Session) (estimate : Nat) (before : DrawerState) :
    (s.putSession n x).updateEstimate n estimate before =
      (s.putSession n { x with
        estimate := estimate, drawer := drawerStateOf s.till.high s.till.low estimate }).drawerNoticed n before := by
  have h1 : (s.putSession n x).till.high = s.till.high := rfl
  have h2 : (s.putSession n x).till.low = s.till.low := rfl
  have h3 : (s.putSession n x).session n = x := by simp
  simp only [State.updateEstimate, State.drawerNoticed]
  rw [h1, h2, h3, s.putSession_putSession]
  simp only [State.putSession_session, if_true] <;>
    (cases drawerStateOf s.till.high s.till.low estimate <;> cases before <;> rfl)

@[simp] theorem State.frameEnded_drawerNoticed (l : Line) (n : SessionId) (before : DrawerState) :
    (s.frameEnded l).drawerNoticed n before = (s.drawerNoticed n before).frameEnded l := by
  have h : (s.frameEnded l).session n = s.session n := rfl
  simp only [State.drawerNoticed]
  rw [h]
  split
  · rfl
  · cases (s.session n).drawer <;> simp

@[simp] theorem State.frameEnded_updateEstimate (l : Line) (n : SessionId) (estimate : Nat) (before : DrawerState) :
    (s.frameEnded l).updateEstimate n estimate before = (s.updateEstimate n estimate before).frameEnded l := by
  simp only [State.updateEstimate]
  rw [show (s.frameEnded l).till = s.till from rfl, show (s.frameEnded l).session n = s.session n from rfl]
  split
  · rfl
  · split <;> simp

@[simp] theorem State.frameEnded_pulse (l : Line) (n : SessionId) :
    (s.frameEnded l).pulse n = (s.pulse n).frameEnded l := rfl

end Sys2Proof.Machine
end

