-- ==== Sys2Proof/Laws/Stock.lean ====
section
/-! SUPPORT. New exception records and the records-low condition, said once (R19, R22, R57). -/

namespace Sys2Proof.Machine

/-! ## Notices raised among updates of the stock table -/

theorem State.putStock_putStock (s : State) (x y : Stock) : (s.putStock x).putStock y = s.putStock y := rfl

theorem State.raise_putStock (s : State) (c : NoticeClass) (sub : Subject) (x : Stock) :
    (s.raise c sub).putStock x = (s.putStock x).raise c sub := by
  unfold State.raise; split <;> split <;> first | rfl | contradiction

/-- A class already pending is not received anew (R186). -/
theorem LineState.receive_receive (ln : LineState) (c : NoticeClass) : (ln.receive c).receive c = ln.receive c := by
  have h : ∀ (x : BitVec 16) (c : NoticeClass), (x ||| c.set).getLsbD c.bit = true := by
    intro x c; cases c <;> simp [NoticeClass.set, NoticeClass.bit]
  simp only [LineState.receive]
  split
  · simp [*]
  · simp [h]

/-- A class raised twice reaches each line once (R184, R186). -/
theorem State.raise_raise (s : State) (c : NoticeClass) (sub : Subject) : (s.raise c sub).raise c sub = s.raise c sub := by
  apply State.ext_lines
  · unfold State.raise; split <;> simp_all
  · intro m
    have hr : (s.raise c sub).receives m c sub = s.receives m c sub := by unfold State.raise; split <;> rfl
    have hp : (s.raise c sub).phase = s.phase := by unfold State.raise; split <;> rfl
    simp only [State.raise_line, hr, hp]
    split <;> simp [LineState.receive_receive]

/-! ## Records -/

/-- A record joins the table, and a table that becomes low raises RECORDS LOW (R19, R22). -/
theorem State.addRecord_eq (s : State) (r : ExceptionRecord) :
    s.addRecord r =
      let low := decide (256 - (s.stock.exceptions.length + 1 + s.stock.reservation) < 32)
      let u := s.putStock { s.stock with exceptions := s.stock.exceptions ++ [r], recordsLow := low }
      if low && !s.stock.recordsLow then u.raise .recordsLow .nothing else u := by
  simp only [State.addRecord, State.noteRecords, State.unreserved, exceptionCapacity, State.putStock_stock, List.length_append, List.length_singleton, State.putStock_putStock]

set_option linter.unusedSimpArgs false in
/-- The records of a VOID: one a coupon, in coupon order; RECORDS LOW is raised if one of them makes the table low (R22,
R57). -/
theorem State.voidRecords_eq (n : SessionId) : ∀ (cs : List Coupon) (s : State), cs ≠ [] →
    s.voidRecords n cs =
      let lowAfter (m : Nat) := decide (256 - (s.stock.exceptions.length + m + s.stock.reservation) < 32)
      let u := s.putStock { s.stock with
        exceptions := s.stock.exceptions ++ cs.map fun c => s.newRecord c.slot c.serial 1 .voided (some n) (s.session n).clerk
        recordsLow := lowAfter cs.length }
      if lowAfter cs.length = true ∧ (s.stock.recordsLow && lowAfter 1) = false then u.raise .recordsLow .nothing else u
  | [], s, h => absurd rfl h
  | [c], s, _ => by
    simp only [State.voidRecords, State.addRecord_eq, List.map, List.length_singleton]
    cases s.stock.recordsLow <;> by_cases h : 256 - (s.stock.exceptions.length + 1 + s.stock.reservation) < 32 <;> simp [h]
  | c :: d :: rest, s, _ => by
    have hs : ∀ (t : State), (t.raise .recordsLow .nothing).stock = t.stock := by simp
    have hn : ∀ (t : State) m, (t.raise .recordsLow .nothing).session m = t.session m := by
      intro t m; unfold State.raise; split <;> rfl
    have hr : ∀ (t : State) a b c e f g, (t.raise .recordsLow .nothing).newRecord a b c e f g = t.newRecord a b c e f g := by
      intro t a b c e f g; unfold State.raise; split <;> rfl
    have hq : ∀ (t : State) x a b c e f g, (t.putStock x).newRecord a b c e f g = t.newRecord a b c e f g := fun _ _ _ _ _ _ _ _ => rfl
    have ha : ∀ m : Nat, s.stock.exceptions.length + 1 + m + s.stock.reservation = s.stock.exceptions.length + (m + 1) + s.stock.reservation := by omega
    rw [State.voidRecords, State.voidRecords_eq n (d :: rest) _ (by simp), State.addRecord_eq]
    by_cases h1 : 256 - (s.stock.exceptions.length + 1 + s.stock.reservation) < 32
    · have h2 : 256 - (s.stock.exceptions.length + 2 + s.stock.reservation) < 32 := by omega
      have h3 : ∀ m, 256 - (s.stock.exceptions.length + (m + 1 + 1) + s.stock.reservation) < 32 := by omega
      cases h4 : s.stock.recordsLow <;>
        simp [h1, h2, h3, h4, hs, hn, hr, hq, ha, State.raise_putStock, State.putStock_putStock]
    · cases h4 : s.stock.recordsLow <;> by_cases h3 : 256 - (s.stock.exceptions.length + (rest.length + 1 + 1) + s.stock.reservation) < 32 <;>
        simp [h1, h3, h4, hs, hn, hr, hq, ha, State.putStock_putStock]
end Sys2Proof.Machine
end

