-- ==== Sys2Proof/Tests/Slice0.lean ====
section
/-! SUPPORT. Tests of the model. Part 1: each check of WellFormed refuses an ill-formed command. Part 2: one step of each
command, with expected results from the manual's worked examples and tables (the section is named) or counted by hand from the
rule named. Part 3: a witness for every statement with hypotheses: a state and operands that meet them, clause by clause, at
the ends of their ranges. -/

namespace Sys2Proof.Tests

open Sys2Proof Sys2Proof.Machine

/-! ## Part 1: ill-formed commands -/

set_option maxRecDepth 4000 in
/-- One term beyond each width of a request's fields, an ISSUE that names no printer on the office line or one on a window line,
a text of 13 characters, and a body of 250 bytes. -/
theorem test_wellFormed_till : ([
    .setClock 6 (256 ^ 4) 1 0, .setClock 6 0 65536 0, .setClock 6 0 1 256, .signOn 0 65536 0, .signOn 0 1 (256 ^ 4),
    .void 0 (256 ^ 3), .lift 6 256 1, .lift 6 1 (256 ^ 4), .setThresholds 6 (256 ^ 4) 0, .setThresholds 6 0 (256 ^ 4),
    .readTill 0 256, .readJournal 0 256 1, .readJournal 0 1 256, .writeBody 0 (List.replicate 250 0x41)] :
      List Instr).all (!·.wellFormed) = true := by decide

theorem test_wellFormed_queue : ([
    .issue 0 256 1 0 0 1 1 none [], .issue 0 1 256 0 0 1 1 none [], .issue 0 1 1 (256 ^ 4) 0 1 1 none [],
    .issue 0 1 1 0 256 1 1 none [], .issue 0 1 1 0 0 256 1 none [], .issue 0 1 1 0 0 1 256 none [],
    .issue 0 1 1 0 0 1 1 (some 1) [], .issue 6 1 1 0 0 1 1 none [], .issue 6 1 1 0 0 1 1 (some 256) [],
    .issue 0 1 1 0 0 1 1 none (List.replicate 13 0x41), .cancel 0 (256 ^ 3), .abortJob 0 (256 ^ 3), .divert 6 256 1,
    .divert 6 1 256, .setWindowMap 6 256 (Vector.replicate 8 (0, 0)), .setWindowMap 6 1 (Vector.replicate 8 (256, 0)),
    .setWindowMap 6 1 (Vector.replicate 8 (0, 256)), .setDiscount 6 256 0 0 1, .setDiscount 6 1 65536 0 1,
    .setDiscount 6 1 0 (256 ^ 4) 1, .setDiscount 6 1 0 0 256] : List Instr).all (!·.wellFormed) = true := by decide

theorem test_wellFormed_stock : ([
    .setStockKind 6 256 0x41 0x41 0, .setStockKind 6 1 0x41 0x41 65536, .receivePack 6 256 0 1, .receivePack 6 1 (256 ^ 3) 1,
    .receivePack 6 1 0 65536, .loadPack 6 256 1, .loadPack 6 1 256, .unloadPack 6 256, .closePack 6 256, .purgePack 6 256,
    .readPack 6 256, .auditSet 6 256 0, .auditSet 6 1 (256 ^ 3)] : List Instr).all (!·.wellFormed) = true := by decide

theorem test_wellFormed_printer : ([
    .setPrinter 6 256 0 0 0, .setPrinter 6 1 256 0 0, .setPrinter 6 1 0 256 0, .setPrinter 6 1 0 0 256, .release 6 256,
    .takeOffline 6 256, .bringOnline 6 256, .printerReset 6 256, .readFaults 0 65536, .acknowledge 6 65536,
    .readStripAnswer 0 (.strip true 0x53 0x52 (256 ^ 3) ⟨true, true, true⟩)] : List Instr).all (!·.wellFormed) = true := by decide

theorem test_wellFormed_cashup : ([
    .cashupBegin 0 256, .declareCash 0 256 0 0, .declareCash 0 1 256 0, .declareCash 0 1 0 65536, .declareCard 0 256 0,
    .declareCard 0 1 (256 ^ 4), .declareWarrants 0 256 0 0, .declareWarrants 0 1 65536 0, .declareWarrants 0 1 0 (256 ^ 4),
    .cashupCommit 0 256, .cashupAbandon 0 256, .setDenomination 6 256 0, .setDenomination 6 0 65536, .setTolerance 6 65536,
    .review 6 65536, .unknownRequest 0 0x01, .unknownRequest 0 0x59] : List Instr).all (!·.wellFormed) = true := by decide

set_option maxRecDepth 4000 in
/-- The ends of the widths are well-formed, and so is every other command. -/
theorem test_wellFormed_ends : ([
    .setClock 6 (256 ^ 4 - 1) 65535 255, .issue 6 255 255 (256 ^ 4 - 1) 255 255 255 (some 255) (List.replicate 12 0x41),
    .issue 0 1 1 0 0 1 1 none [], .writeBody 0 (List.replicate 249 0x41), .unknownRequest 0 0x00, .unknownRequest 0 0xFF,
    .startUp ⟨true, false⟩ (.recover 3), .clockTick] : List Instr).all (·.wellFormed) = true := by decide

/-! ## Part 2: one step of each command -/

/-- The state after a command. -/
def after (c : Instr) (s : State) : State :=
  match exec c s with
  | .next t => t
  | _ => s

/-- The newest waiting reply of a line after a command. -/
def reply (l : Line) (c : Instr) (s : State) : List Byte :=
  ((((after c s).line l).replies.getLast?).map (·.body)).getD []

def ascii (cs : List Char) : List Byte := cs.map fun c => byteOf c.toNat

def good : Sensors := ⟨true, true, true⟩

/-! ### The fare unit and the ticket body (worked charges 2.4, check codes 2.6, amounts 2.7, expansion 4.8, limits 4.10) -/

theorem test_worked_charges : [chargedTotal 4730 ⟨340, 500, 5⟩ 3, chargedTotal 120 ⟨500, 500, 10⟩ 1, chargedTotal 1003 ⟨0, 0, 5⟩ 1,
    chargedTotal 0 ⟨340, 500, 5⟩ 2, chargedTotal 99999 ⟨1000, 0, 10⟩ 9, chargedTotal 2010 ⟨500, 0, 10⟩ 1,
    chargedTotal 99995 ⟨0, 0, 10⟩ 9, chargedTotal 99999 ⟨0, 0, 1⟩ 9, chargedTotal 800 ⟨500, 500, 5⟩ 4] =
    [9360, 120, 1000, 0, 0, 1010, 899910, 899991, 2000] := by decide

theorem test_worked_check_codes : [checkLetters (checkValue 104217 9360 412 2 1), checkLetters (checkValue 104221 9360 412 2 2),
    checkLetters (checkValue 104222 9360 412 2 2), checkLetters (checkValue 104222 9360 413 2 2)] =
    [ascii ['J', 'O', 'I'], ascii ['J', 'U', 'B'], ascii ['J', 'V', 'M'], ascii ['J', 'V', 'R']] := by decide

theorem test_printed_amounts : [printedAmount 0, printedAmount 5, printedAmount 120, printedAmount 899991] =
    [ascii ['0', '.', '0', '0'], ascii ['0', '.', '0', '5'], ascii ['1', '.', '2', '0'],
      ascii ['8', '9', '9', '9', '.', '9', '1']] := by decide

def nl : Byte := 0x0A

/-- The body of the worked expansion (4.8). -/
def bodyA : List Byte :=
  ascii ['C', 'I', 'T', 'Y', ' ', 'T', 'E', 'R', 'M', 'I', 'N', 'U', 'S'] ++ nl :: 0x80 :: 0x20 :: 0x20 :: 0x88 :: nl ::
  ascii ['P', 'A', 'S', 'S', 'E', 'N', 'G', 'E', 'R', 'S', ' '] ++ 0x89 :: ascii [' ', ' ', 'E', 'A', 'C', 'H', ' '] ++
  0x82 :: nl :: ascii ['T', 'O', 'T', 'A', 'L', ' '] ++ 0x81 :: nl :: 0x83 :: 0x20 :: 0x85 ::
  ascii [' ', 'D', 'A', 'Y', ' '] ++ 0x84 :: nl :: 0x86 :: 0x2F :: 0x87 :: ascii [' ', 'N', 'O', ' '] ++
  0x8B :: ascii [' ', 'C', 'H', 'K', ' '] ++ [0x8A]

def factsA : BodyFacts :=
  { letter1 := 0x53, letter2 := 0x52, serial := 104217, total := 9360, charge := 3120,
    now := ⟨⟨2026, 3, 14⟩, ⟨8, 47, 0⟩⟩, day := 412, session := 3, clerk := 1184, coupon := 1, requested := 2,
    passengers := 3, kind := 2, issue := 117 }

theorem test_worked_expansion : bodyA.length = 72 ∧ expandBody factsA bodyA = (
    [ascii ['C', 'I', 'T', 'Y', ' ', 'T', 'E', 'R', 'M', 'I', 'N', 'U', 'S'],
      ascii ['S', 'R', ' ', '1', '0', '4', '2', '1', '7', ' ', ' ', '1', '/', '2'],
      ascii ['P', 'A', 'S', 'S', 'E', 'N', 'G', 'E', 'R', 'S', ' ', '3', ' ', ' ', 'E', 'A', 'C', 'H', ' ', '3', '1', '.', '2', '0'],
      ascii ['T', 'O', 'T', 'A', 'L', ' ', '9', '3', '.', '6', '0'],
      ascii ['1', '4', '.', '0', '3', '.', '2', '6', ' ', '0', '8', ':', '4', '7', ' ', 'D', 'A', 'Y', ' ', '0', '4', '1', '2'],
      ascii ['W', '4', '/', '1', '1', '8', '4', ' ', 'N', 'O', ' ', '0', '0', '1', '1', '7', ' ', 'C', 'H', 'K', ' ', 'J', 'O', 'I']],
    false, false) := by decide

/-- A line of 36 characters and the total: the point and the 6 take positions 39 and 40 (4.10). -/
theorem test_worked_limits :
    let line := List.replicate 36 0x41 ++ [0x81]
    let x := expandBody factsA (line ++ nl :: [0x31, 0x09, 0x32, nl, nl] ++ List.replicate 9 nl ++ [0x41, nl])
    x.1.head? = some (List.replicate 36 0x41 ++ ascii ['9', '3', '.', '6']) ∧ x.1[1]? = some [0x31, 0x3F, 0x32] ∧
      x.1[2]? = some [] ∧ x.1.length = 12 ∧ x.2 = (true, true) := by decide

/-! ### The clock (R191, R192, R201: counted by hand) -/

/-- 29 February 2000 is day 59 of the calendar; 31 December 2099 its last. -/
theorem test_stamps : DateTime.toStamp ⟨⟨2000, 2, 29⟩, ⟨0, 0, 1⟩⟩ = 59 * 86400 + 1 ∧
    DateTime.toStamp ⟨⟨2099, 12, 31⟩, ⟨23, 59, 59⟩⟩ = 36525 * 86400 - 1 := by decide

def sunday (h m sec : Nat) : State := State.reset.putClock ⟨⟨⟨2026, 2, 28⟩, ⟨h, m, sec⟩⟩, 9999, 0, true⟩

/-- The tables of R104, R107, R110 and R176. -/
theorem test_durations :
    [lineRate ⟨false, false⟩, lineRate ⟨false, true⟩, lineRate ⟨true, false⟩, lineRate ⟨true, true⟩] =
      [9600, 19200, 38400, 57600] ∧
    (List.range 4).map (Operation.deadlineTime .advance) = [400, 800, 1200, 1600] ∧
    (List.range 4).map settleTime = [0, 50, 100, 200] ∧
    [PrinterState.idle, .reading, .fault].map PrinterState.enquiryInterval = [some 5000, none, some 2000] := by decide

/-- Past midnight into the roll hour 0, date, time and booking day change in one event, from day 9,999 to day 1, and DAY ROLL
joins every line's pending set (R78, R192); a second elsewhere leaves the day. -/
theorem test_clockTick_rolls :
    (let t := after .clockTick (sunday 23 59 59);
      t.clock = ⟨⟨⟨2026, 3, 1⟩, ⟨0, 0, 0⟩⟩, 1, 0, true⟩ ∧
        (t.line 3).pendingSet.getLsbD NoticeClass.dayRoll.bit = true ∧ after .dayRoll t = t) ∧
    (after .clockTick (sunday 23 59 58)).clock = ⟨⟨⟨2026, 2, 28⟩, ⟨23, 59, 59⟩⟩, 9999, 0, true⟩ := by decide

/-- DAY ROLL is the second that passes into the roll hour, and no event at another time (R192). -/
theorem test_dayRoll : after .dayRoll (sunday 23 59 59) = after .clockTick (sunday 23 59 59) ∧
    after .dayRoll (sunday 23 59 58) = sunday 23 59 58 := by decide

/-- A roll that falls while the part is halted or starts up advances the day then, and is never noticed (R192). -/
theorem test_clockTick_beforeOpening :
    let halted := after .clockTick (after .rstAsserted (sunday 23 59 59))
    let starting := after .clockTick (after (.startUp ⟨false, false⟩ .volatile) (after .rstAsserted (sunday 23 59 59)))
    [halted, starting].all fun s =>
      let t := after (.startUp ⟨false, false⟩ .opened) s
      s.clock.day == 1 && t.clock == s.clock && (t.line 3).pendingSet == startUpSet := by
  decide

theorem test_setClock : (after (.setClock 6 (59 * 86400) 412 2) State.reset).clock =
    ⟨⟨⟨2000, 2, 29⟩, ⟨0, 0, 0⟩⟩, 412, 2, true⟩ := by decide

theorem test_setClock_window : reply 0 (.setClock 0 0 412 2) State.reset = replyBody 0x06 .notPermitted [] := by decide

theorem test_readClock : reply 0 (.readClock 0) State.reset = [0x85, 0, 0, 0, 0, 0, 0, 1, 2, 0] := by decide

/-! ### The request lines (worked sequence 9.11, R179-R189) -/

theorem test_readNotices : reply 1 (.readNotices 1) State.reset = [0x81, 0, 0x80, 0, 1] ∧
    ((after (.readNotices 1) State.reset).line 1).pendingSet = 0 := by decide

theorem test_setNoticeMask : reply 1 (.setNoticeMask 1 0xFFFB) State.reset = [0x82, 0, 0xFF, 0xFB, 0x80, 0] := by decide

theorem test_readOutcomes_office : reply 6 (.readOutcomes 6) State.reset = [0x83, 0, 0] := by decide

theorem test_abort_nothing : reply 6 (.abort 6) State.reset = [0x84, 0] := by decide

theorem test_unknownRequest : reply 2 (.unknownRequest 2 0x07) State.reset = replyBody 0x07 .unknownRequest [] := by decide

theorem test_rejected : reply 2 (.rejected 2 (some 0x10)) State.reset = replyBody 0x10 .rejected [] := by decide

set_option maxRecDepth 4000 in
theorem test_writeBody : ((after (.writeBody 3 bodyA) State.reset).line 3).body = bodyA ∧
    reply 3 (.writeBody 3 (List.replicate 193 0x41)) State.reset = replyBody 0x16 .badParameter [] := by decide

/-- A line whose second request arrived while the START-UP notice was being sent. -/
def waiting : State := after (.readClock 0) State.reset

theorem test_frameSent : ((after (.frameSent 0) waiting).line 0).sending =
    some ⟨[0xA5, 10, 0x85, 0, 0, 0, 0, 0, 0, 1, 2, 0, 0x6E], none⟩ := by decide

theorem test_gapTimer : ((after (.gapTimer 0) (after (.requestLineByteArrives 0 0xA5) State.reset)).line 0).receiver =
    .waitLead := by decide

theorem test_requestLineByteArrives : ((after (.requestLineByteArrives 0 0xA5) State.reset).line 0).receiver =
    .length 0xA5 := by decide

/-! ### The till (worked day 3.9) and cash-up (worked cash-up 8.8) -/

def sessionThree (estimate settled voided : Nat) (drawer : DrawerState) : Session :=
  { Session.storeLoss with
    state := .opened, clerk := some 2317, float := 10000, cash := ⟨settled, 23, voided, 0, 0, 0⟩,
    card := ⟨61200, 2, 0, 0, 0, 0⟩, warrant := ⟨18940, 2, 0, 0, 0, 0⟩, liftsTotal := 100000, liftsCount := 1,
    estimate := estimate, drawer := drawer, nextIssue := 28
    journal := [⟨26, 1, .cash, 9360, 3, 1, [⟨4, 104217⟩], [], ⟨Clock.storeLoss.now, 1⟩, false⟩] }

def threshold (s : State) (high low : Nat) : State := s.putTill { s.till with high := high, low := low }

theorem test_signOn : ((after (.signOn 2 2317 10000) (threshold State.reset 150000 20000)).session 2).drawer = .low ∧
    ((after (.signOn 2 2317 10000) (threshold State.reset 150000 20000)).session 2).estimate = 10000 := by decide

def beforeVoid : State := (threshold State.reset 150000 20000).putSession 2 (sessionThree 63460 153460 0 .normal)

theorem test_void : ((after (.void 2 26) beforeVoid).session 2).cash = ⟨153460, 23, 9360, 1, 0, 0⟩ ∧
    ((after (.void 2 26) beforeVoid).session 2).estimate = 54100 ∧
    (after (.void 2 26) beforeVoid).stock.exceptions.map (fun r => (r.first, r.session)) = [(104217, some 2)] := by decide

def beforeLift : State := (threshold State.reset 150000 20000).putSession 2 (sessionThree 153460 143460 0 .high)

theorem test_lift : ((after (.lift 6 3 100000) beforeLift).session 2).estimate = 53460 ∧
    ((after (.lift 6 3 100000) beforeLift).session 2).drawer = .normal := by decide

theorem test_lift_short : reply 6 (.lift 6 3 60000) (beforeLift.putSession 2 (sessionThree 54100 153460 9360 .normal)) =
    replyBody 0x12 .drawerShort [] := by decide

theorem test_setThresholds : ((after (.setThresholds 6 50000 20000) beforeVoid).session 2).drawer = .normal ∧
    (after (.setThresholds 6 50000 20000) beforeVoid).till.high = 50000 := by decide

theorem test_readTill_window : reply 0 (.readTill 0 3) beforeVoid = replyBody 0x14 .notPermitted [] := by decide

/-- 4 settled bytes of each tender stand at their places of the reply (R64, R203). -/
theorem test_readTill : ((reply 2 (.readTill 2 3) beforeVoid).drop 15).take 7 = [0, 2, 0x57, 0x74, 0, 0, 23] := by decide

theorem test_readJournal : reply 2 (.readJournal 2 3 2) beforeVoid = replyBody 0x15 .notFound [] := by decide

def faces : Vector Nat 12 := Vector.ofFn fun i => ([1, 2, 5, 10, 20, 50, 100, 200, 500, 1000, 2000, 5000].getD i.val 0)
def counts : Vector Nat 12 := Vector.ofFn fun i => ([0, 0, 0, 2, 4, 7, 9, 6, 11, 8, 9, 4].getD i.val 0)

def cashing : State :=
  (State.reset.putTill { State.reset.till with denominations := faces, tolerance := 100 }).putSession 2
    { sessionThree 54100 153460 9360 .normal with
      state := .cashup, owner := some 2, declared := ⟨counts, 61200, 2, 18940⟩, cash := ⟨153460, 23, 9360, 1, 0, 0⟩ }

theorem test_cashupBegin : ((after (.cashupBegin 2 3) beforeVoid).session 2).owner = some 2 ∧
    ((after (.cashupBegin 2 3) beforeVoid).session 2).state = .cashup := by decide

theorem test_declareCash_counted : (reply 2 (.declareCash 2 3 9 7) cashing).drop 5 = beSigned 5 53050 := by decide

theorem test_declareCard_owner : reply 6 (.declareCard 6 3 61200) cashing = replyBody 0x52 .notOwner [] := by decide

theorem test_declareWarrants : ((after (.declareWarrants 2 3 3 5) cashing).session 2).declared.warrantTotal = 5 := by decide

theorem test_cashupCommit : (after (.cashupCommit 2 3) cashing).till.cashups.map (·.figures) =
    [⟨54050, 54100, 44050, -50, 61200, 0, 2, 0, 18940, 0⟩] ∧
    (after (.cashupCommit 2 3) cashing).till.cashups.map (·.isBalanced) = [true] := by decide

theorem test_cashupCommit_short :
    (after (.cashupCommit 2 3) (cashing.putTill { cashing.till with tolerance := 40 })).till.cashups.map
      (fun r => (r.cashClass, r.review)) = [(.short, .needed)] := by decide

theorem test_cashupAbandon : ((after (.cashupAbandon 6 3) cashing).session 2).state = .opened ∧
    ((after (.cashupAbandon 6 3) cashing).session 2).declared = .zero := by decide

/-- A face already held is refused before the session in CASHUP is looked at (R159). -/
theorem test_setDenomination : reply 6 (.setDenomination 6 0 5000) cashing = replyBody 0x56 .badParameter [] ∧
    reply 6 (.setDenomination 6 0 3) cashing = replyBody 0x56 .inUse [] := by decide

theorem test_setTolerance : (after (.setTolerance 6 10000) cashing).till.tolerance = 10000 := by decide

def committed : State := after (.cashupCommit 2 3) (cashing.putTill { cashing.till with tolerance := 40 })

theorem test_readCashup : (after (.readCashup 6) committed).till.cashups.map (·.isRead) = [true] := by decide

theorem test_review : (after (.review 6 1) committed).till.cashups.map (·.review) = [.done] := by decide

/-! ### The stock (worked pack 1.11) -/

def packFive (cursor : Nat) (st : PackState) (place : Option PrinterId) : Pack :=
  ⟨1, 104200, 500, cursor, st, place, 412, false⟩

/-- Printer 2 of the worked pack history: kind 2, prefix SR, threshold 50, slot 5 loaded. -/
def shop (cursor : Nat) : State :=
  ((((State.reset.putKind 1 ⟨0x53, 0x52, 50⟩).putPack 4 (some (packFive cursor .loaded (some 1)))).putLoaded 1 (some 4)).putConfig
    1 ⟨some 1, 1, 1⟩).putClock ⟨⟨⟨2026, 3, 14⟩, ⟨8, 47, 0⟩⟩, 412, 2, true⟩

/-- The same pack in the office. -/
def stored (cursor : Nat) (st : PackState) : State :=
  ((shop cursor).putPack 4 (some (packFive cursor st none))).putLoaded 1 none

theorem test_setStockKind : (after (.setStockKind 6 2 0x53 0x52 50) State.reset).kind 1 = ⟨0x53, 0x52, 50⟩ ∧
    reply 6 (.setStockKind 6 2 0x53 0x54 50) (shop 104217) = replyBody 0x30 .inUse [] := by decide

theorem test_receivePack : (after (.receivePack 6 2 104200 500) (State.reset.putKind 1 ⟨0x53, 0x52, 50⟩)).pack 0 =
    some ⟨1, 104200, 500, 104200, .received, none, 1, false⟩ := by decide

theorem test_receivePack_overlap : reply 6 (.receivePack 6 2 104699 1) (shop 104217) = replyBody 0x31 .overlap [] := by decide

theorem test_closePack : (after (.closePack 6 5) (stored 104650 .unloaded)).stock.exceptions.map
    (fun r => (r.reason, r.first, r.span, r.session)) = [(.returned, 104650, 50, none)] ∧
    (after (.closePack 6 5) (stored 104650 .unloaded)).pack 4 = some (packFive 104700 .closed none) := by decide

theorem test_purgePack : reply 6 (.purgePack 6 5) (stored 104700 .closed) = [0xB5, 0, 0, 0] ∧
    (after (.purgePack 6 5) (stored 104700 .closed)).pack 4 = none := by decide

def idle (c : Controller) : Controller :=
  { c with state := .idle, head := .engaged, position := .none, sensors := some good, idleLift := true }

/-- Printer 2 IDLE with the head ENGAGED and position NONE (6.9, step 0). -/
def atRest (cursor : Nat) : State := (shop cursor).putCtl 1 (idle .startUp)

theorem test_unloadPack : (after (.unloadPack 6 2) (atRest 104650)).pack 4 = some (packFive 104650 .unloaded none) ∧
    ((after (.unloadPack 6 2) (atRest 104650)).ctl 1).position = .unknown := by decide

theorem test_loadPack : ((after (.loadPack 6 5 2) ((stored 104217 .unloaded).putCtl 1 (idle .startUp))).ctl 1).outstanding =
    some ⟨.readStrip, .load, false⟩ ∧
    ([some ⟨.lift, .idleLift, false⟩, some ⟨.enquire, .enquiry, false⟩].map fun o =>
      ((after (.loadPack 6 5 2) ((stored 104217 .unloaded).putCtl 1 { idle .startUp with outstanding := o })).ctl 1).state) =
      [.engaging, .reading] := by decide

theorem test_readPack : reply 6 (.readPack 6 5) (shop 104650) =
    [0xB6, 0, 5, 2] ++ be 3 104200 ++ be 2 500 ++ be 3 104650 ++ [2, 2] ++ be 2 412 ++ [0] ++ be 2 50 ++ [0, 0, 0, 0] := by decide

def records : State :=
  (stored 104700 .closed).putStock { (stored 104700 .closed).stock with exceptions := [
    ⟨4, 104218, 3, .skipped, some 3, some 1184, ⟨Clock.storeLoss.now, 412⟩, true⟩,
    ⟨4, 104650, 50, .returned, none, none, ⟨Clock.storeLoss.now, 412⟩, false⟩] }

theorem test_readException : (after (.readException 6) records).stock.exceptions.map (·.isRead) = [true, true] ∧
    reply 6 (.purgePack 6 5) records = replyBody 0x35 .inUse [] := by decide

theorem test_auditSet : (after (.auditSet 6 5 104699) records).audit = some (4, 104699) ∧
    reply 6 (.auditSet 6 5 104700) records = replyBody 0x38 .badParameter [] := by decide

theorem test_auditNext : reply 6 (.auditNext 6) (records.putAudit (some (4, 104219))) =
    [0xB9, 0, 5] ++ be 3 104219 ++ [3] ++ be 3 104218 ++ be 2 3 ++ [0] ∧
    (after (.auditNext 6) (records.putAudit (some (4, 104699)))).audit = some (4, 104699) := by decide

/-! ### Issues and queues (worked sequences 5.9, 6.9) -/

def seller : Session :=
  { Session.storeLoss with state := .opened, clerk := some 1184, float := 10000, estimate := 10000, nextIssue := 117 }

/-- Window W4 with clerk 1184, its body written, its map naming printer 2, and the case A entry at index 1. -/
def selling (s : State) : State :=
  (((s.putSession 3 seller).putMap 3 (Vector.replicate 8 ⟨some 1, none⟩)).putDiscount 1 ⟨340, 500, 5⟩).putLine 3
    { s.line 3 with body := bodyA }

def issueA : Instr := .issue 3 2 3 4730 1 1 2 none []

/-- The issue is accepted, admitted at once, and ADVANCE goes out (6.9, step 1); behind an idle LIFT the printer shows ENGAGING
(R104, R122). -/
theorem test_issue : reply 3 issueA (selling (atRest 104217)) = [0xA0, 0] ++ be 3 117 ++ be 4 9360 ++ [2] ∧
    ((after issueA (selling (atRest 104217))).ctl 1).state = .feeding ∧
    (after issueA (selling (atRest 104217))).stock.reservation = 6 ∧
    ((after issueA (selling (after (.idleLiftTimer 1) (atRest 104217)))).ctl 1).state = .engaging := by decide

theorem test_issue_noPrinter : reply 3 issueA (selling (shop 104217)) = replyBody 0x20 .noPrinter [] := by decide

def jobA : Job :=
  { session := 3, issue := 117, kind := 1, tender := .cash, passengers := 3, index := 1, charge := 3120, total := 9360,
    requested := 2, printed := [], failures := 0, reference := [], body := bodyA, state := .printing, printer := 1,
    reservation := 6, abortMark := false, substituted := false, truncated := false }

def pendingSeller (n : Nat) : Session := { seller with cash := ⟨0, 0, 0, 0, 9360 * n, n⟩, nextIssue := 118 }

/-- The job in progress on printer 2, its controller in a state with an operation outstanding. -/
def working (cursor : Nat) (j : Job) (inHand : Bool) (st : PrinterState) (op : Operation) (sent : Nat) : State :=
  let s := (selling (shop cursor)).putSession 3 (pendingSeller 1)
  ((s.putProgress 1 (some ⟨j, inHand⟩)).putStock { s.stock with reservation := j.reservation }).putCtl 1
    { Controller.startUp with
      state := st, head := .engaged, position := if inHand then .verified else .none, sensors := some good
      outstanding := some ⟨op, .loop, false⟩, sending := some op.frame, expansion := (expandBody factsA bodyA).1,
      linesSent := sent }

/-- The same job queued on a HELD printer 2. -/
def queued : State :=
  (((selling (shop 104217)).putSession 3 (pendingSeller 1)).putLane 1
    ⟨[], [{ jobA with state := .queued, reservation := 0 }]⟩).putCtl 1 { Controller.startUp with state := .held, held := true }

theorem test_cancel : ((after (.cancel 3 117) queued).session 3).cash = ⟨0, 0, 0, 0, 0, 0⟩ ∧
    (after (.cancel 3 117) queued).lane 1 = ⟨[], []⟩ := by decide

theorem test_cancel_inProgress : reply 3 (.cancel 3 117) (working 104217 jobA false .feeding .advance 0) =
    replyBody 0x21 .inProgress [] := by decide

/-- The abort mark is volatile: setting it is no update of the retained store (R107, R196). -/
theorem test_abortJob : (((after (.abortJob 3 117) (working 104217 jobA false .feeding .advance 0)).inProgress 1).map
    (·.job.abortMark)) = some true ∧
    (after (.abortJob 3 117) { working 104217 jobA false .feeding .advance 0 with signature := .other }).signature = .other := by
  decide

theorem test_abortJob_queued : ((after (.abortJob 3 117) queued).line 3).outcomes.map (·.result) = [.aborted] := by decide

theorem test_divert : (after (.divert 6 2 1) (queued.putConfig 0 ⟨some 1, 1, 1⟩)).lane 0 =
    ⟨[], [{ jobA with state := .queued, reservation := 0, printer := 0 }]⟩ := by decide

theorem test_setWindowMap : (after (.setWindowMap 6 4 (Vector.replicate 8 (2, 0))) State.reset).maps[3] =
    Vector.replicate 8 ⟨some 1, none⟩ ∧
    reply 6 (.setWindowMap 6 4 (Vector.replicate 8 (2, 2))) State.reset = replyBody 0x24 .badParameter [] := by decide

theorem test_setDiscount : (after (.setDiscount 6 15 1000 99999 10) State.reset).discounts[15] = ⟨1000, 99999, 10⟩ ∧
    reply 6 (.setDiscount 6 0 0 0 1) State.reset = replyBody 0x25 .badParameter [] := by decide

/-! ### The printer at work (worked sequence 6.9) -/

def j1 : Job := { jobA with printed := [⟨4, 104217⟩] }

theorem test_advanceAnswer : ((after (.advanceAnswer 1 (.ok good)) (working 104217 jobA false .feeding .advance 0)).ctl 1).outstanding =
    some ⟨.readStrip, .loop, false⟩ := by decide

/-- Step 2: the form is VERIFIED and the first line sent. -/
theorem test_readStripAnswer : ((after (.readStripAnswer 1 (.strip true 0x53 0x52 104217 good))
    (working 104217 jobA false .reading .readStrip 0)).ctl 1).outstanding =
    some ⟨.printLine (ascii ['C', 'I', 'T', 'Y', ' ', 'T', 'E', 'R', 'M', 'I', 'N', 'U', 'S']), .loop, false⟩ := by decide

/-- Step 4: the stock gap: SKIPPED 104,218 span 3, the cursor at 104,221, the printer HELD. -/
theorem test_readStripAnswer_gap :
    let t := after (.readStripAnswer 1 (.strip true 0x53 0x52 104221 good)) (working 104218 j1 false .reading .readStrip 0)
    t.stock.exceptions.map (fun r => (r.reason, r.first, r.span)) = [(.skipped, 104218, 3)] ∧
      (t.pack 4).map (·.cursor) = some 104221 ∧ (t.ctl 1).state = .held ∧ (t.ctl 1).position = .verified ∧
      t.stock.reservation = 5 := by decide

/-- Step 3: six lines, then EJECT. -/
theorem test_printLineAnswer : ((after (.printLineAnswer 1 (.ok good))
    (working 104217 jobA true .printing (.printLine []) 6)).ctl 1).outstanding = some ⟨.eject, .loop, false⟩ := by decide

/-- Step 6: the third PRINT LINE is refused JAM: SPOILED at the cursor, the printer in FAULT. -/
theorem test_printLineAnswer_jam :
    let t := after (.printLineAnswer 1 (.refused .jam)) (working 104221 j1 true .printing (.printLine []) 3)
    t.stock.exceptions.map (fun r => (r.reason, r.first, r.span)) = [(.spoiled, 104221, 1)] ∧
      (t.ctl 1).state = .fault ∧ (t.ctl 1).position = .unknown ∧
      (t.inProgress 1).map (fun g => (g.job.state, g.job.failures)) = some (.suspended, 1) := by decide

/-- Step 3: coupon 1 is complete and the next pass feeds. -/
theorem test_ejectAnswer : ((after (.ejectAnswer 1 (.ok good)) (working 104217 jobA true .ejecting .eject 6)).ctl 1).state =
    .feeding := by decide

/-- Step 11: the last coupon settles the issue. -/
theorem test_ejectAnswer_settles :
    let t := after (.ejectAnswer 1 (.ok good)) (working 104222 j1 true .ejecting .eject 6)
    ((t.session 3).journal.map (·.coupons)) = [[⟨4, 104217⟩, ⟨4, 104222⟩]] ∧ (t.session 3).estimate = 19360 ∧
      t.stock.reservation = 0 ∧ (t.ctl 1).state = .idle ∧ ((t.line 3).outcomes.map (·.result)) = [.done] := by decide

theorem test_engageAnswer : ((after (.engageAnswer 1 (.ok good)) (working 104222 j1 false .engaging .engage 0)).ctl 1).settling =
    true := by decide

/-- The answer to an ENGAGE whose loop an open cover has stopped is set aside: the head stays LIFTED (R106, R120). -/
theorem test_engageAnswer_stopped :
    let open1 := after (.sensorChange 1 ⟨false, true, true⟩) ((working 104222 j1 false .engaging .engage 0).putCtl 1
      { (working 104222 j1 false .engaging .engage 0).ctl 1 with head := .lifted })
    (open1.ctl 1).outstanding = some ⟨.engage, .stopped, false⟩ ∧
      ((after (.engageAnswer 1 (.ok ⟨false, true, true⟩)) open1).ctl 1).head = .lifted := by decide

/-- The end of the settle time feeds for a job; for a load taken from IDLE it reads the strip, the printer READING (R8, R112). -/
theorem test_settleTime : ((after (.settleTime 1) (after (.engageAnswer 1 (.ok good))
    (working 104222 j1 false .engaging .engage 0))).ctl 1).outstanding = some ⟨.advance, .loop, false⟩ ∧
    (let c := (after (.settleTime 1) ((stored 104217 .unloaded).putCtl 1
        { idle .startUp with state := .engaging, settling := true, load := some ⟨4, 0, .idle⟩ })).ctl 1;
      c.state = .reading ∧ c.outstanding = some ⟨.readStrip, .load, false⟩) := by decide

/-- Steps 7 and 8: the cover opens on a printer in FAULT, and an all-good set clears it. -/
def jammed : State := after (.printLineAnswer 1 (.refused .jam)) (working 104221 j1 true .printing (.printLine []) 3)

theorem test_sensorChange : ((after (.sensorChange 1 ⟨false, true, true⟩) jammed).ctl 1).head = .lifted ∧
    ((after (.sensorChange 1 good) jammed).ctl 1).state = .reading := by decide

theorem test_liftAnswer : ((after (.liftAnswer 1 (.ok good)) ((atRest 104217).putCtl 1
    { idle .startUp with outstanding := some ⟨.lift, .idleLift, false⟩ })).ctl 1).head = .lifted := by decide

/-- The first frame ends ABSENT (R124). -/
theorem test_enquireAnswer : ((after (.enquireAnswer 1 (.ok good)) ((shop 104217).putCtl 1
    { Controller.startUp with outstanding := some ⟨.enquire, .enquiry, true⟩ })).ctl 1).state = .idle := by decide

theorem test_printerFrameSetAside : ((after (.printerFrameSetAside 1 .other) (shop 104217)).ctl 1).state = .absent ∧
    ((after (.printerFrameSetAside 1 (.refusal .jam)) (shop 104217)).ctl 1).state = .fault := by decide

theorem test_printerLine_bytes : ((after (.printerLineByteArrives 1 0xA6) (shop 104217)).ctl 1).receiver = .length 0xA6 ∧
    ((after (.printerLineGap 1) (after (.printerLineByteArrives 1 0xA6) (shop 104217))).ctl 1).receiver = .waitLead ∧
    ((after (.printerFrameDiscarded 1) (after (.printerLineByteArrives 1 0xA5) (shop 104217))).ctl 1).receiver = .waitLead := by
  decide

/-- The second miss is LINK LOST; an ENQUIRE of an ABSENT printer just ends (R105). -/
theorem test_operationDeadline : ((after (.operationDeadline 1) ((atRest 104217).putCtl 1
    { idle .startUp with outstanding := some ⟨.lift, .idleLift, false⟩, missed := 1 })).log.entries.map (·.kind)).getLast? =
    some .linkLost ∧
    (after (.operationDeadline 1) ((shop 104217).putCtl 1 { Controller.startUp with
      outstanding := some ⟨.enquire, .enquiry, true⟩ })).log = FaultLog.storeLoss := by decide

theorem test_idleLiftTimer : ((after (.idleLiftTimer 1) (atRest 104217)).ctl 1).outstanding = some ⟨.lift, .idleLift, false⟩ := by
  decide

/-- The ENQUIRE goes out as its frame, A5 01 07 F8 (R204). -/
theorem test_enquiryTimer : ((after (.enquiryTimer 1) (shop 104217)).ctl 1).outstanding = some ⟨.enquire, .enquiry, true⟩ ∧
    ((after (.enquiryTimer 1) (shop 104217)).ctl 1).sending = some [0xA5, 0x01, 0x07, 0xF8] := by decide

/-! ### Requests on a printer, and the log (R110, R127-R131, R146-R148) -/

theorem test_setPrinter : (after (.setPrinter 6 1 2 3 3) (shop 104217)).config 0 = ⟨some 1, 3, 3⟩ ∧
    reply 6 (.setPrinter 6 2 2 3 3) (shop 104217) = replyBody 0x40 .inUse [] := by decide

/-- Step 5: RELEASE; the suspended job resumes with a read of the head form. -/
theorem test_release :
    let held := after (.readStripAnswer 1 (.strip true 0x53 0x52 104221 good)) (working 104218 j1 false .reading .readStrip 0)
    ((after (.release 6 2) held).ctl 1).state = .reading ∧
      ((after (.release 6 2) held).log.entries.getLast?).map (·.state) = some .cleared := by decide

theorem test_takeOffline : ((after (.takeOffline 6 2) (atRest 104217)).ctl 1).state = .offline ∧
    ((after (.takeOffline 6 2) (atRest 104217)).ctl 1).outstanding = some ⟨.lift, .offlineLift, false⟩ := by decide

theorem test_bringOnline : ((after (.bringOnline 6 2) ((shop 104217).putCtl 1
    { Controller.startUp with state := .offline })).ctl 1).state = .idle := by decide

def resetting : State := after (.printerReset 6 2) (working 104221 j1 true .printing (.printLine []) 3)

/-- The printed coupon is INCOMPLETE, and the form in hand LOST (R98, R130). -/
theorem test_printerReset : resetting.stock.exceptions.map (fun r => (r.reason, r.first)) =
    [(.incomplete, 104217), (.lost, 104221)] ∧ (resetting.ctl 1).state = .absent := by decide

theorem test_printerResetWait : reply 6 (.printerResetWait 1 true) resetting = [0xC4, 0, 1] := by decide

theorem test_readPrinters : ((reply 0 (.readPrinters 0) jammed).drop 27).take 7 = [8, 2, 3, 0, 2, 1, 1] := by decide

theorem test_readFaults : (reply 0 (.readFaults 0 2) jammed).take 7 = [0xC6, 0, 0, 3, 2, 1, 1] ∧
    reply 0 (.readFaults 0 9) State.reset = replyBody 0x46 .notFound [0, 2, 1, 0, 0] := by decide

theorem test_acknowledge : (after (.acknowledge 6 1) State.reset).log.entries.map (·.state) = [.acknowledged] ∧
    (after (.acknowledge 6 1) { after (.acknowledge 6 1) State.reset with signature := .other }).signature = .other ∧
    reply 6 (.acknowledge 6 2) jammed = replyBody 0x47 .wrongState [] := by decide

/-! ### The part (R63, R132, R195-R199) -/

theorem test_drawerPulseEnd : (after (.drawerPulseEnd 2) (State.reset.putDrawer 2 true)).drawers[2] = false := by decide

theorem test_lampFlash : (jammed.ctl 1).lamp = .fastFlash ∧ (jammed.ctl 1).lampOn = true ∧
    ((after (.lampFlash 1) jammed).ctl 1).lampOn = false := by decide

theorem test_pfailAsserted : (after .pfailAsserted jammed).phase = .halted ∧ (after .pfailAsserted jammed).log = jammed.log := by
  decide

theorem test_rstAsserted : (after .rstAsserted jammed).phase = .halted ∧
    ((after .rstAsserted jammed).line 3).body = bodyA := by decide

theorem test_backupSupplyLost : (after (.backupSupplyLost .belowRange) State.reset).signature = .other := by decide

/-- Start-up after store loss gives the state after reset (R197). -/
theorem test_startUp_storeLoss :
    after (.startUp ⟨false, false⟩ .opened) (after (.backupSupplyLost .belowRange) (after .pfailAsserted jammed)) =
      { State.reset with draws := jammed.draws } := by decide

/-- Start-up with the store kept recovers the job: INCOMPLETE 104,217 and the outcome POWER (R198), though the first try is
broken off by PFAIL once the job is recovered (R98). -/
theorem test_startUp_storeKept :
    let off := after .pfailAsserted (working 104221 j1 false .feeding .advance 0)
    let again := after .pfailAsserted (after (.startUp ⟨false, false⟩ (.recover 1)) off)
    let t := after (.startUp ⟨false, false⟩ .opened) again
    again.inProgress 1 = none ∧ t.stock.exceptions.map (fun r => (r.reason, r.first)) = [(.incomplete, 104217)] ∧
      (t.line 3).outcomes.map (·.result) = [.power] ∧ (t.session 3).cash.pendingCount = 0 ∧ t.setAside = [] := by decide

/-! ## Part 3: witnesses -/

theorem witness_StepRunsFrontCommand :
    (State.reset.putPending [.clockTick, .dayRoll]).pending = .clockTick :: [.dayRoll] ∧ State.reset.pending = [] := by decide

/-- A window line and the office line are ready after reset: for SIGN ON, READ TILL, READ JOURNAL, the line's own requests, READ
PRINTERS, READ FAULTS and the requests of the office. -/
theorem witness_Ready : State.reset.Ready 0 ∧ State.reset.Ready 5 ∧ State.reset.Ready officeLine := by decide

theorem witness_SignOnOpensSession : State.reset.Ready 0 ∧ cashing.Ready 2 := by decide

def entry (n : Nat) : JournalEntry := ⟨n, 1, .cash, 9360, 3, 1, [⟨4, 104217⟩], [], ⟨Clock.storeLoss.now, 1⟩, false⟩

def voiding : State := beforeVoid.putSession 2 { beforeVoid.session 2 with journal := [entry 99999, entry 1] }

theorem witness_VoidUndoesIssue :
    (State.reset.Ready 2 ∧ (State.reset.session 2).state = .closed) ∧ (cashing.Ready 2 ∧ (cashing.session 2).state = .cashup) ∧
    (voiding.Ready 2 ∧ (voiding.session 2).state = .opened) ∧ (0 < 1 ∨ 99999 < 0) ∧ (100000 < 1 ∨ 99999 < 100000) ∧
    (∀ e ∈ (voiding.session 2).journal, e.issue ≠ 99998) ∧
    ((voiding.session 2).journal = [] ++ entry 99999 :: [entry 1] ∧ (∀ f ∈ [] ++ [entry 1], f.issue ≠ (entry 99999).issue) ∧
      1 ≤ (entry 99999).issue ∧ (entry 99999).issue ≤ 99999) ∧
    ((voiding.session 2).journal = [entry 99999] ++ entry 1 :: [] ∧
      (∀ f ∈ [entry 99999] ++ [], f.issue ≠ (entry 1).issue) ∧ 1 ≤ (entry 1).issue ∧ (entry 1).issue ≤ 99999) := by decide

theorem witness_LiftTakesCash : (0 : Line) ≠ officeLine ∧ beforeLift.Ready 0 ∧ beforeLift.Ready officeLine ∧
    (0 < 1 ∨ 7 < 0) ∧ (8 < 1 ∨ 7 < 8) := by decide

theorem witness_TillIsRead : beforeVoid.Ready 2 ∧ beforeVoid.Ready officeLine ∧ (0 < 1 ∨ 7 < 0) ∧ (8 < 1 ∨ 7 < 8) := by decide

theorem witness_OfficeSetsTables : cashing.Ready officeLine ∧ 15 < 16 ∧ 11 < 12 ∧ (0 < 1 ∨ 8 < 0) ∧ (9 < 1 ∨ 8 < 9) ∧
    (0 < 1 ∨ 6 < 0) ∧ (7 < 1 ∨ 6 < 7) ∧
    (∃ k : Fin 8, 4 < (Vector.replicate 8 (5, 0))[k].1 ∨ 4 < (Vector.replicate 8 (5, 0))[k].2) ∧
    (∃ k : Fin 8, 4 < (Vector.replicate 8 (0, 5))[k].1 ∨ 4 < (Vector.replicate 8 (0, 5))[k].2) := by decide

def allSlots : State :=
  (shop 104217).putStock { (shop 104217).stock with packs := Vector.replicate 64 (some (packFive 104217 .unloaded none)) }

theorem witness_PackIsReceived : (shop 104217).Ready officeLine ∧ (0 < 1 ∨ 8 < 0) ∧ (9 < 1 ∨ 8 < 9) ∧
    (State.reset.kind 0 = ⟨0x2D, 0x2D, (State.reset.kind 0).threshold⟩) ∧
    (999999 < 1000000 ∧ 0 < 1 ∧ 2000 < 2001 ∧ 1000000 < 999999 + 2) ∧
    ((shop 104217).kind 1 ≠ ⟨0x2D, 0x2D, ((shop 104217).kind 1).threshold⟩ ∧ 999999 ≤ 999999 ∧ 1 ≤ 1 ∧ 1 ≤ 2000 ∧
      999999 + 1 ≤ 1000000 ∧ 998000 + 2000 ≤ 1000000) ∧
    (∃ slot : Slot, ((shop 104217).pack slot).any (fun x =>
      x.kind = 1 ∧ 104699 < x.first + x.count ∧ x.first < 104699 + 1) = true) ∧
    (∀ slot : Slot, ((shop 104217).pack slot).all (fun x =>
      x.kind ≠ 1 ∨ x.first + x.count ≤ 104700 ∨ 104700 + 2000 ≤ x.first) = true) ∧
    (allSlots.Ready officeLine ∧ (∀ slot, allSlots.pack slot ≠ none) ∧
      ∀ slot : Slot, (allSlots.pack slot).all (fun x =>
        x.kind ≠ 1 ∨ x.first + x.count ≤ 999999 ∨ 999999 + 1 ≤ x.first) = true) ∧
    ((allSlots.putPack 63 none).pack 63 = none ∧ ∀ lower : Slot, lower < 63 → (allSlots.putPack 63 none).pack lower ≠ none) := by
  decide

def inOffice : State := (stored 104217 .unloaded).putCtl 1 (idle .startUp)

theorem witness_LoadPackBegins : inOffice.Ready officeLine ∧
    (0 < 1 ∨ 64 < 0 ∨ 1 < 1 ∨ 4 < 1) ∧ (65 < 1 ∨ 64 < 65 ∨ 1 < 1 ∨ 4 < 1) ∧ (64 < 1 ∨ 64 < 64 ∨ 0 < 1 ∨ 4 < 0) ∧
    (64 < 1 ∨ 64 < 64 ∨ 5 < 1 ∨ 4 < 5) ∧ inOffice.pack 63 = none ∧
    inOffice.pack 4 = some (packFive 104217 .unloaded none) ∧
    ((inOffice.ctl 1).outstanding.isSome ∨ (inOffice.ctl 1).waiting = []) := by decide

theorem witness_UnloadPackTakesOut : (atRest 104217).Ready officeLine ∧ (0 < 1 ∨ 4 < 0) ∧ (5 < 1 ∨ 4 < 5) ∧
    (atRest 104217).loaded 0 = none ∧ (atRest 104217).loaded 1 = some 4 ∧
    (atRest 104217).pack 4 = some (packFive 104217 .loaded (some 1)) := by decide

theorem witness_PacksAreClosedAndPurged : (stored 104217 .unloaded).Ready officeLine ∧ (0 < 1 ∨ 64 < 0) ∧ (65 < 1 ∨ 64 < 65) ∧
    (stored 104217 .unloaded).pack 63 = none ∧
    (stored 104217 .unloaded).pack 4 = some (packFive 104217 .unloaded none) ∧
    (stored 104700 .closed).pack 4 = some (packFive 104700 .closed none) := by decide

def skipped : ExceptionRecord := ⟨4, 104218, 3, .skipped, some 3, some 1184, ⟨Clock.storeLoss.now, 412⟩, true⟩
def returned : ExceptionRecord := ⟨4, 104650, 50, .returned, none, none, ⟨Clock.storeLoss.now, 412⟩, false⟩

theorem witness_StockIsReadAndAudited : records.Ready officeLine ∧ records.pack 63 = none ∧
    records.pack 4 = some (packFive 104700 .closed none) ∧
    (∀ r ∈ State.reset.stock.exceptions, r.isRead = true) ∧
    (records.stock.exceptions = [skipped] ++ returned :: [] ∧ (∀ q ∈ [skipped], q.isRead = true) ∧ returned.isRead = false) ∧
    records.audit = none ∧ (records.putAudit (some (4, 104218))).audit = some (4, 104218) ∧
    ((shop 104217).pack 4 = some (packFive 104217 .loaded (some 1)) ∧ 104217 ≤ 104217) ∧
    (104217 < 104700 ∧ ∀ r ∈ records.stock.exceptions,
      decide (r.slot = 4 ∧ r.first ≤ 104217 ∧ 104217 < r.first + r.span) = false) ∧
    (records.stock.exceptions = [] ++ skipped :: [returned] ∧
      decide (skipped.slot = 4 ∧ skipped.first ≤ 104220 ∧ 104220 < skipped.first + skipped.span) = true ∧ 104220 < 104700) := by
  decide

theorem witness_IssueQueuesJob :
    (State.reset.Ready 0 ∧ (some 1).isSome ≠ ((0 : Line) == officeLine) ∧ (none : Option Nat).isSome ≠ ((6 : Line) == officeLine) ∧
      12 < (List.replicate 13 (0x41 : Byte)).length) ∧
    ((State.reset.session 3).state = .closed ∧ (cashing.session 2).state = .cashup) ∧
    ((State.reset.putSession 3 seller).Ready 3 ∧ ((State.reset.putSession 3 seller).session 3).state = .opened ∧
      (State.reset.putSession 3 seller).clock.isSet = false) ∧
    ((selling (atRest 104217)).Ready 3 ∧ ((selling (atRest 104217)).session 3).state = .opened ∧
      (selling (atRest 104217)).clock.isSet = true ∧ (List.replicate 12 (0x41 : Byte)).length ≤ 12) ∧
    (((selling (atRest 104217)).putSession 6 seller).Ready 6 ∧
      (((selling (atRest 104217)).putSession 6 seller).session 6).state = .opened) ∧
    (0 < 1 ∧ 8 < 9 ∧ 15 < 16 ∧ 3 < 4 ∧ 4 < 5) := by decide

def queuedJob : Job := { jobA with state := .queued, reservation := 0 }
def officeJob : Job := { queuedJob with session := 6 }
def officeQueued : State := queued.putLane 1 ⟨[officeJob], []⟩
def suspended : State :=
  (working 104217 { jobA with state := .suspended } false .fault .enquire 0).putCtl 1 { Controller.startUp with
    state := .fault, faultOpen := true }

theorem witness_JobsAreWithdrawn : (0 < 1 ∨ 99999 < 0) ∧ (100000 < 1 ∨ 99999 < 100000) ∧
    ((suspended.Ready 3 ∧ ∃ p, (suspended.inProgress p).any (fun g => decide (g.job.session = 3 ∧ g.job.issue = 117)) = true) ∧
      suspended.inProgress 1 = some ⟨{ jobA with state := .suspended }, false⟩ ∧
      ∀ q : PrinterId, q ≠ 1 → (suspended.inProgress q).all (fun g => !decide (g.job.session = 3 ∧ g.job.issue = 117)) = true) ∧
    (queued.Ready 3 ∧
      (∀ p : PrinterId, (queued.inProgress p).all (fun g => !decide (g.job.session = 3 ∧ g.job.issue = 117)) = true) ∧
      (∀ j ∈ printers.flatMap fun p => (queued.lane p).office ++ (queued.lane p).window,
        decide (j.session = 3 ∧ j.issue = 99999) = false) ∧
      (printers.flatMap fun p => (queued.lane p).office ++ (queued.lane p).window).countP
        (fun j => decide (j.session = 3 ∧ j.issue = 117)) = 1 ∧
      (queued.lane 1).window = [] ++ queuedJob :: []) ∧
    (officeQueued.Ready 6 ∧
      (∀ p : PrinterId, (officeQueued.inProgress p).all (fun g => !decide (g.job.session = 6 ∧ g.job.issue = 117)) = true) ∧
      (printers.flatMap fun p => (officeQueued.lane p).office ++ (officeQueued.lane p).window).countP
        (fun j => decide (j.session = 6 ∧ j.issue = 117)) = 1 ∧
      (officeQueued.lane 1).office = [] ++ officeJob :: []) := by decide

/-- The premises on a printer's number, for DIVERT, SET PRINTER, RELEASE, TAKE OFFLINE, BRING ONLINE and PRINTER RESET. -/
theorem witness_DivertMovesJobs : (queued.putConfig 0 ⟨some 1, 1, 1⟩).Ready officeLine ∧
    (0 < 1 ∨ 4 < 0 ∨ 1 < 1 ∨ 4 < 1) ∧ (1 < 1 ∨ 4 < 1 ∨ 5 < 1 ∨ 4 < 5) := by decide

theorem witness_PrinterIsSetAndReleased : queued.Ready officeLine ∧ (0 < 1 ∨ 4 < 0 ∨ 8 < 8 ∨ 3 < 3 ∨ 3 < 3) ∧
    (4 < 1 ∨ 4 < 4 ∨ 8 < 9 ∨ 3 < 3 ∨ 3 < 3) ∧ (4 < 1 ∨ 4 < 4 ∨ 8 < 8 ∨ 3 < 4 ∨ 3 < 3) ∧ (5 < 1 ∨ 4 < 5) := by decide

theorem witness_PrinterGoesOffAndOn : (atRest 104217).Ready officeLine ∧ (0 < 1 ∨ 4 < 0) ∧ (5 < 1 ∨ 4 < 5) := by decide

theorem witness_PrinterResetStartsAgain : (working 104221 j1 true .printing (.printLine []) 3).Ready officeLine ∧
    (0 < 1 ∨ 4 < 0) ∧ (5 < 1 ∨ 4 < 5) := by decide

/-- A third failure with three coupons printed and a reservation of three; and PRINTER RESET with a form in hand, one above the
low-stock threshold of its kind. -/
theorem witness_JobEndsUnsettled :
    (∃ g, (working 104221 { jobA with requested := 4, printed := List.replicate 3 ⟨4, 104217⟩, reservation := 3 } true .printing
        (.printLine []) 3).inProgress 1 = some g ∧
      g.job.printed.length + (if JobResult.failures = .printerReset ∧ g.formInHand = true then 1 else 0) ≤
        g.job.reservation ∧ g.job.printed.length = 3) ∧
    let s := working 104649 j1 true .printing (.printLine []) 3
    let k := packFive 104649 .loaded (some 1)
    s.inProgress 1 = some ⟨j1, true⟩ ∧ j1.printed.length + 1 ≤ j1.reservation ∧ j1.reservation ≤ s.stock.reservation ∧
      s.loadedPack 1 = some (4, k) ∧ s.loaded 1 = some 4 ∧ k.location = some 1 ∧ s.phase = .running ∧ k.lowFlag = false ∧
      (k.pastOne (s.kind k.kind).threshold).lowFlag = true ∧ s.pack 63 = none :=
  ⟨⟨⟨{ jobA with requested := 4, printed := List.replicate 3 ⟨4, 104217⟩, reservation := 3 }, true⟩, by decide⟩, by decide⟩

def jamEntry : FaultEntry :=
  { number := 2, source := some 1, kind := .jam, laterKinds := 0, repeats := 0, state := .opened,
    openedAt := ⟨⟨⟨2026, 3, 14⟩, ⟨8, 47, 0⟩⟩, 412⟩, clearedAt := none, strip := none, session := some 3 }

/-- An entry at the end of the numbers. -/
def lastEntry : FaultEntry := { jamEntry with number := 65535 }

theorem witness_PrintersAndFaultsAreRead : jammed.Ready 0 ∧ jammed.Ready officeLine ∧
    (jammed.log.entries = [.storeLost] ++ jamEntry :: [] ∧ (∀ f ∈ [FaultEntry.storeLost], f.number ≠ jamEntry.number) ∧
      jamEntry.number ≠ 0) ∧
    (9 ≠ 0 ∧ ∀ e ∈ jammed.log.entries, e.number ≠ 9) ∧ (0 < 1 ∨ 65535 < 0) ∧ (65536 < 1 ∨ 65535 < 65536) ∧
    (1 ≤ 65535 ∧ 65535 ≤ 65535 ∧ ∀ e ∈ jammed.log.entries, e.number ≠ 65535) ∧
    ((jammed.putLog ⟨[.storeLost, lastEntry], 2⟩).log.entries = [.storeLost] ++ lastEntry :: [] ∧
      (∀ f ∈ [FaultEntry.storeLost] ++ [], f.number ≠ lastEntry.number) ∧ 1 ≤ lastEntry.number ∧ lastEntry.number ≤ 65535) ∧
    (jammed.log.entries = [] ++ .storeLost :: [jamEntry] ∧
      (∀ f ∈ [] ++ [jamEntry], f.number ≠ FaultEntry.storeLost.number) ∧ 1 ≤ FaultEntry.storeLost.number) := by decide

/-- A declaration refused in each of its three ways, and one accepted. -/
theorem witness_CashupIsDeclared : cashing.Ready 0 ∧ cashing.Ready 2 ∧ cashing.Ready officeLine ∧
    (0 < 1 ∨ 7 < 0) ∧ (8 < 1 ∨ 7 < 8) ∧ ((0 : Line) ≠ officeLine ∧ (2 : SessionId) ≠ (0 : Line)) ∧
    (cashing.session 6).state ≠ .cashup ∧ (cashing.session 2).owner ≠ some officeLine ∧
    ((cashing.session 2).state = .cashup ∧ (cashing.session 2).owner = some 2 ∧ 11 < 12) := by decide

theorem witness_CommitStoresCashup : cashing.Ready 2 ∧ (0 < 1 ∨ 7 < 0) ∧ (8 < 1 ∨ 7 < 8) := by decide

def cashupOne : CashupRecord := { (cashing.cashupRecord 2 2) with number := 1 }
def cashupLast : CashupRecord := { cashupOne with number := 65535, isRead := true }
def twoCashups : State := State.reset.putTill { State.reset.till with cashups := [cashupLast, cashupOne], nextCashup := 2 }

theorem witness_CashupsAreReadAndReviewed : twoCashups.Ready officeLine ∧
    (∀ r ∈ State.reset.till.cashups, r.isRead = true) ∧
    (twoCashups.till.cashups = [cashupLast] ++ cashupOne :: [] ∧ (∀ q ∈ [cashupLast], q.isRead = true) ∧
      cashupOne.isRead = false) ∧
    (0 < 1 ∨ 65535 < 0) ∧ (65536 < 1 ∨ 65535 < 65536) ∧
    (1 ≤ 65534 ∧ 65534 ≤ 65535 ∧ ∀ r ∈ twoCashups.till.cashups, r.number ≠ 65534) ∧
    (twoCashups.till.cashups = [] ++ cashupLast :: [cashupOne] ∧ (∀ q ∈ [] ++ [cashupOne], q.number ≠ cashupLast.number) ∧
      1 ≤ cashupLast.number ∧ cashupLast.number ≤ 65535) := by decide

theorem witness_LineReadsAndWrites : waiting.Ready 0 ∧ waiting.Ready officeLine ∧ 36525 * 86400 ≤ 36525 * 86400 ∧
    ((⟨2099, 12, 31⟩ : Date).valid = true ∧ (⟨23, 59, 59⟩ : TimeOfDay).valid = true) ∧
    ((⟨2000, 1, 1⟩ : Date).valid = true ∧ (⟨0, 0, 0⟩ : TimeOfDay).valid = true) := by decide

def full : State := State.reset.putLine 0 { State.reset.line 0 with replies := List.replicate 4 ⟨[], none⟩ }

theorem witness_LineTestsComeFirst :
    requestBody (.readClock 0) = some (0, [0x05]) ∧ requestBody (.auditNext 0) = some (0, [0x39]) ∧
    requestBody (.abort 6) = some (6, [0x04]) ∧ requestBody (.readClock 6) = some (6, [0x05]) ∧
    (after .pfailAsserted State.reset).phase = .halted ∧
    (full.phase ≠ .halted ∧ 4 ≤ (full.line 0).replies.length) ∧
    ((after (.startUp ⟨true, true⟩ .volatile) (after .pfailAsserted State.reset)).phase ≠ .halted ∧
      (after (.startUp ⟨true, true⟩ .volatile) (after .pfailAsserted State.reset)).phase ≠ .running ∧
      ((after (.startUp ⟨true, true⟩ .volatile) (after .pfailAsserted State.reset)).line 0).replies.length < 4) ∧
    (resetting.phase = .running ∧ (resetting.line 6).deferred ≠ none ∧ (0x05 : Byte) ≠ 0x04 ∧
      (resetting.line 6).replies.length < 4) ∧
    (State.reset.phase = .running ∧ (State.reset.line 0).deferred = none ∧ (0 : Line) ≠ officeLine ∧
      (0x39 : Byte) ∉ [0x01, 0x02, 0x03, 0x04, 0x05, 0x10, 0x11, 0x14, 0x15, 0x16, 0x20, 0x21, 0x22, 0x45, 0x46, 0x50, 0x51,
        0x52, 0x53, 0x54, (0x55 : Byte)]) := by decide

def loading : State := after (.loadPack 6 5 2) inOffice

theorem witness_OtherFramesAreAnswered : isRequestCode 0x00 = false ∧ isRequestCode 0x5A = false ∧
    (State.reset.phase = .running ∧ (State.reset.line 0).replies.length < 4 ∧ (State.reset.line 0).deferred = none) ∧
    (resetting.phase = .running ∧ (resetting.line 6).replies.length < 4 ∧
      (resetting.line officeLine).deferred = some (.printerReset 1)) ∧
    (loading.phase = .running ∧ (loading.line 6).replies.length < 4 ∧ (loading.ctl 1).load = some ⟨4, 0, .idle⟩ ∧
      (loading.line officeLine).deferred = some (.loadPack 1)) := by decide

theorem witness_ClockTicksAndRolls : 36525 * 86400 - 1 < 36525 * 86400 ∧ 36525 * 86400 ≤ 36525 * 86400 ∧
    (⟨2099, 12, 31⟩ : Date).valid = true ∧ (⟨2000, 2, 29⟩ : Date).valid = true ∧ (⟨23, 59, 59⟩ : TimeOfDay).valid = true ∧
    jammed.phase = .running := by decide

def powerless : State := after .pfailAsserted jammed

theorem witness_PartHalts : powerless.phase = .halted ∧ powerless.drawers = Vector.replicate 7 false ∧
    (∀ p, powerless.ctl p = (powerless.ctl p).halted) ∧ ∀ l, powerless.line l = (powerless.line l).halted := by
  decide +kernel

theorem next_after {c : Instr} {s t : State} (h : exec c s = .next t) : exec c s = .next (after c s) := by simp [after, h]

theorem witness_PartHalts_next (s : State) : exec .clockTick s = .next (after .clockTick s) := next_after rfl

theorem witness_PartHalts_command : ∀ straps stage, Instr.clockTick ≠ .startUp straps stage := by intro _ _ h; cases h

/-- Start-up before its last stage: the printers run and the lines are not open. -/
def opening : State := after (.startUp ⟨false, false⟩ .volatile) (after .pfailAsserted State.reset)

/-- Before the lines open a frame ends ABSENT and may open an entry, with no notice; before the printers run it does nothing
(R199). -/
theorem test_sensorChange_beforeOpening :
    (let s := after (.sensorChange 1 ⟨false, true, true⟩) opening;
      (s.ctl 1).state = .fault ∧ (s.openEntry 1).map (·.kind) = some .coverOpen ∧
        (s.line officeLine).pendingSet = startUpSet) ∧
    ((after (.sensorChange 1 good) opening).ctl 1).state = .idle ∧
    (let s := after (.startUp ⟨false, false⟩ .retained) (after .pfailAsserted State.reset);
      after (.sensorChange 1 good) s = s) := by decide

theorem witness_StartUpAfterStoreLoss :
    let s := after (.backupSupplyLost .belowRange) (after .pfailAsserted jammed)
    s.phase = .halted ∧ s.signature ≠ .valid := by decide

def recovering : State :=
  after (.startUp ⟨false, false⟩ (.recover 0)) (after .pfailAsserted (working 104221 j1 true .printing (.printLine []) 3))

/-- A start-up broken off after its recovery: no job is left, and its outcome is set aside. -/
def brokenOff : State := after .pfailAsserted (after (.startUp ⟨false, false⟩ (.recover 3)) (after .pfailAsserted recovering))

theorem witness_StartUpWithKeptStore :
    (brokenOff.phase = .halted ∧ brokenOff.signature = .valid ∧ brokenOff.progress = Vector.replicate 4 none ∧
      brokenOff.setAside.map (·.session) = [3]) ∧
    (let s := after (.startUp ⟨false, false⟩ .retained) brokenOff;
      s.phase = .starting 6 ∧ (∀ l, (s.line l).outcomes = []) ∧ s.setAside.length = 1) ∧
    (let s := after (.startUp ⟨false, false⟩ .volatile) brokenOff;
      s.phase = .starting 7 ∧ (s.line 3).outcomes.length = 1) ∧
    recovering.phase = .starting ((1 : PrinterId).val + 1) ∧ recovering.startResult = .storeKept ∧
    recovering.inProgress 1 = some ⟨j1, true⟩ ∧ j1.printed.length + 1 ≤ j1.reservation ∧
    j1.reservation ≤ recovering.stock.reservation := by decide

/-- A stage without a job, with the store kept and lost; the stage behind the recoveries on both paths. -/
theorem witness_StartUpWithKeptStore_stages :
    (recovering.phase = .starting ((1 : PrinterId).val + 1) ∧
      (after (.startUp ⟨false, false⟩ (.recover 1)) recovering).phase = .starting ((2 : PrinterId).val + 1) ∧
      (after (.startUp ⟨false, false⟩ (.recover 1)) recovering).inProgress 2 = none) ∧
    ([Signature.valid, .other].all fun x =>
      let off := { after .pfailAsserted State.reset with signature := x }
      let s := after (.startUp ⟨false, false⟩ .first) off
      let t := after (.startUp ⟨false, false⟩ (.recover 3)) off
      decide (s.phase = .starting ((0 : PrinterId).val + 1) ∧ t.phase = .starting 5 ∧ t.startResult = s.startResult ∧
        s.startResult = if x = .valid then .storeKept else .storeLost)) = true := by decide

theorem witness_RequestLayoutsRoundTrip :
    requestBody (.readOutcomes 0) = some (0, 0x03 :: []) ∧ (Instr.readOutcomes 0).wellFormed = true ∧
    requestBody (.void 2 (256 ^ 3 - 1)) = some (2, 0x11 :: [0xFF, 0xFF, 0xFF]) ∧ (Instr.void 2 (256 ^ 3 - 1)).wellFormed = true ∧
    readRequest 2 0x11 [0xFF, 0xFF, 0xFF] = some (.void 2 (256 ^ 3 - 1)) := by decide

theorem witness_RequestBytesRunRequest : requestBody (.readOutcomes 0) = some (0, [0x03]) ∧
    (Instr.readOutcomes 0).wellFormed = true ∧ (State.reset.line 0).receiver = .waitLead := by decide

set_option maxRecDepth 4000 in
theorem witness_OddBytesAreJudged : (State.reset.line 0).receiver = .waitLead ∧ State.reset.phase ≠ .halted ∧
    (0xA6 : Byte) ≠ 0xA5 ∧ ((0 : Byte) = 0 ∨ 250 < (0 : Byte).toNat) ∧ ((251 : Byte) = 0 ∨ 250 < (251 : Byte).toNat) ∧
    (List.replicate 249 (0x41 : Byte)).length ≤ 249 ∧ (0x00 : Byte) ≠ checkByte (0x05 :: []) ∧ isRequestCode 0x07 = false ∧
    (isRequestCode 0x05 = true ∧ readRequest 0 0x05 [0x41] = none ∧ State.reset.Ready 0 ∧ (0x05 : Byte).toNat ∉ officeCodes) ∧
    (isRequestCode 0x39 = true ∧ readRequest 6 0x39 [0x41] = none ∧ State.reset.Ready 6) := by decide

def receiving (r : Receiver) : State := State.reset.putCtl 1 { Controller.startUp with receiver := r }

/-- Bodies that fit nothing: a code outside 81h-87h, an OK without its sensor byte, an unknown result, READ STRIP with the
length of another operation or a form byte that its length does not fit, and 11 bytes. -/
theorem witness_PrinterBytesRunAnswer : (receiving .waitLead).phase = .running ∧
    ((receiving .waitLead).ctl 1).receiver = .waitLead ∧
    ((receiving .waitLead).ctl 1).outstanding = none ∧ ((receiving .waitLead).ctl 1).waiting = [] ∧
    ((working 104217 jobA false .feeding .advance 0).ctl 1).outstanding ≠ none ∧
    printerBody (.engageAnswer 1 (.ok good)) = some (1, 0xA5, [0x81, 0x00, 0x07]) ∧
    printerBody (.sensorChange 1 good) = some (1, 0xA6, [0x7F, 0x07]) ∧
    printerBody (.readStripAnswer 1 (.strip true 0x53 0x52 (256 ^ 3 - 1) good)) =
      some (1, 0xA5, [0x84, 0x00, 0x07, 0x01, 0x01, 0x53, 0x52, 0xFF, 0xFF, 0xFF]) ∧
    (Instr.readStripAnswer 1 (.strip true 0x53 0x52 (256 ^ 3 - 1) good)).wellFormed = true ∧
    (0x00 : Byte) ≠ checkByte [0x81, 0x01] ∧
    ([(0x80, [1]), (0x88, [1]), (0x81, [0]), (0x81, [5]), (0x81, [1, 7]), (0x84, [0, 7]), (0x84, [0, 7, 1]),
      (0x84, [0, 7, 0, 1, 0x53, 0x52, 0, 0, 1]), (0x84, [0, 7, 1, 1, 0x53, 0x52, 0, 0, 1, 1])].all fun x =>
        !printerAnswerFits x.1 x.2) = true ∧
    printerAnswerFits 0x84 [0, 7, 1, 1, 0x53, 0x52, 0, 0, 1] = true ∧
    ((0x7E : Byte) ≠ 0x7F ∧ [(0 : Byte), 0].length ≠ 1) ∧
    ((receiving (.length 0xA5)).ctl 1).receiver = .length 0xA5 ∧
    ((receiving (.body 0xA5 2 [0x81])).ctl 1).receiver = .body 0xA5 2 [0x81] ∧
    (((receiving (.check 0xA5 2 [0x81, 1])).ctl 1).receiver = .check 0xA5 2 (0x81 :: [1]) ∧ 2 = [(1 : Byte)].length + 1 ∧
      printerBody (.engageAnswer 1 (.refused .jam)) = some (1, 0xA5, 0x81 :: [1])) := by decide

/-- Printer 2 stands in W4's map alone; STOCK LOW of printer 2 reaches W4 and the office line, and not W1. -/
theorem witness_NoticesReachTheirLines :
    (after .pfailAsserted State.reset).phase ≠ .running ∧ (selling (shop 104217)).phase = .running ∧
    (selling (shop 104217)).receives 3 .stockLow (.printer 1) = true ∧
    (selling (shop 104217)).receives 6 .stockLow (.printer 1) = true ∧
    (selling (shop 104217)).receives 0 .stockLow (.printer 1) = false := by decide

theorem witness_ChargeStaysInBounds : 0 < (⟨1000, 99999, 1⟩ : Discount).step ∧ (⟨1000, 99999, 1⟩ : Discount).rate ≤ 1000 ∧
    0 < Discount.fullFare.step ∧ Discount.fullFare.rate ≤ 1000 := by decide

theorem witness_CheckCodesAndAmounts : (999999 ≤ 999999 ∧ 899991 ≤ 899991 ∧ 9999 ≤ 9999 ∧ 8 ≤ 8 ∧ 4 ≤ 4) ∧
    (0 < 17576 ∧ 17575 < 17576) ∧ 10 ^ 12 - 1 < 10 ^ 12 := by decide

/-- A body, and the ends of R72's byte ranges. -/
theorem witness_BodyExpandsToLines : bodyA ≠ [] ∧ (0x20 ≤ (0x20 : Byte).toNat ∧ (0x7E : Byte).toNat ≤ 0x7E) ∧
    ((0x1F : Byte) ≠ 0x0A ∧ (0x1F : Byte).toNat < 0x20) ∧ 0x8B < (0x8C : Byte).toNat := by decide

/-- A set with each sensor newly bad, and none. -/
theorem witness_sets : ((working 104217 jobA false .engaging .engage 0).ctl 1).sensors = some good ∧
    Sensors.worsens good (some good) = false ∧ Sensors.worsens ⟨false, true, true⟩ (some good) = true ∧
    Sensors.worsens ⟨true, false, true⟩ (some good) = true ∧ Sensors.worsens ⟨true, true, false⟩ none = true ∧
    (Sensors.worsens ⟨false, true, true⟩ (some ⟨false, true, true⟩) = false ∧ Sensors.allGood ⟨false, true, true⟩ = false) := by
  decide

/-- An operation of work that has been stopped. -/
def stoppedWork (op : Operation) : State := (atRest 104217).putCtl 1 { idle .startUp with outstanding := some ⟨op, .stopped, false⟩ }

theorem witness_AnswersCarryWorkOn_stopped :
    ([.advance, .readStrip, .printLine [], .eject, .enquire].all fun op =>
      decide ((stoppedWork op).phase = .running ∧ ((stoppedWork op).ctl 1).outstanding = some ⟨op, .stopped, false⟩ ∧
        ((stoppedWork op).ctl 1).waiting = [] ∧ ((stoppedWork op).ctl 1).linkLost = false ∧
        ((stoppedWork op).ctl 1).state ≠ .absent ∧ ((stoppedWork op).ctl 1).sensors = some good)) = true := by decide

/-- One state for each answer: ENGAGE, LIFT, ADVANCE, PRINT LINE. The sets are those of witness_sets. -/
theorem witness_AnswersCarryWorkOn :
    (let s := working 104217 jobA false .engaging .engage 0;
      s.phase = .running ∧ (s.ctl 1).outstanding = some ⟨.engage, .loop, false⟩ ∧ (s.ctl 1).waiting = [] ∧
        (s.ctl 1).linkLost = false ∧ (s.ctl 1).state ≠ .absent) ∧
    (let s := (atRest 104217).putCtl 1 { idle .startUp with outstanding := some ⟨.lift, .idleLift, false⟩ };
      s.phase = .running ∧ (s.ctl 1).outstanding = some ⟨.lift, .idleLift, false⟩ ∧ (s.ctl 1).waiting = [] ∧
        (s.ctl 1).linkLost = false ∧ (s.ctl 1).state ≠ .absent) ∧
    (let s := working 104217 jobA false .feeding .advance 0;
      (s.ctl 1).outstanding = some ⟨.advance, .loop, false⟩ ∧ (s.ctl 1).state.busy = true ∧ (s.ctl 1).waiting = []) ∧
    (let s := working 104217 jobA true .printing (.printLine []) 6;
      (s.ctl 1).outstanding = some ⟨.printLine [], .loop, false⟩ ∧ (Operation.printLine []).code = 0x05 ∧
        (s.ctl 1).state.busy = true ∧ (s.ctl 1).expansion[6]? = none) ∧
    ((working 104217 jobA true .printing (.printLine []) 5).ctl 1).expansion[5]?.isSome = true := by decide

/-- A settle class of 0 with the form VERIFIED, marked or not. -/
theorem witness_AnswersCarryWorkOn_verified : ([jobA, { jobA with abortMark := true }].all fun j =>
    let s := (working 104217 j true .engaging .engage 0).putConfig 1 ⟨some 1, 1, 0⟩
    decide ((s.config 1).settleClass = 0 ∧ (s.ctl 1).position = .verified ∧ (s.ctl 1).load = none ∧ (s.ctl 1).waiting = [] ∧
      (s.ctl 1).state.busy = true ∧ s.inProgress 1 = some ⟨j, true⟩ ∧
      s.loadedPack 1 = some (4, packFive 104217 .loaded (some 1)))) = true := by decide

/-- A loop, or a load taken from IDLE, that waits behind an operation. -/
def behind (op : Operation) (purpose : Purpose) (w : Waiting) (head : Head) : State :=
  (working 104217 jobA false .feeding .engage 0).putCtl 1 { (working 104217 jobA false .feeding .engage 0).ctl 1 with
    outstanding := some ⟨op, purpose, false⟩, waiting := [w], head := head
    load := if w = .loadStep then some ⟨4, 0, .idle⟩ else none }

theorem witness_WaitingIsSent :
    (let s := behind .lift .idleLift .loopStart .engaged;
      s.phase = .running ∧ (s.ctl 1).linkLost = false ∧ (s.ctl 1).state.busy = true ∧ (s.ctl 1).waiting = [.loopStart] ∧
        (s.ctl 1).outstanding = some ⟨.lift, .idleLift, false⟩ ∧ s.inProgress 1 = some ⟨jobA, false⟩ ∧
        jobA.abortMark = false ∧ s.loadedPack 1 = some (4, packFive 104217 .loaded (some 1)) ∧
        (s.ctl 1).sensors = some good) ∧
    ([.lifted, .engaged].all fun head => decide (let s := behind .enquire .enquiry .loopStart head;
      (s.ctl 1).outstanding = some ⟨.enquire, .enquiry, false⟩ ∧ (s.ctl 1).faultOpen = false ∧ (s.ctl 1).head = head ∧
        (s.ctl 1).position = .none)) = true ∧
    (let s := behind .lift .idleLift .loadStep .engaged;
      (s.ctl 1).waiting = [.loadStep] ∧ (s.ctl 1).load = some ⟨4, 0, .idle⟩ ∧
        (s.ctl 1).outstanding = some ⟨.lift, .idleLift, false⟩) ∧
    ([[], [.loopStart], [.loadStep], [.op .lift .offlineLift, .loadStep]].all fun w => decide (
      let s := (shop 104217).putCtl 1 { Controller.startUp with waiting := w }
      (s.ctl 1).outstanding = none ∧ (s.ctl 1).waiting = w)) = true := by decide

/-- A loop that waited behind an ENQUIRE feeds when it is answered, and one that waited behind a LIFT sends ENGAGE (R104, R122). -/
theorem test_waiting_loop : ((after (.enquireAnswer 1 (.ok good)) (behind .enquire .enquiry .loopStart .engaged)).ctl 1).outstanding =
      some ⟨.advance, .loop, false⟩ ∧
    ((after (.liftAnswer 1 (.ok good)) (behind .lift .idleLift .loopStart .engaged)).ctl 1).outstanding =
      some ⟨.engage, .loop, false⟩ := by decide

/-- The rows of R113 and R114 at their ends: cursor + 8, cursor + 9, the pack's last serial, a used form. The sets are those of
witness_sets, as in the next two. -/
theorem witness_FormStripIsJudged :
    (let s := working 104222 j1 false .reading .readStrip 0;
      s.phase = .running ∧ (s.ctl 1).outstanding = some ⟨.readStrip, .loop, false⟩ ∧ (s.ctl 1).waiting = [] ∧
        (s.ctl 1).linkLost = false ∧ (s.ctl 1).state.busy = true ∧ s.inProgress 1 = some ⟨j1, false⟩ ∧
        (s.ctl 1).sensors = some good ∧ s.loadedPack 1 = some (4, packFive 104222 .loaded (some 1)) ∧ ((0x41 : Byte) ≠ (s.kind 1).letter1)) ∧
    ([104221, 104223, 104230, 104231, 104699, 104700].all fun serial => decide (serial ≠ 104222)) = true := by decide

def loadRead (st : PrinterState) (bad : Nat) : State :=
  inOffice.putCtl 1 { idle .startUp with
    state := if st = .idle then .reading else st, load := some ⟨4, bad, st⟩, outstanding := some ⟨.readStrip, .load, false⟩ }

theorem witness_LoadStripIsJudged : ([.idle, .held, .offline].all fun st =>
    let s := loadRead st 2
    decide (s.phase = .running ∧ (s.ctl 1).outstanding = some ⟨.readStrip, .load, false⟩ ∧ (s.ctl 1).waiting = [] ∧
      (s.ctl 1).linkLost = false ∧ (s.ctl 1).state ≠ .absent ∧ (s.ctl 1).load = some ⟨4, 2, st⟩ ∧
      st ∈ [PrinterState.idle, .held, .offline] ∧ s.pack 4 = some (packFive 104217 .unloaded none) ∧
      (104218 ≠ 104217 ∧ (0x41 : Byte) ≠ (s.kind 1).letter1))) = true := by decide

theorem witness_EjectEndsCoupon :
    (let s := working 104217 jobA true .ejecting .eject 6;
      s.phase = .running ∧ (s.ctl 1).outstanding = some ⟨.eject, .loop, false⟩ ∧ (s.ctl 1).waiting = [] ∧
        (s.ctl 1).linkLost = false ∧ (s.ctl 1).state.busy = true ∧ s.inProgress 1 = some ⟨jobA, true⟩ ∧
        s.loadedPack 1 = some (4, packFive 104217 .loaded (some 1))) ∧
    (let s := (atRest 104217).putCtl 1 { idle .startUp with state := .ejecting, outstanding := some ⟨.eject, .waste, false⟩ };
      s.phase = .running ∧ (s.ctl 1).outstanding = some ⟨.eject, .waste, false⟩ ∧ (s.ctl 1).waiting = [] ∧
        (s.ctl 1).linkLost = false ∧ (s.ctl 1).state.busy = true) := by decide

/-- A pass at its four outcomes, and a form at its three positions. -/
theorem witness_PassBegins :
    (let s := working 104222 { j1 with abortMark := true } false .ejecting .eject 0; (s.inProgress 1).any (·.job.abortMark) = true) ∧
    (let s := (working 104222 j1 false .ejecting .eject 0).putPack 4 (some (packFive 104700 .spent (some 1)));
      s.inProgress 1 = some ⟨j1, false⟩ ∧ (s.loadedPack 1).all (fun x => x.2.state != .loaded) = true) ∧
    ([Head.lifted, .engaged].all fun head => [FormPosition.none, .unknown, .verified].all fun position => decide (
      let s := (working 104222 j1 false .ejecting .eject 0).putCtl 1 { idle .startUp with
        state := .ejecting, head := head, position := position }
      s.inProgress 1 = some ⟨j1, false⟩ ∧ s.loadedPack 1 = some (4, packFive 104222 .loaded (some 1)) ∧
        (s.ctl 1).head = head ∧ (s.ctl 1).position = position ∧ (s.ctl 1).outstanding = none ∧ (s.ctl 1).waiting = [] ∧
        (s.ctl 1).state ∈ [.idle, .engaging, .feeding, .reading, .printing, .ejecting])) = true := by decide

theorem witness_LoadStepsAreSent : ([.idle, .held, .offline].all fun st =>
    let s := (shop 104217).putCtl 1 { idle .startUp with state := st, load := some ⟨4, 0, st⟩ }
    decide ((s.ctl 1).load = some ⟨4, 0, st⟩ ∧ (s.ctl 1).outstanding = none ∧ (s.ctl 1).waiting = [] ∧
      (st = .idle → (s.ctl 1).state ∈ [PrinterState.idle, .engaging, .feeding, .reading, .printing, .ejecting]))) = true := by
  decide

theorem witness_IssueSettles : (working 104222 j1 true .ejecting .eject 6).phase = .running ∧
    (working 104222 j1 true .ejecting .eject 6).inProgress 1 = some ⟨j1, true⟩ := by decide

/-- A printer that has lost its link in FAULT, the answer to a LIFT still to come. -/
def lost : State := (atRest 104217).putCtl 1 { idle .startUp with
  state := .fault, faultOpen := true, linkLost := true, outstanding := some ⟨.lift, .idleLift, false⟩ }

/-- ABSENT with its ENQUIRE outstanding, in FAULT with its link, and in FAULT without. The sets are those of witness_sets. -/
theorem witness_GoodSetClearsFault :
    (let s := (shop 104217).putCtl 1 { Controller.startUp with outstanding := some ⟨.enquire, .enquiry, true⟩ };
      s.phase = .running ∧ (s.ctl 1).state = .absent ∧ (s.ctl 1).outstanding = some ⟨.enquire, .enquiry, true⟩ ∧
        (s.ctl 1).waiting = []) ∧
    (let s := jammed.putCtl 1 { jammed.ctl 1 with outstanding := some ⟨.enquire, .enquiry, false⟩ };
      s.phase = .running ∧ (s.ctl 1).state ≠ .absent ∧ (s.ctl 1).linkLost = false ∧ (s.ctl 1).faultOpen = true ∧
        (s.ctl 1).outstanding = some ⟨.enquire, .enquiry, false⟩ ∧ (s.ctl 1).waiting = []) ∧
    (lost.phase = .running ∧ (lost.ctl 1).state ≠ .absent ∧ (lost.ctl 1).linkLost = true ∧
      (lost.ctl 1).outstanding = some ⟨.lift, .idleLift, false⟩ ∧ (lost.ctl 1).waiting = [] ∧
      (lost.ctl 1).sensors = some good ∧ (Purpose.idleLift ≠ .loop ∧ Purpose.idleLift ≠ .waste ∧ Purpose.idleLift ≠ .load)) ∧
    ([.engage, .advance, .readStrip, .printLine [], .eject].all fun op =>
      let s := lost.putCtl 1 { lost.ctl 1 with outstanding := some ⟨op, .stopped, false⟩ }
      decide ((s.ctl 1).outstanding = some ⟨op, .stopped, false⟩ ∧ (s.ctl 1).linkLost = true)) = true ∧
    ((shop 104217).ctl 1).outstanding = none := by decide

theorem witness_GoodSetClearsFault_startUp : recovering.phase = .starting (2 : Fin 7).val ∧
    (opening.phase = .starting 7 ∧ (opening.ctl 1).state = .absent) := by decide

def missing (once : Bool) (missed : Nat) : Controller :=
  { idle .startUp with outstanding := some ⟨.lift, .idleLift, once⟩, missed := missed }

theorem witness_FaultStopsWork :
    (let s := working 104221 j1 true .printing (.printLine []) 3;
      s.phase = .running ∧ (s.ctl 1).state ≠ .absent ∧ (s.ctl 1).sensors = some good ∧ (s.ctl 1).linkLost = false ∧
        (s.ctl 1).outstanding = some ⟨.printLine [], .loop, false⟩ ∧ (s.ctl 1).waiting = [] ∧
        s.inProgress 1 = some ⟨j1, true⟩ ∧ s.formAtRisk 1 = true ∧ s.loaded 1 = some 4) ∧
    (let s := (atRest 104217).putCtl 1 (missing false 1);
      s.phase = .running ∧ (s.ctl 1).state ≠ .absent ∧ (s.ctl 1).missed = 1 ∧ (s.ctl 1).resetWait = false ∧
        (s.ctl 1).outstanding = some ⟨.lift, .idleLift, false⟩ ∧ s.inProgress 1 = none) ∧
    (let s := (working 104221 j1 false .ejecting .eject 0).putCtl 1
        { (working 104221 j1 false .ejecting .eject 0).ctl 1 with outstanding := some ⟨.eject, .waste, false⟩ };
      (s.ctl 1).outstanding = some ⟨.eject, .waste, false⟩ ∧ (s.ctl 1).sensors = some good ∧ (s.ctl 1).waiting = [] ∧
        (s.ctl 1).linkLost = false ∧ s.phase = .running ∧ (s.ctl 1).state ≠ .absent) := by
  decide

/-- 32 CLEARED entries, and the next number at its end. -/
def fullLog : State := (shop 104217).putLog
  ⟨(List.range 32).map fun n => { jamEntry with number := n + 1, state := .cleared, source := some 0 }, 65535⟩

theorem witness_FaultIsEntered :
    (fullLog.log.entries.length ≤ 32 ∧ fullLog.log.entries.all (fun e => !e.isOpenOf 1) = true ∧ fullLog.log.next ≤ 65535 ∧
      fullLog.log.entries.any (·.state != .opened) = true) ∧
    (State.reset.log.entries.all (fun e => !e.isOpenOf 1) = true ∧ State.reset.log.entries.length < 32) ∧
    (jammed.log.entries.length ≤ 32 ∧ jammed.log.entries = [.storeLost] ++ jamEntry :: [] ∧ jamEntry.source = some 1 ∧
      jamEntry.state = .opened ∧ ([FaultEntry.storeLost] ++ []).all (fun x => !x.isOpenOf 1) = true) := by decide

theorem witness_JobFormFails : (working 104221 j1 true .printing (.printLine []) 3).inProgress 1 = some ⟨j1, true⟩ ∧
    (working 104221 j1 true .printing (.printLine []) 3).loadedPack 1 = some (4, packFive 104221 .loaded (some 1)) ∧
    (packFive 104221 .loaded (some 1)).state = .loaded := by decide

def settlingAt (position : FormPosition) (load : Option Load) (st : PrinterState) : Controller :=
  { idle .startUp with settling := true, position := position, load := load, state := st }

theorem witness_TimersAndDeadlines : State.reset.phase = .running ∧
    ((Controller.startUp).outstanding = none ∧ (resetting.ctl 1).resetWait = true) ∧
    ((missing true 0).outstanding = some ⟨.lift, .idleLift, true⟩ ∧ (missing true 0).resetWait = false ∧
      (missing true 0).waiting = []) ∧
    ((missing false 0).missed = 0 ∧ (missing false 1).missed = 1) ∧
    (Controller.startUp).settling = false ∧
    ([FormPosition.none, .unknown, .verified].all fun x =>
      decide ((settlingAt x none .engaging).settling = true ∧ (settlingAt x none .engaging).load = none ∧
        (settlingAt x none .engaging).outstanding = none ∧ (settlingAt x none .engaging).waiting = [] ∧
        (settlingAt x none .engaging).state.busy = true ∧ (settlingAt x none .engaging).position = x)) = true ∧
    ((settlingAt .none (some ⟨4, 0, .offline⟩) .offline).load = some ⟨4, 0, .offline⟩ ∧
      (settlingAt .none (some ⟨4, 0, .offline⟩) .offline).head = .engaged ∧ PrinterState.offline ≠ .idle) ∧
    ((settlingAt .unknown (some ⟨4, 0, .idle⟩) .engaging).load = some ⟨4, 0, .idle⟩ ∧
      (settlingAt .unknown (some ⟨4, 0, .idle⟩) .engaging).head = .engaged ∧ PrinterState.engaging.busy = true) ∧
    ((Controller.startUp).idleLift = false ∧ (idle .startUp).idleLift = true) ∧
    ((Controller.startUp).resetWait = false ∧ (resetting.line officeLine).deferred = some (.printerReset 1)) := by decide

/-- A printer left IDLE with a job in its lane: 251 records are in use. -/
def short : State :=
  let s := (selling (atRest 104217)).putLane 1 ⟨[], [queuedJob]⟩
  s.putStock { s.stock with exceptions := List.replicate 251 skipped }

set_option maxRecDepth 4000 in
theorem witness_NoIdlePrinterWithWork : short.phase = .running ∧
    (∀ p, ∀ j ∈ (short.lane p).office ++ (short.lane p).window, j.abortMark = false) ∧
    (∀ p, short.inProgress p = none) ∧ (short.arbitrateAll.ctl 1).state = .idle ∧
    short.arbitrateAll.inProgress 1 = none ∧
    (short.arbitrateAll.lane 1).office ++ (short.arbitrateAll.lane 1).window ≠ [] := by decide

/-- An IDLE printer with a head in each lane, with one in the window lane alone, with a SUSPENDED job, and with nothing. -/
theorem witness_ArbiterOffersJob :
    (let s := (selling (atRest 104217)).putLane 1 ⟨[queuedJob], [queuedJob]⟩;
      (s.ctl 1).state = .idle ∧ s.inProgress 1 = none ∧ (s.lane 1).office = queuedJob :: [] ∧
        (s.lane 1).window = queuedJob :: []) ∧
    (let s := (selling (atRest 104217)).putLane 1 ⟨[], [queuedJob]⟩;
      (s.lane 1).office = [] ∧ (s.lane 1).window = queuedJob :: []) ∧
    (let s := (atRest 104217).putProgress 1 (some ⟨{ jobA with state := .suspended }, false⟩);
      (s.ctl 1).state = .idle ∧ s.inProgress 1 = some ⟨{ jobA with state := .suspended }, false⟩) ∧
    (((atRest 104217).lane 1).office = [] ∧ ((atRest 104217).lane 1).window = []) ∧ ((shop 104217).ctl 1).state ≠ .idle := by
  decide

/-- Two printers claim 6 records each, and 11 are unreserved. -/
def rivals : State :=
  let s := ((short.putPack 5 (some (packFive 104217 .loaded (some 0)))).putLoaded 0 (some 5)).putCtl 0 (idle .startUp)
  (s.putLane 0 ⟨[queuedJob], []⟩).putStock { s.stock with exceptions := List.replicate 245 skipped }

set_option maxRecDepth 4000 in
theorem witness_EventsAreClosed : rivals.contended = true ∧ (atRest 104217).contended = false ∧
    256 - (rivals.stock.exceptions.length + rivals.stock.reservation) = 11 := by decide

theorem none_all {α : Type} {P : α → Prop} {o : Option α} (h : o = none) : ∀ a, o = some a → P a := by
  intro a e; rw [h] at e; cases e

theorem some_all {α : Type} {P : α → Prop} {o : Option α} (x : α) (h : o = some x) (k : P x) : ∀ a, o = some a → P a := by
  intro a e; rw [h] at e; cases e; exact k

theorem short_marks : short.MarksSettled :=
  ⟨witness_NoIdlePrinterWithWork.2.1, fun p => none_all (witness_NoIdlePrinterWithWork.2.2.1 p)⟩

/-- A state none of whose jobs has its abort mark set. -/
theorem marksSettled_of_unmarked (s : State)
    (queued : ∀ p, ((s.lane p).office ++ (s.lane p).window).all (fun j => !j.abortMark) = true)
    (taken : ∀ p, (s.inProgress p).all (fun g => !g.job.abortMark) = true) : s.MarksSettled := by
  refine ⟨fun p j hj => by simpa using List.all_eq_true.mp (queued p) j hj, fun p g hg _ => ?_⟩
  have := taken p
  rw [hg] at this
  simpa using this

/-- The states of witness_FaultStopsWork. -/
theorem witness_FaultStopsWork_marks : (working 104221 j1 true .printing (.printLine []) 3).MarksSettled ∧
    ((atRest 104217).putCtl 1 (missing false 1)).MarksSettled ∧
    ((working 104221 j1 false .ejecting .eject 0).putCtl 1 { (working 104221 j1 false .ejecting .eject 0).ctl 1 with
      outstanding := some ⟨.eject, .waste, false⟩ }).MarksSettled :=
  ⟨marksSettled_of_unmarked _ (by decide) (by decide), marksSettled_of_unmarked _ (by decide) (by decide),
    marksSettled_of_unmarked _ (by decide) (by decide)⟩

theorem witness_FaultStopsWork_records : (working 104221 j1 true .printing (.printLine []) 3).RecordsKept := by decide

/-- A printing part, its queue holding the answer it waits for. -/
def atWork : State := (working 104217 jobA false .feeding .advance 0).putPending [.advanceAnswer 1 (.ok good)]

theorem witness_step : step atWork = .next (after (.advanceAnswer 1 (.ok good)) (atWork.putPending [])) :=
  next_after (c := .advanceAnswer 1 (.ok good)) rfl

theorem witness_QueuesAndRepliesStayBounded : atWork.BoundsKept := by decide

theorem witness_LogStaysSound : atWork.LogKept := by decide

theorem tender_all {P : SessionId → Tender → Prop} (h : ∀ n, P n .cash ∧ P n .card ∧ P n .warrant) : ∀ n t, P n t := by
  intro n t
  cases t
  · exact (h n).1
  · exact (h n).2.1
  · exact (h n).2.2

theorem witness_TillStaysRight : atWork.TillKept := ⟨by decide, tender_all (by decide)⟩

theorem atWork_progress : ∀ p : PrinterId, atWork.inProgress p = none ∨ atWork.inProgress p = some ⟨jobA, false⟩ := by decide

theorem atWork_all {P : Progress → Prop} (h : P ⟨jobA, false⟩) : ∀ p g, atWork.inProgress p = some g → P g := fun p =>
  (atWork_progress p).elim none_all fun e => some_all _ e h

theorem witness_PendingStaysRight : atWork.PendingKept :=
  ⟨fun n h => absurd h (by intro e; cases e),
    fun _ => ⟨tender_all (by decide), by decide, by decide, by decide, atWork_all (by decide)⟩⟩

theorem witness_RecordsStayCovered : atWork.RecordsKept :=
  ⟨⟨by decide, by decide, atWork_all (by decide), by decide⟩, by decide⟩

theorem atWork_load : ∀ p, (atWork.ctl p).load = none := by decide

theorem atWork_packs : ∀ slot : Slot, atWork.pack slot = none ∨
    slot = 4 ∧ atWork.pack slot = some (packFive 104217 .loaded (some 1)) := by decide

theorem atWork_packs_all {P : Slot → Pack → Prop} (h : P 4 (packFive 104217 .loaded (some 1))) :
    ∀ slot k, atWork.pack slot = some k → P slot k := fun slot =>
  (atWork_packs slot).elim none_all fun e => some_all _ e.2 (by rw [e.1]; exact h)

theorem witness_PacksStaySound : atWork.PacksKept :=
  ⟨⟨atWork_packs_all (by decide), by decide, fun _ p => none_all (atWork_load p)⟩,
    atWork_packs_all (atWork_packs_all (.inl rfl)), by decide, fun _ => by decide⟩

theorem witness_PrintersStaySound : atWork.PrintersKept :=
  ⟨by decide, by decide, fun _ p =>
    ⟨⟨by revert p; decide, by revert p; decide, by revert p; decide, by revert p; decide, by revert p; decide,
        by revert p; decide, by revert p; decide, by revert p; decide, by revert p; decide, by revert p; decide,
        by revert p; decide, by revert p; decide, none_all (atWork_load p)⟩,
      ⟨by revert p; decide, none_all (atWork_load p)⟩, by revert p; decide⟩, fun h => absurd h (by decide)⟩

theorem witness_SettingsStayInRange : atWork.SettingsKept := by decide

theorem witness_SettingsStayInRange_halted : powerless.SettingsKept ∧ powerless.phase = .halted := ⟨by decide, rfl⟩

theorem witness_CashupsAreKept : twoCashups.CashupsKept ∧ twoCashups.phase = .running ∧ cashupOne ∈ twoCashups.till.cashups ∧
    (cashupOne.isRead = false ∨ cashupOne.review = .needed) := by decide

theorem witness_WindowReachesOwnSession : requestBody issueA = some (3, (requestBody issueA).elim [] (·.2)) ∧
    (3 : Line) ≠ officeLine ∧ exec issueA short = .next (after issueA short) := by
  exact ⟨by decide, by decide, next_after rfl⟩

theorem witness_WindowReachesOwnSession_bounds : short.BoundsKept := by decide

end Sys2Proof.Tests
end

/-! # The state after reset, and a step that the printers' invariant does not survive -/

namespace Sys2Proof.Machine

open Sys2Proof Sys2Proof.Machine

/-! ## The state after reset (R27, R66, R133, R154, R199) -/

theorem reset_pack (slot : Slot) : State.reset.pack slot = none := by
  simp [State.pack, State.reset, Stock.storeLoss]

theorem reset_loaded (p : PrinterId) : State.reset.loaded p = none := by
  simp [State.loaded, State.reset, Stock.storeLoss]

theorem reset_ctl (p : PrinterId) : State.reset.ctl p = .startUp := by
  simp [State.ctl, State.reset]

theorem reset_inProgress (p : PrinterId) : State.reset.inProgress p = none := by
  simp [State.inProgress, State.reset]

theorem reset_lane (p : PrinterId) : State.reset.lane p = ⟨[], []⟩ := by
  simp [State.lane, State.reset]

theorem reset_session (n : SessionId) : State.reset.session n = .storeLoss := by
  simp [State.session, State.reset, Till.storeLoss]

theorem reset_line (l : Line) :
    State.reset.line l = { LineState.startUp with sending := some ⟨startUpNoticeStoreLost, none⟩ } := by
  simp [State.line, State.reset]

theorem reset_deferredMatches (p : PrinterId) : State.reset.DeferredMatches p := by
  simp [State.DeferredMatches, reset_ctl, reset_line, Controller.startUp, LineState.startUp]

theorem startUp_sound : Controller.startUp.Sound := by
  refine ⟨by decide, by decide, by decide, by decide, by decide, by decide, by decide, by decide, by decide, by decide,
    by decide, by decide, fun g h => by cases h⟩

theorem reset_boundsKept : State.reset.BoundsKept := by
  refine ⟨⟨fun p => ?_, fun n => ?_, fun l => ?_, by simp [reset_line, LineState.startUp]⟩, fun l => ?_⟩
  · simp [reset_lane]
  · simp [reset_session, Session.storeLoss]
  · simp [reset_line, LineState.startUp]
  · split <;> simp [reset_line, LineState.startUp]

theorem reset_logKept : State.reset.LogKept := by decide

theorem reset_tillKept : State.reset.TillKept := by
  refine ⟨fun n => ?_, fun n t => ?_⟩
  · simp [reset_session, Session.storeLoss, Tally.zero]
  · cases t <;> simp [reset_session, Session.storeLoss, Session.tally, Tally.zero, issuedTotal]

theorem reset_outstandingJobs (n : SessionId) (t : Tender) : State.reset.outstandingJobs n t = [] := by
  simp [State.outstandingJobs, reset_lane, reset_inProgress]

theorem reset_pendingKept : State.reset.PendingKept := by
  refine ⟨fun n h => (by cases h), fun _ => ⟨fun n t => ?_, fun p => ?_, fun n => .inr ?_, fun p j hj => ?_, fun p g hg => ?_⟩⟩
  · cases t <;> simp [reset_outstandingJobs, reset_session, Session.storeLoss, Session.tally, Tally.zero]
  · simp [reset_lane]
  · simp [reset_session, Session.storeLoss, Session.outstanding, Tally.zero]
  · simp [reset_lane] at hj
  · simp [reset_inProgress] at hg

theorem reset_recordsKept : State.reset.RecordsKept := by
  refine ⟨⟨by decide, by decide, fun p g hg => ?_, fun p => ?_⟩, by decide⟩
  · simp [reset_inProgress] at hg
  · simp [reset_lane]

theorem reset_packsKept : State.reset.PacksKept := by
  refine ⟨⟨fun slot k h => ?_, fun _ _ p => ?_, fun _ p g h => ?_⟩, fun a x h => ?_, fun l _ => ?_, fun _ => reset_deferredMatches⟩
  · simp [reset_pack] at h
  · simp [reset_loaded]
  · simp [reset_ctl, Controller.startUp] at h
  · simp [reset_pack] at h
  · simp [reset_line, LineState.startUp]

theorem reset_printersKept : State.reset.PrintersKept := by
  refine ⟨reset_logKept.1, fun l _ => ?_, fun _ p => ⟨?_, ⟨?_, fun g h => ?_⟩, reset_deferredMatches p⟩, fun h => by cases h⟩
  · simp [reset_line, LineState.startUp]
  · rw [reset_ctl]; exact startUp_sound
  · revert p; decide
  · simp [reset_ctl, Controller.startUp] at h

theorem reset_cashupsKept : State.reset.CashupsKept := by decide

theorem reset_settingsKept : State.reset.SettingsKept := by decide

/-! ## Two entries of one number

PrintersStaySound asks of the log that it is LogSound, not that its numbers are distinct (R136). With a CLEARED entry before
an OPEN one of the same number, ACKNOWLEDGE finds the CLEARED one, which it may take, and acknowledges both (R147): the
printer's fault stays open without an OPEN entry. -/

/-- A CLEARED entry of printer 1, and behind it an OPEN entry of the same number. -/
def sharedNumber : List FaultEntry :=
  let opened : FaultEntry :=
    { number := 1, source := some 0, kind := .jam, laterKinds := 0, repeats := 0, state := .opened,
      openedAt := ⟨Clock.storeLoss.now, 1⟩, clearedAt := none, strip := none, session := none }
  [{ opened with state := .cleared, clearedAt := some Clock.storeLoss.now }, opened]

/-- Printer 1 in FAULT with those entries, and an ACKNOWLEDGE of their number waiting. -/
def faultedTwice : State :=
  { State.reset with
    pending := [.acknowledge officeLine 1]
    log := ⟨sharedNumber, 2⟩
    controllers := (Vector.replicate 4 .startUp).set 0 { Controller.startUp with state := .fault, faultOpen := true } }

theorem faultedTwice_ctl (p : PrinterId) : faultedTwice.ctl p = .startUp ∨
    faultedTwice.ctl p = { Controller.startUp with state := .fault, faultOpen := true } := by
  revert p; decide

theorem faultedTwice_load (p : PrinterId) : (faultedTwice.ctl p).load = none := by
  rcases faultedTwice_ctl p with h | h <;> rw [h] <;> rfl

theorem faultedTwice_printersKept : faultedTwice.PrintersKept := by
  refine ⟨by decide, by decide, fun _ p => ⟨?_, ⟨by revert p; decide, fun g h => ?_⟩, by revert p; decide⟩, fun h => by cases h⟩
  · rcases faultedTwice_ctl p with h | h <;> rw [h]
    · exact startUp_sound
    · refine ⟨by decide, by decide, by decide, by decide, by decide, by decide, by decide, by decide, by decide, by decide,
        by decide, by decide, fun g h => by cases h⟩
  · rw [faultedTwice_load] at h; cases h

/-- The state that the ACKNOWLEDGE leaves. -/
def acknowledgedTwice : State := takeAcknowledge officeLine 1 (faultedTwice.putPending [])

theorem faultedTwice_step : step faultedTwice = .next acknowledgedTwice := rfl

theorem acknowledgedTwice_unmatched : ¬ acknowledgedTwice.EntryMatches 0 := fun h =>
  absurd h.1 (by decide)

/-- Settles O2, invariant by invariant. -/
theorem invariantsHoldAtReset : Obligations.InvariantsHoldAtReset := by
  exact ⟨reset_boundsKept, reset_logKept, reset_tillKept, reset_pendingKept, reset_recordsKept, reset_packsKept,
    reset_printersKept, reset_cashupsKept, reset_settingsKept⟩

/-- Refutes O57: its premise lets two entries share a number, and ACKNOWLEDGE of that number takes the OPEN one along with a
CLEARED one before it, so that a fault is left open without an OPEN entry. -/
theorem not_printersStaySound : ¬ Obligations.PrintersStaySound := by
  intro h
  obtain ⟨-, -, running, -⟩ := h faultedTwice acknowledgedTwice faultedTwice_printersKept faultedTwice_step
  exact acknowledgedTwice_unmatched (running (by decide) 0).2.1

end Sys2Proof.Machine

/-! # Invariants of a step, event by event

A step is an event: a request, a frame of a printer, a timer, an input. `EventsKeep P` says of each kind of event that it keeps
`P`; that a step keeps `P` follows once, here. -/

namespace Sys2Proof.Machine

open Sys2Proof Sys2Proof.Machine

/-- Every event of the part keeps `P`. The bytes of a frame need only that a receiver's state is of no concern to `P`. -/
structure EventsKeep (P : State → Prop) : Prop where
  pending : ∀ s x, P s → P (s.putPending x)
  receiver : ∀ s l r, P s → P (s.putLine l { s.line l with receiver := r })
  printerReceiver : ∀ s p r, P s → P (s.mapCtl p fun c => { c with receiver := r })
  request : ∀ i s, P s → P (takeRequest i s)
  refusal : ∀ l code status s, P s → P (s.request l code (·.pump l) (refuse · status))
  reject : ∀ l first s, P s → P (s.rejectFrame l first)
  frameSent : ∀ l s, P s → P (s.frameSent l)
  printerFrame : ∀ p f s, P s → P (takePrinterFrame p s f)
  setAside : ∀ p content s, P s → P (takeFrameSetAside p content s)
  deadline : ∀ p s, P s → P (s.printerEvent fun t => t.deadline p)
  settleEnds : ∀ p s, P s → P (s.printerEvent fun t => t.settleEnds p)
  idleLiftEnds : ∀ p s, P s → P (s.printerEvent fun t => t.idleLiftEnds p)
  enquire : ∀ p s, P s → P (s.printerEvent fun t => t.enquire p)
  resetWait : ∀ p w s, P s → P (s.printerEvent fun t => t.resetWaitEvent p w)
  drawer : ∀ n s, P s → P (s.putDrawer n false)
  flash : ∀ p s, P s → P (s.mapCtl p (·.flash))
  second : ∀ s, P s → P s.secondPasses
  pfail : ∀ s, P s → P { s.halt with pfail := true, lines := Vector.ofFn fun l => { s.halt.line l with body := [] } }
  rst : ∀ s, P s → P { s.halt with rst := true }
  signature : ∀ s x, P s → P { s with signature := x }
  cutShort : ∀ s, P s → P { s.halt with signature := .updating }
  startUp : ∀ straps stage s, P s → P (s.startTo straps stage)

/-- A request's own row takes it as its frame does (R180, log entry 5). -/
theorem exec_request (i : Instr) (s : State) (h : (requestBody i).isSome) : exec i s = .next (takeRequest i s) := by
  cases i <;> first | rfl | cases h

namespace EventsKeep

variable {P : State → Prop} (k : EventsKeep P)
include k

theorem gapTimer (l : Line) (s : State) (h : P s) : P (s.frameEnded l) := k.receiver s l _ h

theorem dropFrame (p : PrinterId) (s : State) (h : P s) : P (s.dropFrame p) := by
  unfold State.dropFrame; split
  · exact k.printerReceiver s p _ h
  · exact h

theorem lineByte (l : Line) (b : Byte) (s : State) (h : P s) : P (s.lineByte l b) := by
  unfold State.lineByte
  split
  · exact h
  · have h1 := k.receiver s l ((s.line l).receiver.take [leadA5] b).1 h
    dsimp only
    split
    · exact h1
    · exact k.reject l _ _ h1
    · exact k.reject l _ _ h1
    · unfold State.takeFrame
      split
      · exact k.request _ _ h1
      · exact k.refusal l _ _ _ h1

theorem printerByte (p : PrinterId) (b : Byte) (s : State) (h : P s) : P (s.printerByte p b) := by
  unfold State.printerByte
  split
  · have h1 := k.printerReceiver s p ((s.ctl p).receiver.take [leadA5, leadA6] b).1 h
    dsimp only
    split
    · exact k.printerFrame p _ _ h1
    · exact h1
  · exact h

/-- What each command leaves keeps `P`. -/
theorem exec (i : Instr) (s t : State) (h : P s) (e : Machine.exec i s = .next t) : P t := by
  by_cases hr : (requestBody i).isSome
  · rw [exec_request i s hr] at e; cases e; exact k.request i s h
  · cases i <;> first | (exact absurd rfl hr) | skip
    case unknownRequest l code => cases e; split; exacts [h, k.refusal l code _ s h]
    case rejected l first => cases e; exact k.reject l first s h
    case gapTimer l => cases e; exact k.gapTimer l s h
    case frameSent l => cases e; exact k.frameSent l s h
    case engageAnswer p a => cases e; exact k.printerFrame p (.engage a) s h
    case liftAnswer p a => cases e; exact k.printerFrame p (.lift a) s h
    case advanceAnswer p a => cases e; exact k.printerFrame p (.advance a) s h
    case readStripAnswer p a => cases e; exact k.printerFrame p (.readStrip a) s h
    case printLineAnswer p a => cases e; exact k.printerFrame p (.printLine a) s h
    case ejectAnswer p a => cases e; exact k.printerFrame p (.eject a) s h
    case enquireAnswer p a => cases e; exact k.printerFrame p (.enquire a) s h
    case sensorChange p x => cases e; exact k.printerFrame p (.sensorChange x) s h
    case printerFrameSetAside p content => cases e; exact k.setAside p content s h
    case printerFrameDiscarded p => cases e; exact k.dropFrame p s h
    case printerLineGap p => cases e; exact k.dropFrame p s h
    case operationDeadline p => cases e; exact k.deadline p s h
    case settleTime p => cases e; exact k.settleEnds p s h
    case idleLiftTimer p => cases e; exact k.idleLiftEnds p s h
    case enquiryTimer p => cases e; exact k.enquire p s h
    case printerResetWait p w => cases e; exact k.resetWait p w s h
    case drawerPulseEnd n => cases e; exact k.drawer n s h
    case lampFlash p => cases e; split; exacts [k.flash p s h, h]
    case clockTick => cases e; split; exacts [k.second s h, h]
    case dayRoll => cases e; split; exacts [k.second s h, h]
    case pfailAsserted => cases e; exact k.pfail s h
    case rstAsserted => cases e; exact k.rst s h
    case startUp straps stage => cases e; exact k.startUp straps stage s h
    case requestLineByteArrives l b => cases e; exact k.lineByte l b s h
    case printerLineByteArrives p b => cases e; exact k.printerByte p b s h
    case backupSupplyLost how => cases how <;> cases e; exacts [k.signature s _ h, k.cutShort s h]

/-- An invariant of every event is one of every step. -/
theorem step (s t : State) (h : P s) (e : Machine.step s = .next t) : P t := by
  unfold Machine.step at e
  split at e
  · cases e; exact h
  · exact k.exec _ _ t (k.pending s _ h) e

end EventsKeep

/-! ## Requests -/

section
variable {P : State → Prop} {s : State} {l : Line} {code : Byte} {close : State → State} {serve : State → Served}

/-- A request keeps `P` if its parts do: the end of its frame, its owner's effect behind the line's tests, its reply, and
what follows. -/
theorem State.request_keeps (h : P s) (frame : P (s.frameEnded l))
    (reply : ∀ t r, P t → P (t.queueReply l r)) (pump : ∀ t, P t → P (t.pump l)) (hclose : ∀ t, P t → P (close t))
    (hserve : (s.frameEnded l).lineTest l code = none → P (serve (s.frameEnded l)).state) :
    P (s.request l code close serve) := by
  unfold State.request
  split
  · exact h
  · dsimp only
    split
    · exact frame
    · split
      · exact pump _ (reply _ _ frame)
      · rename_i ht
        have h1 := hserve ht
        have h2 : P (match (serve (s.frameEnded l)).answer with
            | none => (serve (s.frameEnded l)).state
            | some a => (serve (s.frameEnded l)).state.queueReply l (a.reply code)) := by
          split
          · exact h1
          · exact reply _ _ h1
        split
        · exact hclose _ h2
        · exact pump _ h2

/-- `P` does not look at the lines. -/
def LineBlind (P : State → Prop) : Prop := ∀ s lines, P s → P { s with lines := lines }

namespace LineBlind

variable (b : LineBlind P)
include b

theorem putLine (x : LineState) (h : P s) : P (s.putLine l x) := b s _ h
theorem frameEnded (h : P s) : P (s.frameEnded l) := b s _ h
theorem queueReply (r : Reply) (h : P s) : P (s.queueReply l r) := b s _ h
theorem pump (h : P s) : P (s.pump l) := b s _ h
theorem pumpAll (h : P s) : P s.pumpAll := b s _ h
theorem raise (c : NoticeClass) (sub : Subject) (h : P s) : P (s.raise c sub) := by
  unfold State.raise; split
  · exact b s _ h
  · exact h
theorem rejectFrame (first : Option Byte) (h : P s) : P (s.rejectFrame l first) := by
  unfold State.rejectFrame; split
  · exact h
  · dsimp only
    split
    · exact b.frameEnded h
    · exact b.pump (b.queueReply _ (b.frameEnded h))
theorem frameSent (h : P s) : P (s.frameSent l) := by
  unfold State.frameSent; split
  · exact h
  · exact b.pump (b.putLine _ h)
theorem endDeferred (status : Status) (fields : List Byte) (h : P s) : P (s.endDeferred status fields) := by
  unfold State.endDeferred; split
  · exact h
  · exact b.queueReply _ (b.putLine _ h)
theorem handOver (o : Outcome) (h : P s) : P (s.handOver o) := by
  unfold State.handOver; split
  · exact h
  · exact b.putLine _ h

theorem request (hclose : ∀ t, P t → P (close t)) (hserve : ∀ t, P t → P (serve t).state) (h : P s) :
    P (s.request l code close serve) :=
  State.request_keeps h (b.frameEnded h) (fun _ r h => b.queueReply r h) (fun _ h => b.pump h) hclose
    fun _ => hserve _ (b.frameEnded h)

theorem refusal (status : Status) (h : P s) : P (s.request l code (·.pump l) (refuse · status)) :=
  b.request (fun _ h => b.pump h) (fun _ h => h) h

end LineBlind
end

end Sys2Proof.Machine

/-! # Invariants of the printers' operations

`OpsKeep P` asks of the writes that the printer controllers and the arbiters are built from, and of the ends of a job, a form and
a load, that they keep `P`. Every event of a printer then keeps it, which is shown here once. -/

namespace Sys2Proof.Machine

open Sys2Proof Sys2Proof.Machine

/-- A lane head as its admission leaves it, before its coupon loop begins (R91). -/
def State.admitted (s : State) (p : PrinterId) (j : Job) (rest : Lanes) : State :=
  (((s.putLane p rest).putStock { s.stock with reservation := s.stock.reservation + 6 }).putProgress p
    (some ⟨{ j with state := .printing, reservation := 6 }, false⟩)).noteRecords

theorem State.admitHead_eq (s : State) (p : PrinterId) (j : Job) (rest : Lanes) :
    s.admitHead p j rest = (s.admitted p j rest).beginLoop p := rfl

/-- The head of one of a printer's lanes, and the lanes without it (R90). -/
def Lanes.HeadIs (x : Lanes) (j : Job) (rest : Lanes) : Prop :=
  (x.office = j :: rest.office ∧ x.window = rest.window) ∨ (x.office = [] ∧ rest.office = [] ∧ x.window = j :: rest.window)

/-- Two jobs agree in what their records and their coupons rest on (R20, R80). -/
def Job.SameCounts (j k : Job) : Prop :=
  k.failures = j.failures ∧ k.printed = j.printed ∧ k.requested = j.requested ∧ k.reservation = j.reservation

/-- A controller's load and reset wait, all of it that the office line's deferred request answers for (R182). -/
def Controller.SameWaits (c d : Controller) : Prop :=
  d.load.map (·.slot) = c.load.map (·.slot) ∧ d.resetWait = c.resetWait

theorem Controller.SameWaits.rfl {c : Controller} : c.SameWaits c := ⟨Eq.refl _, Eq.refl _⟩

theorem LineState.pump_deferred (ln : LineState) (r : StartResult) : (ln.pump r).deferred = ln.deferred := by
  unfold LineState.pump; repeat' split
  all_goals rfl

/-- Writes of the lines and the controllers that leave the deferred request and its work, of the log and of the counter of free
values keep `P`. -/
structure BaseKeep (P : State → Prop) : Prop where
  lines : ∀ s v, (∀ l : Line, v[l].deferred = (s.line l).deferred) → P s → P { s with lines := v }
  ctls : ∀ s v, (∀ p : PrinterId, (s.ctl p).SameWaits v[p]) → P s → P { s with controllers := v }
  log : ∀ s x, P s → P (s.putLog x)
  draws : ∀ s x, P s → P (s.putDraws x)

/-- The parts of the printers' operations keep `P`. -/
structure OpsKeep (P : State → Prop) : Prop extends BaseKeep P where
  progress : ∀ s p g h, s.inProgress p = some g → g.job.SameCounts h.job → P s → P (s.putProgress p (some h))
  endJob : ∀ s p r, P s → P (s.endJob p r)
  physicalFault : ∀ s p k, P s → P (s.physicalFault p k)
  couponEjected : ∀ s p, P s → P (s.couponEjected p).1
  unreadable : ∀ s p slot k, s.loadedPack p = some (slot, k) → P s → P (s.unreadableForm p slot k.cursor).1
  gap : ∀ s p slot k x, s.loadedPack p = some (slot, k) → x.expected = k.cursor → k.cursor < x.serial → x.serial ≤ k.last →
    P s → P (s.gapForm p slot x).1
  loadEnds : ∀ s p g status fields, (s.ctl p).load = some g → P s → P ((s.returnFromLoad p g).endDeferred status fields)
  verified : ∀ s p g k, s.printersRun = true → (s.ctl p).load = some g → s.pack g.slot = some k → P s → P (s.verifyLoad p g k)
  resetEnds : ∀ s p, P s → P (s.finishReset p)
  admitted : ∀ s p j rest, s.inProgress p = none → (s.lane p).HeadIs j rest → 6 ≤ s.unreserved → P s → P (s.admitted p j rest)

namespace BaseKeep

variable {P : State → Prop} (k : BaseKeep P) {s : State}
include k

/-! ## Lines -/

theorem putLine (l : Line) (x : LineState) (hx : x.deferred = (s.line l).deferred) (h : P s) : P (s.putLine l x) := by
  refine k.lines s _ (fun m => ?_) h
  rw [show (s.lines.set l x)[m] = (s.putLine l x).line m from rfl, State.putLine_line]
  split
  · rename_i e; rw [hx, e]
  · rfl

theorem queueReply (l : Line) (r : Reply) (h : P s) : P (s.queueReply l r) := k.putLine l _ rfl h

theorem raise (c : NoticeClass) (sub : Subject) (h : P s) : P (s.raise c sub) := by
  unfold State.raise
  split
  · refine k.lines s _ (fun m => ?_) h
    simp only [Fin.getElem_fin, Vector.getElem_ofFn, Fin.eta]
    split
    · unfold LineState.receive; split <;> rfl
    · rfl
  · exact h

theorem pump (l : Line) (h : P s) : P (s.pump l) := k.putLine l _ (LineState.pump_deferred ..) h

theorem pumpAll (h : P s) : P s.pumpAll :=
  k.lines s _ (fun m => by simp only [Fin.getElem_fin, Vector.getElem_ofFn, Fin.eta, LineState.pump_deferred]) h

/-! ## Controllers -/

theorem mapCtl (p : PrinterId) (f : Controller → Controller) (hf : (s.ctl p).SameWaits (f (s.ctl p))) (h : P s) :
    P (s.mapCtl p f) := by
  refine k.ctls s _ (fun q => ?_) h
  rw [show (s.controllers.set p (f (s.ctl p)))[q] = (s.putCtl p (f (s.ctl p))).ctl q from rfl, State.putCtl_ctl]
  split
  · rename_i e; rw [e]; exact hf
  · exact .rfl

theorem setPrinterState (p : PrinterId) (st : PrinterState) (h : P s) : P (s.setPrinterState p st) := by
  have h1 := k.mapCtl p (·.enter st) ⟨rfl, rfl⟩ h
  unfold State.setPrinterState
  dsimp only
  split
  · exact h1
  · exact k.raise _ _ h1

theorem transmit (p : PrinterId) (op : Operation) (w : Purpose) (h : P s) : P (s.transmit p op w) :=
  k.mapCtl p _ ⟨rfl, rfl⟩ h

theorem sendOp (p : PrinterId) (op : Operation) (w : Purpose) (h : P s) : P (s.sendOp p op w) := by
  unfold State.sendOp
  split
  · exact k.transmit p op w h
  · exact k.mapCtl p _ ⟨rfl, rfl⟩ h

/-! ## Fault entries -/

theorem setEntries (es : List FaultEntry) (h : P s) : P (s.setEntries es) := by
  unfold State.setEntries
  split
  · exact h
  · exact k.log s _ h

theorem enterFault (p : PrinterId) (kind : FaultKind) (strip : Option StripRead) (h : P s) : P (s.enterFault p kind strip) := by
  unfold State.enterFault
  split
  · exact k.raise _ _ (k.log s _ h)
  · dsimp only
    split
    · exact k.raise _ _ (k.setEntries _ h)
    · exact k.setEntries _ h

theorem clearEntry (p : PrinterId) (h : P s) : P (s.clearEntry p) := by
  unfold State.clearEntry
  split
  · exact h
  · exact k.raise _ _ (k.setEntries _ h)

theorem hold (p : PrinterId) (kind : FaultKind) (strip : Option StripRead) (h : P s) : P (s.hold p kind strip) :=
  k.enterFault p kind strip (k.setPrinterState p _ h)

theorem clearFault (p : PrinterId) (h : P s) : P (s.clearFault p) := by
  have h1 := k.mapCtl p (fun c => { c with faultOpen := false, linkLost := false }) ⟨rfl, rfl⟩ h
  unfold State.clearFault
  dsimp only
  split <;> split
  · exact k.setPrinterState p _ h1
  · exact h1
  · exact k.setPrinterState p _ (k.clearEntry p h1)
  · exact k.clearEntry p h1

theorem handOver (o : Outcome) (h : P s) : P (s.handOver o) := by
  unfold State.handOver
  split
  · exact h
  · exact k.putLine _ _ rfl h

theorem liftOffline (p : PrinterId) (h : P s) : P (s.liftOffline p) := by
  unfold State.liftOffline
  split
  · exact k.sendOp p _ _ h
  · exact h

end BaseKeep

namespace OpsKeep

variable {P : State → Prop} (k : OpsKeep P) {s : State}
include k

/-! ## The job in progress -/

theorem mapJob (p : PrinterId) (f : Job → Job) (hf : ∀ j : Job, j.SameCounts (f j)) (h : P s) : P (s.mapJob p f) := by
  unfold State.mapJob
  split
  · exact h
  · rename_i g hg; exact k.progress s p g _ hg (hf g.job) h

theorem markForm (p : PrinterId) (b : Bool) (h : P s) : P (s.markForm p b) := by
  unfold State.markForm
  split
  · exact h
  · rename_i g hg; exact k.progress s p g _ hg ⟨rfl, rfl, rfl, rfl⟩ h

theorem suspend (p : PrinterId) (h : P s) : P (s.suspend p) :=
  k.markForm p false (k.mapJob p _ (fun _ => ⟨rfl, rfl, rfl, rfl⟩) h)

theorem endAtBoundary (p : PrinterId) (h : P s) : P (s.endAtBoundary p) := by
  unfold State.endAtBoundary
  repeat' split
  all_goals first | exact h | exact k.endJob s p _ h

/-! ## Sensor sets and frames -/

theorem physicalFaults (p : PrinterId) (ks : List FaultKind) (h : P s) : P (ks.foldl (fun t k => t.physicalFault p k) s) := by
  induction ks generalizing s with
  | nil => exact h
  | cons a as ih => exact ih (k.physicalFault s p a h)

theorem judgeSet (p : PrinterId) (x : Sensors) (clears : Bool) (h : P s) : P (s.judgeSet p x clears) := by
  have h1 := k.physicalFaults p (arisings (s.ctl p).sensors x) (k.mapCtl p (fun c => { c with sensors := some x }) ⟨rfl, rfl⟩ h)
  unfold State.judgeSet
  dsimp only
  split
  · exact k.clearFault p h1
  · exact h1

theorem endAbsent (p : PrinterId) (content : FrameContent) (h : P s) : P (s.endAbsent p content) := by
  cases content with
  | other => exact h
  | refusal why => exact k.resetEnds _ p (k.physicalFault s p _ h)
  | sensors x =>
    have h1 := k.mapCtl p (fun c => { c with sensors := some x }) ⟨rfl, rfl⟩ h
    unfold State.endAbsent
    dsimp only
    split
    · exact k.resetEnds _ p (k.setPrinterState p _ h1)
    · exact k.resetEnds _ p (k.physicalFaults p _ h1)

theorem heard (p : PrinterId) (content : FrameContent) (clears : Bool) (h : P s) : P (s.heard p content clears) := by
  unfold State.heard
  split
  · exact k.endAbsent p content h
  · cases content with
    | other => exact h
    | refusal why => exact k.physicalFault s p _ h
    | sensors x => exact k.judgeSet p x clears h

theorem frameSetAside (p : PrinterId) (content : FrameContent) (h : P s) : P (s.frameSetAside p content) := by
  have h1 := k.mapCtl p (fun c => { c with linkLost := false }) ⟨rfl, rfl⟩ h
  unfold State.frameSetAside
  dsimp only
  split
  · exact k.heard p content true h1
  · exact h1

theorem sensorFrame (p : PrinterId) (x : Sensors) (h : P s) : P (s.sensorFrame p x) :=
  k.heard p _ true (k.mapCtl p (fun c => { c with linkLost := false }) ⟨rfl, rfl⟩ h)

/-! ## The coupon loop and the load -/

theorem nextLine (p : PrinterId) (h : P s) : P (s.nextLine p) := by
  unfold State.nextLine
  split
  · exact k.sendOp p _ _ (k.setPrinterState p _ (k.mapCtl p _ ⟨rfl, rfl⟩ h))
  · exact k.sendOp p _ _ (k.setPrinterState p _ h)

theorem formVerified (p : PrinterId) (h : P s) : P (s.formVerified p) := by
  unfold State.formVerified
  split
  · rename_i g slot x hg hx
    split
    · exact k.setPrinterState p _ (k.endJob s p _ h)
    · exact k.nextLine p (k.mapCtl p _ ⟨rfl, rfl⟩ (k.progress s p g _ hg ⟨rfl, rfl, rfl, rfl⟩ h))
  · exact h

theorem feed (p : PrinterId) (kind : FormKind) (h : P s) : P (s.feed p kind) :=
  k.sendOp p _ _ (k.setPrinterState p _ (k.mapCtl p _ ⟨rfl, rfl⟩ h))

theorem readForm (p : PrinterId) (kind : FormKind) (h : P s) : P (s.readForm p kind) :=
  k.sendOp p _ _ (k.setPrinterState p _ (k.mapCtl p _ ⟨rfl, rfl⟩ h))

theorem positionForm (p : PrinterId) (h : P s) : P (s.positionForm p) := by
  have h1 := k.mapCtl p (fun c => { c with usedAdvances := 0 }) ⟨rfl, rfl⟩ h
  unfold State.positionForm
  dsimp only
  split
  · exact k.formVerified p h1
  · exact k.feed p _ h1
  · exact k.readForm p _ h1

theorem startPass (p : PrinterId) (h : P s) : P (s.startPass p) := by
  unfold State.startPass
  split
  · exact h
  · split
    · exact k.setPrinterState p _ (k.endJob s p _ h)
    · split
      · exact k.hold p _ _ (k.suspend p h)
      · split
        · exact k.sendOp p _ _ (k.setPrinterState p _ h)
        · exact k.positionForm p h

theorem beginLoop (p : PrinterId) (h : P s) : P (s.beginLoop p) := by
  unfold State.beginLoop
  split
  · exact k.startPass p h
  · exact k.mapCtl p _ ⟨rfl, rfl⟩ (k.setPrinterState p _ h)

theorem showLoad (p : PrinterId) (g : Load) (st : PrinterState) (h : P s) : P (s.showLoad p g st) := by
  unfold State.showLoad
  split
  · exact k.setPrinterState p st h
  · exact h

theorem loadStep (p : PrinterId) (h : P s) : P (s.loadStep p) := by
  unfold State.loadStep
  split
  · exact h
  · split
    · exact k.sendOp p _ _ (k.showLoad p _ _ h)
    · exact k.sendOp p _ _ (k.showLoad p _ _ h)

theorem settled (p : PrinterId) (h : P s) : P (s.settled p) := by
  have h1 := k.mapCtl p (fun c => { c with settling := false }) ⟨rfl, rfl⟩ h
  unfold State.settled
  dsimp only
  split
  · exact k.loadStep p h1
  · exact k.positionForm p h1

theorem goOn (p : PrinterId) (next : NextStep) (h : P s) : P (s.goOn p next) := by
  cases next with
  | nothing => exact h
  | pass => exact k.startPass p h
  | settle =>
    unfold State.goOn
    dsimp only
    split
    · exact k.settled p h
    · exact k.mapCtl p _ ⟨rfl, rfl⟩ h
  | readForm => exact k.readForm p _ h
  | readAgain => exact k.sendOp p _ _ h
  | verified => exact k.formVerified p h
  | line => exact k.nextLine p h
  | feed kind => exact k.feed p kind h
  | waste => exact k.sendOp p _ _ (k.setPrinterState p _ h)
  | load => exact k.loadStep p h

theorem drain (p : PrinterId) (n : Nat) (h : P s) : P (s.drain p n) := by
  induction n generalizing s with
  | zero => exact h
  | succ n ih =>
    unfold State.drain
    split
    · rename_i w rest _ _
      have h1 := k.mapCtl p (fun c => { c with waiting := rest }) ⟨rfl, rfl⟩ h
      cases w with
      | loopStart => exact ih (k.startPass p h1)
      | loadStep => exact ih (k.loadStep p h1)
      | op op purpose => exact ih (k.transmit p op purpose h1)
    · exact h

theorem opEnded (p : PrinterId) (h : P s) : P (s.opEnded p) := k.drain p _ h

/-! ## Results of answers -/

theorem engaged (p : PrinterId) (w : Purpose) (h : P s) : P (s.engaged p w).1 := by
  unfold State.engaged
  split
  · exact k.mapCtl p (fun c => { c with head := .engaged }) ⟨rfl, rfl⟩ h
  · exact h

theorem lifted (p : PrinterId) (h : P s) : P (s.lifted p).1 :=
  k.mapCtl p (fun c => { c with head := .lifted }) ⟨rfl, rfl⟩ h

theorem wasteEjected (p : PrinterId) (h : P s) : P (s.wasteEjected p).1 := by
  have h1 := k.mapCtl p (fun c => { c with position := .none }) ⟨rfl, rfl⟩ h
  unfold State.wasteEjected
  dsimp only
  split
  · exact h1
  · exact k.setPrinterState p _ h1

theorem ejected (p : PrinterId) (w : Purpose) (h : P s) : P (s.ejected p w).1 := by
  unfold State.ejected
  split
  · exact k.couponEjected s p h
  · exact k.wasteEjected p h
  · exact h

theorem strangeForm (p : PrinterId) (kind : FaultKind) (x : StripRead) (h : P s) : P (s.strangeForm p kind x).1 :=
  k.endAtBoundary p (k.hold p kind _ (k.suspend p (k.mapCtl p _ ⟨rfl, rfl⟩ h)))

theorem serialRead (p : PrinterId) (slot : Slot) (x : Pack) (strip : StripRead) (hx : s.loadedPack p = some (slot, x))
    (he : strip.expected = x.cursor) (h : P s) : P (s.serialRead p slot x strip).1 := by
  unfold State.serialRead
  split
  · exact k.mapCtl p (fun c => { c with position := .verified }) ⟨rfl, rfl⟩ h
  · split
    · split
      · exact k.mapCtl p (fun c => { c with usedAdvances := c.usedAdvances + 1 }) ⟨rfl, rfl⟩ h
      · exact k.strangeForm p _ _ h
    · split
      · rename_i hs; exact k.gap s p slot x strip hx he hs.1 hs.2.2 h
      · exact k.strangeForm p _ _ h

theorem badStrip (p : PrinterId) (slot : Slot) (x : Pack) (hx : s.loadedPack p = some (slot, x)) (h : P s) :
    P (s.badStrip p slot x).1 := by
  unfold State.badStrip
  split
  · exact k.mapCtl p (fun c => { c with badReads := c.badReads + 1 }) ⟨rfl, rfl⟩ h
  · split
    · exact k.unreadable s p slot x hx h
    · exact h

theorem loopStrip (p : PrinterId) (a : StripAnswer) (h : P s) : P (s.loopStrip p a).1 := by
  unfold State.loopStrip
  split
  · rename_i g slot x hg hx
    cases a with
    | noForm _ => exact k.physicalFault s p _ h
    | strip good letter1 letter2 serial _ =>
      dsimp only
      split
      · exact k.badStrip p slot x hx h
      · split
        · exact k.strangeForm p _ _ h
        · exact k.serialRead p slot x _ hx rfl h
    | refused _ => exact h
  · exact h

theorem loadStrip (p : PrinterId) (a : StripAnswer) (hr : s.printersRun = true) (h : P s) : P (s.loadStrip p a).1 := by
  unfold State.loadStrip
  split
  · exact h
  · rename_i g hg
    split
    · rename_i x good letter1 letter2 serial _ hx
      split
      · split
        · exact k.mapCtl p (fun c => { c with load := some { g with badReads := g.badReads + 1 } }) ⟨by simp [hg], rfl⟩ h
        · exact k.loadEnds s p g _ _ hg h
      · split
        · exact k.verified s p g x hr hg hx h
        · exact k.loadEnds s p g _ _ hg h
    · exact k.loadEnds s p g _ _ hg h
    · exact h

theorem stripRead (p : PrinterId) (a : StripAnswer) (w : Purpose) (hr : s.printersRun = true) (h : P s) : P (s.stripRead p a w).1 := by
  unfold State.stripRead
  split
  · exact k.loopStrip p a h
  · exact k.loadStrip p a hr h
  · exact h

theorem takeAnswer (p : PrinterId) (o : Outstanding) (content : FrameContent) (result : State → State × NextStep)
    (hr : ∀ t, t.printersRun = s.printersRun → P t → P (result t).1) (h : P s) : P (s.takeAnswer p o content result) := by
  have h1 := k.mapCtl p (fun c => { c with outstanding := none, missed := 0, linkLost := false }) ⟨rfl, rfl⟩ h
  refine k.opEnded p ?_
  cases content with
  | sensors x =>
    dsimp only
    have h3 := fun b => k.heard p (.sensors x) b (hr (s.mapCtl p fun c => { c with outstanding := none, missed := 0, linkLost := false }) rfl h1)
    split
    · exact k.goOn p _ (h3 _)
    · exact h3 _
  | refusal why => exact k.heard p _ true h1
  | other => exact k.heard p _ true h1

theorem answerTo (p : PrinterId) (op : Operation) (content : FrameContent) (result : Purpose → State → State × NextStep)
    (hr : ∀ w t, t.printersRun = s.printersRun → P t → P (result w t).1) (h : P s) : P (s.answerTo p op content result) := by
  unfold State.answerTo
  split
  · split
    · exact k.takeAnswer p _ content _ (hr _) h
    · exact k.frameSetAside p content h
  · exact k.frameSetAside p content h

/-! ## Timers -/

theorem deadline (p : PrinterId) (h : P s) : P (s.deadline p) := by
  have h1 := k.mapCtl p (fun c => { c with outstanding := none, missed := 0 }) ⟨rfl, rfl⟩ h
  unfold State.deadline
  split
  · exact h
  · split
    · exact h
    · split
      · exact k.opEnded p h1
      · split
        · exact k.mapCtl p _ ⟨rfl, rfl⟩ h
        · exact k.opEnded p (k.physicalFault _ p _ h1)

theorem enquire (p : PrinterId) (h : P s) : P (s.enquire p) := by
  unfold State.enquire
  split
  · exact k.sendOp p _ _ h
  · exact h

theorem settleEnds (p : PrinterId) (h : P s) : P (s.settleEnds p) := by
  unfold State.settleEnds
  split
  · exact k.settled p h
  · exact h

theorem idleLiftEnds (p : PrinterId) (h : P s) : P (s.idleLiftEnds p) := by
  unfold State.idleLiftEnds
  split
  · exact k.sendOp p _ _ (k.mapCtl p _ ⟨rfl, rfl⟩ h)
  · exact h

theorem resetWaitEvent (p : PrinterId) (w : Bool) (h : P s) : P (s.resetWaitEvent p w) := by
  unfold State.resetWaitEvent
  split
  · split
    · exact k.resetEnds s p h
    · exact k.transmit p _ _ h
  · exact h

/-! ## The arbiters, and what follows an event -/

theorem offer (p : PrinterId) (j : Job) (rest : Lanes) (hp : s.inProgress p = none) (hl : (s.lane p).HeadIs j rest) (h : P s) :
    P (s.offer p j rest) := by
  unfold State.offer
  split
  · exact k.hold p _ _ h
  · split
    · exact h
    · rename_i hu; exact k.beginLoop p (k.admitted s p j rest hp hl (Nat.not_lt.mp hu) h)

theorem arbiter (p : PrinterId) (h : P s) : P (s.arbiter p) := by
  unfold State.arbiter
  split
  · exact h
  · split
    · split
      · exact h
      · split
        · exact k.hold p _ _ h
        · exact k.beginLoop p (k.mapJob p _ (fun _ => ⟨rfl, rfl, rfl, rfl⟩) h)
    · rename_i hp
      split
      · rename_i _ j rest ho
        exact k.offer p j ⟨rest, (s.lane p).window⟩ hp (.inl ⟨ho, rfl⟩) h
      · rename_i j rest ho hw
        exact k.offer p j ⟨[], rest⟩ hp (.inr ⟨ho, rfl, hw⟩) h
      · exact h

theorem arbiters (ps : List PrinterId) (h : P s) : P (ps.foldl (fun t p => t.arbiter p) s) := by
  induction ps generalizing s with
  | nil => exact h
  | cons p ps ih => exact ih (k.arbiter p h)

theorem arbitrateAll (h : P s) : P s.arbitrateAll := by
  unfold State.arbitrateAll
  split
  · exact k.arbiters _ (k.draws s _ h)
  · exact k.arbiters _ h

theorem refreshLamps (h : P s) : P s.refreshLamps := by
  refine k.ctls s _ (fun p => ?_) h
  simp only [Fin.getElem_fin, Vector.getElem_ofFn, Fin.eta, Controller.showLamp]
  split <;> exact ⟨rfl, rfl⟩

theorem afterEvent (h : P s) : P s.afterEvent := k.pumpAll (k.refreshLamps (k.arbitrateAll h))

theorem printerEvent (f : State → State) (hf : s.printersRun = true → P s → P (f s)) (h : P s) : P (s.printerEvent f) := by
  unfold State.printerEvent
  split
  · rename_i hr; exact k.afterEvent (hf hr h)
  · exact h

theorem takePrinterFrame (p : PrinterId) (f : PrinterFrame) (h : P s) : P (takePrinterFrame p s f) := by
  have answered : ∀ (op : Operation) (c : FrameContent) (r : Purpose → State → State × NextStep),
      (∀ w t, t.printersRun = true → P t → P (r w t).1) → P (s.printerEvent fun t => t.answerTo p op c r) :=
    fun op c r hr => k.printerEvent _ (fun hs ht => k.answerTo p op c r (fun w t e => hr w t (e.trans hs)) ht) h
  cases f with
  | engage a => exact answered _ _ (fun w u => u.engaged p w) fun w _ _ => k.engaged p w
  | lift a => exact answered _ _ (fun _ u => u.lifted p) fun _ _ _ => k.lifted p
  | advance a => exact answered _ _ (fun w u => advanced u w) fun _ _ _ h => h
  | readStrip a => exact answered _ _ (fun w u => u.stripRead p a w) fun w _ hr => k.stripRead p a w hr
  | printLine a => exact answered _ _ (fun w u => linePrinted u w) fun _ _ _ h => h
  | eject a => exact answered _ _ (fun w u => u.ejected p w) fun w _ _ => k.ejected p w
  | enquire a => exact answered _ _ (fun _ u => (u, .nothing)) fun _ _ _ h => h
  | sensorChange x => exact k.printerEvent (fun t => t.sensorFrame p x) (fun _ => k.sensorFrame p x) h
  | other => exact k.printerEvent (fun t => t.frameSetAside p .other) (fun _ => k.frameSetAside p _) h

theorem rejectFrame (l : Line) (first : Option Byte) (h : P s) : P (s.rejectFrame l first) := by
  have h1 : P (s.frameEnded l) := k.putLine l _ rfl h
  unfold State.rejectFrame
  split
  · exact h
  · dsimp only
    split
    · exact h1
    · exact k.pump l (k.queueReply l _ h1)

theorem frameSent (l : Line) (h : P s) : P (s.frameSent l) := by
  unfold State.frameSent
  split
  · exact h
  · exact k.pump l (k.putLine l _ rfl h)

/-- A request keeps `P` if its owner's effect, behind the line's tests, and what follows it do. -/
theorem request {l : Line} {code : Byte} {close : State → State} {serve : State → Served}
    (hclose : ∀ t, P t → P (close t))
    (hserve : (s.frameEnded l).lineTest l code = none → P (s.frameEnded l) → P (serve (s.frameEnded l)).state) (h : P s) :
    P (s.request l code close serve) := by
  have h1 : P (s.frameEnded l) := k.putLine l _ rfl h
  exact State.request_keeps h h1 (fun _ r => k.queueReply l r) (fun _ => k.pump l) hclose fun ht => hserve ht h1

/-- Every event keeps `P`, if the requests, the timers of the part and its inputs do beside the printers' operations. -/
theorem events (pending : ∀ s x, P s → P (s.putPending x)) (takes : ∀ i s, P s → P (takeRequest i s))
    (drawer : ∀ n s, P s → P (s.putDrawer n false)) (clock : ∀ s, P s → P (s.runClock s.clock.tick))
    (pfail : ∀ s, P s → P { s.halt with pfail := true, lines := Vector.ofFn fun l => { s.halt.line l with body := [] } })
    (rst : ∀ s, P s → P { s.halt with rst := true }) (signature : ∀ s x, P s → P { s with signature := x })
    (cutShort : ∀ s, P s → P { s.halt with signature := .updating })
    (startUp : ∀ straps stage s, P s → P (s.startTo straps stage)) : EventsKeep P where
  pending := pending
  receiver _ l _ h := k.putLine l _ rfl h
  printerReceiver _ p _ h := k.mapCtl p _ ⟨rfl, rfl⟩ h
  request := takes
  refusal l _ _ _ h := k.request (fun _ => k.pump l) (fun _ h => h) h
  reject l first _ h := k.rejectFrame l first h
  frameSent l _ h := k.frameSent l h
  printerFrame p f _ h := k.takePrinterFrame p f h
  setAside p _ _ h := k.printerEvent _ (fun _ => k.frameSetAside p _) h
  deadline p _ h := k.printerEvent _ (fun _ => k.deadline p) h
  settleEnds p _ h := k.printerEvent _ (fun _ => k.settleEnds p) h
  idleLiftEnds p _ h := k.printerEvent _ (fun _ => k.idleLiftEnds p) h
  enquire p _ h := k.printerEvent _ (fun _ => k.enquire p) h
  resetWait p w _ h := k.printerEvent _ (fun _ => k.resetWaitEvent p w) h
  drawer := drawer
  flash p s h := k.mapCtl p _ (by unfold Controller.flash; split <;> exact ⟨rfl, rfl⟩) h
  second s h := by
    have h1 := clock s h
    unfold State.secondPasses
    dsimp only
    split
    · exact k.pumpAll (k.raise _ _ h1)
    · exact h1
  pfail := pfail
  rst := rst
  signature := signature
  cutShort := cutShort
  startUp := startUp

end OpsKeep

end Sys2Proof.Machine

/-! # What requests serve, and the parts of the state that hold still -/

namespace Sys2Proof.Machine

open Sys2Proof Sys2Proof.Machine

/-! ## Requests by their owners -/

/-- The owner's checks and effect of a request (R180); none for a command that is no request. -/
def serveRequest : Instr → State → Served
  | .readNotices l => serveReadNotices l
  | .setNoticeMask l mask => serveSetNoticeMask l mask
  | .readOutcomes l => serveReadOutcomes l
  | .abort l => serveAbort l
  | .readClock l => serveReadClock l
  | .setClock l stamp day rollHour => serveSetClock l stamp day rollHour
  | .signOn l clerk float => serveSignOn l clerk float
  | .void l issue => serveVoid l issue
  | .lift l session amount => serveLift l session amount
  | .setThresholds l high low => serveSetThresholds l high low
  | .readTill l session => serveReadTill l session
  | .readJournal l session position => serveReadJournal l session position
  | .writeBody l bytes => serveWriteBody l bytes
  | .issue l kind passengers base index tender coupons named text => serveIssue l kind passengers base index tender coupons named text
  | .cancel l issue => serveCancel l issue
  | .abortJob l issue => serveAbortJob l issue
  | .divert l printerA printerB => serveDivert l printerA printerB
  | .setWindowMap l session entries => serveSetWindowMap l session entries
  | .setDiscount l index rate floor step => serveSetDiscount l index rate floor step
  | .setStockKind l kind letter1 letter2 threshold => serveSetStockKind l kind letter1 letter2 threshold
  | .receivePack l kind first count => serveReceivePack l kind first count
  | .loadPack l slot printer => serveLoadPack l slot printer
  | .unloadPack l printer => serveUnloadPack l printer
  | .closePack l slot => serveClosePack l slot
  | .purgePack l slot => servePurgePack l slot
  | .readPack l slot => serveReadPack l slot
  | .readException l => serveReadException l
  | .auditSet l slot serial => serveAuditSet l slot serial
  | .auditNext l => serveAuditNext l
  | .setPrinter l printer kind feed settle => serveSetPrinter l printer kind feed settle
  | .release l printer => serveRelease l printer
  | .takeOffline l printer => serveTakeOffline l printer
  | .bringOnline l printer => serveBringOnline l printer
  | .printerReset l printer => servePrinterReset l printer
  | .readPrinters l => serveReadPrinters l
  | .readFaults l start => serveReadFaults l start
  | .acknowledge l entry => serveAcknowledge l entry
  | .cashupBegin l session => serveCashupBegin l session
  | .declareCash l session index count => serveDeclareCash l session index count
  | .declareCard l session total => serveDeclareCard l session total
  | .declareWarrants l session count total => serveDeclareWarrants l session count total
  | .cashupCommit l session => serveCashupCommit l session
  | .cashupAbandon l session => serveCashupAbandon l session
  | .setDenomination l index face => serveSetDenomination l index face
  | .setTolerance l tolerance => serveSetTolerance l tolerance
  | .readCashup l => serveReadCashup l
  | .review l record => serveReview l record
  | _ => fun s => ⟨s, none⟩

/-- What follows a request that took effect. -/
def closeRequest : Instr → Line → State → State
  | .abort _
  | .issue _ _ _ _ _ _ _ _ _
  | .cancel _ _
  | .abortJob _ _
  | .divert _ _ _
  | .loadPack _ _ _
  | .unloadPack _ _
  | .purgePack _ _
  | .setPrinter _ _ _ _ _
  | .release _ _
  | .takeOffline _ _
  | .bringOnline _ _
  | .printerReset _ _ => fun _ s => s.afterEvent
  | .setClock _ _ _ _
  | .signOn _ _ _
  | .void _ _
  | .lift _ _ _
  | .closePack _ _
  | .cashupCommit _ _ => fun _ s => s.closeLines
  | _ => fun l s => s.pump l

/-- What follows a request that took effect is one of three: its line's transmitter looks, all do, or the arbiters act before
they do. -/
theorem closeRequest_cases (i : Instr) (l : Line) :
    closeRequest i l = (·.pump l) ∨ closeRequest i l = State.closeLines ∨ closeRequest i l = State.afterEvent := by
  unfold closeRequest; split <;> simp

/-- A request is taken on its line, by its owner. -/
theorem takeRequest_eq (i : Instr) (l : Line) (code : Byte) (rest : List Byte) (h : requestBody i = some (l, code :: rest))
    (s : State) : takeRequest i s = s.request l code (closeRequest i l) (serveRequest i) := by
  cases i <;> simp only [requestBody, Option.some.injEq, Prod.mk.injEq, List.cons_append, List.cons.injEq, reduceCtorEq] at h <;>
    obtain ⟨rfl, rfl, -⟩ := h <;> rfl

/-- The body of a request begins with its code. -/
theorem requestBody_cons (i : Instr) (l : Line) (body : List Byte) (h : requestBody i = some (l, body)) :
    ∃ code rest, body = code :: rest := by
  cases i <;> simp only [requestBody, Option.some.injEq, Prod.mk.injEq, reduceCtorEq] at h <;>
    obtain ⟨-, rfl⟩ := h <;> exact ⟨_, _, rfl⟩

/-- A command that is no request is taken as none. -/
theorem takeRequest_none (i : Instr) (s : State) (h : requestBody i = none) : takeRequest i s = s := by
  cases i <;> first | rfl | cases h

/-- Every request keeps `P` if its owner's effect does, behind the line's tests. -/
theorem OpsKeep.takeRequest {P : State → Prop} (k : OpsKeep P)
    (serves : ∀ i l code rest u, requestBody i = some (l, code :: rest) → u.lineTest l code = none → P u →
      P (serveRequest i u).state) (i : Instr) (s : State) (h : P s) : P (takeRequest i s) := by
  cases e : requestBody i with
  | none => rw [takeRequest_none i s e]; exact h
  | some body =>
    obtain ⟨l, body⟩ := body
    obtain ⟨code, rest, rfl⟩ := requestBody_cons i l body e
    rw [takeRequest_eq i l code rest e]
    refine k.request (fun t ht => ?_) (serves i l code rest _ e) h
    rcases closeRequest_cases i l with hc | hc | hc <;> rw [hc]
    · exact k.pump l ht
    · exact k.pumpAll ht
    · exact k.afterEvent ht

/-! ## The tables of the till and the stock

The till unit without its sessions, and the stock kinds: no end of a job, a form or a load touches them. -/

/-- The till unit without its sessions. -/
def Till.shop (x : Till) : Till := { x with sessions := Vector.replicate 7 .storeLoss }

@[simp] theorem Till.shop_sessions (x : Till) (v : Vector Session 7) : Till.shop { x with sessions := v } = x.shop := rfl

theorem Till.eq_of_shop {x y : Till} (h : x.shop = y.shop) : x = { y with sessions := x.sessions } := by
  cases x; cases y; simp_all [Till.shop]

variable (s : State)

@[simp] theorem State.countKind_shop (n : SessionId) (k : Kind) (f : KindCounters → KindCounters) : (s.countKind n k f).till.shop = s.till.shop := by
  simp [State.countKind]
@[simp] theorem State.updateEstimate_shop (n : SessionId) (e : Nat) (d : DrawerState) : (s.updateEstimate n e d).till.shop = s.till.shop := by
  simp only [State.updateEstimate]; repeat' split
  all_goals simp
@[simp] theorem State.releaseCharge_shop (j : Job) : (s.releaseCharge j).till.shop = s.till.shop := by
  simp [State.releaseCharge]
@[simp] theorem State.failForm_shop (p : PrinterId) (slot : Slot) (first span : Nat) (reason : Reason) : (s.failForm p slot first span reason).till.shop = s.till.shop := by
  simp only [State.failForm]; repeat' split
  all_goals simp
@[simp] theorem State.undoCoupons_shop (p : PrinterId) (n : SessionId) (k : Kind) (cs : List Coupon) : (s.undoCoupons p n k cs).till.shop = s.till.shop := by
  induction cs generalizing s with
  | nil => rfl
  | cons c cs ih => simp [State.undoCoupons, ih]
@[simp] theorem State.loseForm_shop (p : PrinterId) : (s.loseForm p).till.shop = s.till.shop := by
  simp only [State.loseForm]; repeat' split
  all_goals simp
@[simp] theorem State.endJob_shop (p : PrinterId) (r : JobResult) : (s.endJob p r).till.shop = s.till.shop := by
  simp only [State.endJob]; repeat' split
  all_goals simp
@[simp] theorem State.settleTill_shop (j : Job) : (s.settleTill j).till.shop = s.till.shop := by
  simp only [State.settleTill]; repeat' split
  all_goals simp
@[simp] theorem State.settleJob_shop (p : PrinterId) : (s.settleJob p).till.shop = s.till.shop := by
  simp only [State.settleJob]; repeat' split
  all_goals simp
@[simp] theorem State.endAtBoundary_shop (p : PrinterId) : (s.endAtBoundary p).till.shop = s.till.shop := by
  simp only [State.endAtBoundary]; repeat' split
  all_goals simp
@[simp] theorem State.spoilForm_shop (p : PrinterId) : (s.spoilForm p).till.shop = s.till.shop := by
  simp only [State.spoilForm]; repeat' split
  all_goals simp
@[simp] theorem State.physicalFault_shop (p : PrinterId) (k : FaultKind) : (s.physicalFault p k).till.shop = s.till.shop := by
  simp only [State.physicalFault]; repeat' split
  all_goals simp
@[simp] theorem State.couponEjected_shop (p : PrinterId) : (s.couponEjected p).1.till.shop = s.till.shop := by
  simp only [State.couponEjected]; repeat' split
  all_goals simp
@[simp] theorem State.unreadableForm_shop (p : PrinterId) (slot : Slot) (n : Nat) : (s.unreadableForm p slot n).1.till.shop = s.till.shop := by
  simp [State.unreadableForm]
@[simp] theorem State.gapForm_shop (p : PrinterId) (slot : Slot) (x : StripRead) : (s.gapForm p slot x).1.till.shop = s.till.shop := by
  simp only [State.gapForm]; repeat' split
  all_goals simp

@[simp] theorem State.noteRecords_kinds : (s.noteRecords).stock.kinds = s.stock.kinds := by
  simp only [State.noteRecords]; repeat' split
  all_goals simp
@[simp] theorem State.addRecord_kinds (r : ExceptionRecord) : (s.addRecord r).stock.kinds = s.stock.kinds := by
  simp [State.addRecord]
@[simp] theorem State.addJobRecord_kinds (p : PrinterId) (slot : Slot) (first span : Nat) (reason : Reason) : (s.addJobRecord p slot first span reason).stock.kinds = s.stock.kinds := by
  simp only [State.addJobRecord]; repeat' split
  all_goals simp
@[simp] theorem State.moveCursor_kinds (slot : Slot) (serial : Nat) : (s.moveCursor slot serial).stock.kinds = s.stock.kinds := by
  simp only [State.moveCursor]; repeat' split
  all_goals simp
@[simp] theorem State.failForm_kinds (p : PrinterId) (slot : Slot) (first span : Nat) (reason : Reason) : (s.failForm p slot first span reason).stock.kinds = s.stock.kinds := by
  simp only [State.failForm]; repeat' split
  all_goals simp
@[simp] theorem State.undoCoupons_kinds (p : PrinterId) (n : SessionId) (k : Kind) (cs : List Coupon) : (s.undoCoupons p n k cs).stock.kinds = s.stock.kinds := by
  induction cs generalizing s with
  | nil => rfl
  | cons c cs ih => simp [State.undoCoupons, ih]
@[simp] theorem State.loseForm_kinds (p : PrinterId) : (s.loseForm p).stock.kinds = s.stock.kinds := by
  simp only [State.loseForm]; repeat' split
  all_goals simp
@[simp] theorem State.dropJob_kinds (p : PrinterId) : (s.dropJob p).stock.kinds = s.stock.kinds := by
  simp only [State.dropJob]; repeat' split
  all_goals simp
@[simp] theorem State.endJob_kinds (p : PrinterId) (r : JobResult) : (s.endJob p r).stock.kinds = s.stock.kinds := by
  simp only [State.endJob]; repeat' split
  all_goals simp
@[simp] theorem State.settleJob_kinds (p : PrinterId) : (s.settleJob p).stock.kinds = s.stock.kinds := by
  simp only [State.settleJob]; repeat' split
  all_goals simp
@[simp] theorem State.endAtBoundary_kinds (p : PrinterId) : (s.endAtBoundary p).stock.kinds = s.stock.kinds := by
  simp only [State.endAtBoundary]; repeat' split
  all_goals simp
@[simp] theorem State.spoilForm_kinds (p : PrinterId) : (s.spoilForm p).stock.kinds = s.stock.kinds := by
  simp only [State.spoilForm]; repeat' split
  all_goals simp
@[simp] theorem State.physicalFault_kinds (p : PrinterId) (k : FaultKind) : (s.physicalFault p k).stock.kinds = s.stock.kinds := by
  simp only [State.physicalFault]; repeat' split
  all_goals simp
@[simp] theorem State.verifyLoad_kinds (p : PrinterId) (g : Load) (k : Pack) : (s.verifyLoad p g k).stock.kinds = s.stock.kinds := by
  simp only [State.verifyLoad]; repeat' split
  all_goals simp
@[simp] theorem State.couponEjected_kinds (p : PrinterId) : (s.couponEjected p).1.stock.kinds = s.stock.kinds := by
  simp only [State.couponEjected]; repeat' split
  all_goals simp
@[simp] theorem State.unreadableForm_kinds (p : PrinterId) (slot : Slot) (n : Nat) : (s.unreadableForm p slot n).1.stock.kinds = s.stock.kinds := by
  simp [State.unreadableForm]
@[simp] theorem State.gapForm_kinds (p : PrinterId) (slot : Slot) (x : StripRead) : (s.gapForm p slot x).1.stock.kinds = s.stock.kinds := by
  simp only [State.gapForm]; repeat' split
  all_goals simp

@[simp] theorem State.noteRecords_packsLoaded : (s.noteRecords).stock.loaded = s.stock.loaded := by
  simp only [State.noteRecords]; repeat' split
  all_goals simp
@[simp] theorem State.addRecord_packsLoaded (r : ExceptionRecord) : (s.addRecord r).stock.loaded = s.stock.loaded := by
  simp [State.addRecord]
@[simp] theorem State.addJobRecord_packsLoaded (p : PrinterId) (slot : Slot) (first span : Nat) (reason : Reason) : (s.addJobRecord p slot first span reason).stock.loaded = s.stock.loaded := by
  simp only [State.addJobRecord]; repeat' split
  all_goals simp
@[simp] theorem State.moveCursor_packsLoaded (slot : Slot) (serial : Nat) : (s.moveCursor slot serial).stock.loaded = s.stock.loaded := by
  simp only [State.moveCursor]; repeat' split
  all_goals simp
@[simp] theorem State.failForm_packsLoaded (p : PrinterId) (slot : Slot) (first span : Nat) (reason : Reason) : (s.failForm p slot first span reason).stock.loaded = s.stock.loaded := by
  simp only [State.failForm]; repeat' split
  all_goals simp
@[simp] theorem State.undoCoupons_packsLoaded (p : PrinterId) (n : SessionId) (k : Kind) (cs : List Coupon) : (s.undoCoupons p n k cs).stock.loaded = s.stock.loaded := by
  induction cs generalizing s with
  | nil => rfl
  | cons c cs ih => simp [State.undoCoupons, ih]
@[simp] theorem State.loseForm_packsLoaded (p : PrinterId) : (s.loseForm p).stock.loaded = s.stock.loaded := by
  simp only [State.loseForm]; repeat' split
  all_goals simp
@[simp] theorem State.dropJob_packsLoaded (p : PrinterId) : (s.dropJob p).stock.loaded = s.stock.loaded := by
  simp only [State.dropJob]; repeat' split
  all_goals simp
@[simp] theorem State.endJob_packsLoaded (p : PrinterId) (r : JobResult) : (s.endJob p r).stock.loaded = s.stock.loaded := by
  simp only [State.endJob]; repeat' split
  all_goals simp
@[simp] theorem State.settleJob_packsLoaded (p : PrinterId) : (s.settleJob p).stock.loaded = s.stock.loaded := by
  simp only [State.settleJob]; repeat' split
  all_goals simp
@[simp] theorem State.endAtBoundary_packsLoaded (p : PrinterId) : (s.endAtBoundary p).stock.loaded = s.stock.loaded := by
  simp only [State.endAtBoundary]; repeat' split
  all_goals simp
@[simp] theorem State.spoilForm_packsLoaded (p : PrinterId) : (s.spoilForm p).stock.loaded = s.stock.loaded := by
  simp only [State.spoilForm]; repeat' split
  all_goals simp
@[simp] theorem State.physicalFault_packsLoaded (p : PrinterId) (k : FaultKind) : (s.physicalFault p k).stock.loaded = s.stock.loaded := by
  simp only [State.physicalFault]; repeat' split
  all_goals simp
@[simp] theorem State.couponEjected_packsLoaded (p : PrinterId) : (s.couponEjected p).1.stock.loaded = s.stock.loaded := by
  simp only [State.couponEjected]; repeat' split
  all_goals simp
@[simp] theorem State.unreadableForm_packsLoaded (p : PrinterId) (slot : Slot) (n : Nat) : (s.unreadableForm p slot n).1.stock.loaded = s.stock.loaded := by
  simp [State.unreadableForm]
@[simp] theorem State.gapForm_packsLoaded (p : PrinterId) (slot : Slot) (x : StripRead) : (s.gapForm p slot x).1.stock.loaded = s.stock.loaded := by
  simp only [State.gapForm]; repeat' split
  all_goals simp

end Sys2Proof.Machine

/-! # Invariants of the requests

A request that reads, or that writes a line, a session, the fault log or a controller alone, keeps whatever the printers'
operations and those blocks' writes keep. What is left to an invariant is the requests that set a table, a pack or a job. -/

namespace Sys2Proof.Machine

open Sys2Proof Sys2Proof.Machine

/-- Beside the printers' operations, the till's sessions and cash-up store, the drawer outputs and the audit cursor are of no
concern to `P`. -/
structure ShopKeep (P : State → Prop) : Prop extends OpsKeep P where
  till : ∀ s x, x.high = s.till.high → x.low = s.till.low → x.denominations = s.till.denominations →
    x.tolerance = s.till.tolerance → P s → P (s.putTill x)
  drawer : ∀ s n x, P s → P (s.putDrawer n x)
  audit : ∀ s x, P s → P (s.putAudit x)

/-- The requests that set a table, a pack or a job keep `P`, each behind its line's tests. -/
structure RequestsKeep (P : State → Prop) : Prop extends ShopKeep P where
  abort : ∀ l u, u.lineTest l 0x04 = none → P u → P (serveAbort l u).state
  setClock : ∀ l a b c u, P u → P (serveSetClock l a b c u).state
  void : ∀ l n u, P u → P (serveVoid l n u).state
  setThresholds : ∀ l a b u, P u → P (serveSetThresholds l a b u).state
  issue : ∀ l a b c d e f g t u, P u → P (serveIssue l a b c d e f g t u).state
  cancel : ∀ l n u, P u → P (serveCancel l n u).state
  abortJob : ∀ l n u, P u → P (serveAbortJob l n u).state
  divert : ∀ l a b u, P u → P (serveDivert l a b u).state
  setWindowMap : ∀ l n es u, P u → P (serveSetWindowMap l n es u).state
  setDiscount : ∀ l a b c d u, P u → P (serveSetDiscount l a b c d u).state
  setStockKind : ∀ l a b c d u, P u → P (serveSetStockKind l a b c d u).state
  receivePack : ∀ l a b c u, P u → P (serveReceivePack l a b c u).state
  loadPack : ∀ l a b u, u.lineTest l 0x32 = none → P u → P (serveLoadPack l a b u).state
  unloadPack : ∀ l a u, u.lineTest l 0x33 = none → P u → P (serveUnloadPack l a u).state
  closePack : ∀ l a u, u.lineTest l 0x34 = none → P u → P (serveClosePack l a u).state
  purgePack : ∀ l a u, P u → P (servePurgePack l a u).state
  readException : ∀ l u, P u → P (serveReadException l u).state
  setPrinter : ∀ l a b c d u, u.lineTest l 0x40 = none → P u → P (serveSetPrinter l a b c d u).state
  printerReset : ∀ l a u, u.lineTest l 0x44 = none → P u → P (servePrinterReset l a u).state
  setDenomination : ∀ l a b u, P u → P (serveSetDenomination l a b u).state
  setTolerance : ∀ l a u, P u → P (serveSetTolerance l a u).state

/-! ## Requests that only read -/

section
variable (l : Line) (u : State)

@[simp] theorem serveReadTill_state (session : Nat) : (serveReadTill l session u).state = u := by
  unfold serveReadTill; split <;> rfl

@[simp] theorem serveReadJournal_state (session position : Nat) : (serveReadJournal l session position u).state = u := by
  simp only [serveReadJournal]; repeat' split
  all_goals rfl

@[simp] theorem serveReadPack_state (slot : Nat) : (serveReadPack l slot u).state = u := by
  simp only [serveReadPack]; repeat' split
  all_goals rfl

@[simp] theorem serveReadFaults_state (start : Nat) : (serveReadFaults l start u).state = u := by
  unfold serveReadFaults; split <;> rfl

end

namespace ShopKeep

variable {P : State → Prop} (k : ShopKeep P) {u : State}
include k

theorem putSession (n : SessionId) (x : Session) (h : P u) : P (u.putSession n x) := k.till u _ rfl rfl rfl rfl h

theorem updateEstimate (n : SessionId) (e : Nat) (before : DrawerState) (h : P u) : P (u.updateEstimate n e before) := by
  unfold State.updateEstimate
  have h1 := fun x => k.putSession n x h
  dsimp only
  split
  · exact h1 _
  · split
    · exact k.raise _ _ (h1 _)
    · exact k.raise _ _ (h1 _)
    · exact h1 _

theorem signOn (l : Line) (clerk float : Nat) (h : P u) : P (serveSignOn l clerk float u).state := by
  unfold serveSignOn
  split
  · exact h
  · split
    · exact h
    · exact k.drawer _ _ _ (k.updateEstimate _ _ _ (k.putSession _ _ h))

theorem lift (l : Line) (session amount : Nat) (h : P u) : P (serveLift l session amount u).state := by
  unfold serveLift
  split
  · exact h
  · dsimp only
    split
    · exact h
    · split
      · exact h
      · exact h
      · split
        · exact h
        · split
          · exact h
          · exact k.drawer _ _ _ (k.updateEstimate _ _ _ (k.putSession _ _ h))

theorem cashupBegin (l : Line) (session : Nat) (h : P u) : P (serveCashupBegin l session u).state := by
  unfold serveCashupBegin
  split
  · exact h
  · dsimp only
    split
    · exact h
    · exact h
    · split
      · exact h
      · exact k.drawer _ _ _ (k.putSession _ _ h)

theorem declareCash (l : Line) (session index count : Nat) (h : P u) : P (serveDeclareCash l session index count u).state := by
  unfold serveDeclareCash
  split
  · exact h
  · split
    · split
      · exact h
      · exact k.putSession _ _ h
    · exact h

theorem declareCard (l : Line) (session total : Nat) (h : P u) : P (serveDeclareCard l session total u).state := by
  unfold serveDeclareCard
  split
  · exact h
  · split
    · exact h
    · exact k.putSession _ _ h

theorem declareWarrants (l : Line) (session count total : Nat) (h : P u) :
    P (serveDeclareWarrants l session count total u).state := by
  unfold serveDeclareWarrants
  split
  · exact h
  · split
    · exact h
    · exact k.putSession _ _ h

theorem cashupCommit (l : Line) (session : Nat) (h : P u) : P (serveCashupCommit l session u).state := by
  unfold serveCashupCommit
  split
  · exact h
  · split
    · exact h
    · exact k.raise _ _ (k.till _ _ rfl rfl rfl rfl (k.putSession _ _ h))

theorem cashupAbandon (l : Line) (session : Nat) (h : P u) : P (serveCashupAbandon l session u).state := by
  unfold serveCashupAbandon
  split
  · exact h
  · dsimp only
    split
    · exact h
    · split
      · exact h
      · exact k.putSession _ _ h

theorem readCashup (l : Line) (h : P u) : P (serveReadCashup l u).state := by
  unfold serveReadCashup
  split
  · exact h
  · exact k.till u _ rfl rfl rfl rfl h

theorem review (l : Line) (record : Nat) (h : P u) : P (serveReview l record u).state := by
  unfold serveReview
  split
  · exact h
  · split
    · exact h
    · split
      · exact h
      · split
        · exact h
        · exact k.till u _ rfl rfl rfl rfl h

theorem writeBody (l : Line) (bytes : List Byte) (h : P u) : P (serveWriteBody l bytes u).state := by
  unfold serveWriteBody
  split
  · exact h
  · exact k.putLine l _ rfl h

theorem auditSet (l : Line) (slot serial : Nat) (h : P u) : P (serveAuditSet l slot serial u).state := by
  unfold serveAuditSet
  split
  · exact h
  · split
    · exact h
    · split
      · exact h
      · exact k.audit _ _ h

theorem auditNext (l : Line) (h : P u) : P (serveAuditNext l u).state := by
  unfold serveAuditNext
  split
  · exact h
  · split
    · exact h
    · unfold accept; dsimp only
      split
      · exact h
      · exact k.audit _ _ h

theorem release (l : Line) (printer : Nat) (h : P u) : P (serveRelease l printer u).state := by
  unfold serveRelease
  split
  · exact h
  · split
    · exact h
    · split
      · exact h
      · exact k.setPrinterState _ _ (k.mapCtl _ _ ⟨rfl, rfl⟩ (k.clearEntry _ h))

theorem takeOffline (l : Line) (printer : Nat) (h : P u) : P (serveTakeOffline l printer u).state := by
  unfold serveTakeOffline
  split
  · exact h
  · split
    · exact h
    · split
      · exact h
      · exact k.liftOffline _ (k.setPrinterState _ _ h)

theorem bringOnline (l : Line) (printer : Nat) (h : P u) : P (serveBringOnline l printer u).state := by
  unfold serveBringOnline
  split
  · exact h
  · split
    · exact h
    · exact k.sendOp _ _ _ (k.setPrinterState _ _ h)

theorem acknowledge (l : Line) (entry : Nat) (h : P u) : P (serveAcknowledge l entry u).state := by
  unfold serveAcknowledge
  split
  · exact h
  · split
    · exact h
    · split
      · exact h
      · exact k.setEntries _ h

end ShopKeep

/-- The owner's effect of every request keeps `P`. -/
theorem RequestsKeep.serves {P : State → Prop} (k : RequestsKeep P) (i : Instr) (l : Line) (code : Byte) (rest : List Byte)
    (u : State) (e : requestBody i = some (l, code :: rest)) (ht : u.lineTest l code = none) (h : P u) :
    P (serveRequest i u).state := by
  cases i <;> simp only [requestBody, Option.some.injEq, Prod.mk.injEq, List.cons_append, List.cons.injEq, reduceCtorEq] at e <;>
    obtain ⟨e, rfl, -⟩ := e <;> obtain rfl := e.symm
  case readNotices => exact k.putLine _ _ rfl h
  case setNoticeMask => exact k.putLine _ _ rfl h
  case readOutcomes => exact k.putLine _ _ rfl h
  case abort => exact k.abort l u ht h
  case readClock => exact h
  case setClock => exact k.setClock l _ _ _ u h
  case signOn => exact k.toShopKeep.signOn l _ _ h
  case void => exact k.void l _ u h
  case lift => exact k.toShopKeep.lift l _ _ h
  case setThresholds => exact k.setThresholds l _ _ u h
  case readTill => simpa only [serveRequest, serveReadTill_state] using h
  case readJournal => simpa only [serveRequest, serveReadJournal_state] using h
  case writeBody => exact k.toShopKeep.writeBody l _ h
  case issue => exact k.issue l _ _ _ _ _ _ _ _ u h
  case cancel => exact k.cancel l _ u h
  case abortJob => exact k.abortJob l _ u h
  case divert => exact k.divert l _ _ u h
  case setWindowMap => exact k.setWindowMap l _ _ u h
  case setDiscount => exact k.setDiscount l _ _ _ _ u h
  case setStockKind => exact k.setStockKind l _ _ _ _ u h
  case receivePack => exact k.receivePack l _ _ _ u h
  case loadPack => exact k.loadPack l _ _ u ht h
  case unloadPack => exact k.unloadPack l _ u ht h
  case closePack => exact k.closePack l _ u ht h
  case purgePack => exact k.purgePack l _ u h
  case readPack => simpa only [serveRequest, serveReadPack_state] using h
  case readException => exact k.readException l u h
  case auditSet => exact k.toShopKeep.auditSet l _ _ h
  case auditNext => exact k.toShopKeep.auditNext l h
  case setPrinter => exact k.setPrinter l _ _ _ _ u ht h
  case release => exact k.toShopKeep.release l _ h
  case takeOffline => exact k.toShopKeep.takeOffline l _ h
  case bringOnline => exact k.toShopKeep.bringOnline l _ h
  case printerReset => exact k.printerReset l _ u ht h
  case readPrinters => exact k.draws _ _ h
  case readFaults => simpa only [serveRequest, serveReadFaults_state] using h
  case acknowledge => exact k.toShopKeep.acknowledge l _ h
  case cashupBegin => exact k.toShopKeep.cashupBegin l _ h
  case declareCash => exact k.toShopKeep.declareCash l _ _ _ h
  case declareCard => exact k.toShopKeep.declareCard l _ _ h
  case declareWarrants => exact k.toShopKeep.declareWarrants l _ _ _ h
  case cashupCommit => exact k.toShopKeep.cashupCommit l _ h
  case cashupAbandon => exact k.toShopKeep.cashupAbandon l _ h
  case setDenomination => exact k.setDenomination l _ _ u h
  case setTolerance => exact k.setTolerance l _ u h
  case readCashup => exact k.toShopKeep.readCashup l h
  case review => exact k.toShopKeep.review l _ h

/-- A request keeps `P`. -/
theorem RequestsKeep.take {P : State → Prop} (k : RequestsKeep P) (i : Instr) (s : State) (h : P s) : P (takeRequest i s) :=
  k.toOpsKeep.takeRequest (fun i l code rest u e ht hu => k.serves i l code rest u e ht hu) i s h

end Sys2Proof.Machine

/-! # The settings stay in their ranges -/

namespace Sys2Proof.Machine

open Sys2Proof Sys2Proof.Machine

/-! ## The calendar (R191, R192, R201) -/

theorem monthLength_pos (year month : Nat) : 1 ≤ monthLength year month := by
  unfold monthLength; repeat' split
  all_goals omega

theorem Date.valid_iff (d : Date) : d.valid = true ↔ (2000 ≤ d.year ∧ d.year ≤ 2099) ∧ (1 ≤ d.month ∧ d.month ≤ 12) ∧
    1 ≤ d.day ∧ d.day ≤ monthLength d.year d.month := by
  simp [Date.valid, and_assoc]

theorem TimeOfDay.valid_iff (t : TimeOfDay) : t.valid = true ↔ t.hour < 24 ∧ t.minute < 60 ∧ t.second < 60 := by
  simp [TimeOfDay.valid, and_assoc]

/-- The day after a date of the calendar is one (R191). -/
theorem Date.next_valid (d : Date) (h : d.valid = true) : d.next.valid = true := by
  rw [Date.valid_iff] at h
  obtain ⟨hy, hm, hd⟩ := h
  unfold Date.next
  split
  · rw [Date.valid_iff]; exact ⟨hy, hm, by dsimp only; omega⟩
  · split
    · rw [Date.valid_iff]; exact ⟨hy, by dsimp only; omega, Nat.le_refl 1, monthLength_pos _ _⟩
    · split
      · rw [Date.valid_iff]; exact ⟨by dsimp only; omega, by simp, Nat.le_refl 1, monthLength_pos _ _⟩
      · decide

/-- A second later it is a date and a time still (R191). -/
theorem DateTime.next_valid (x : DateTime) (hd : x.date.valid = true) (ht : x.time.valid = true) :
    x.next.date.valid = true ∧ x.next.time.valid = true := by
  rw [TimeOfDay.valid_iff] at ht
  obtain ⟨hh, hm, hs⟩ := ht
  unfold DateTime.next
  repeat' split
  · exact ⟨hd, (TimeOfDay.valid_iff _).mpr ⟨hh, hm, by dsimp only; omega⟩⟩
  · exact ⟨hd, (TimeOfDay.valid_iff _).mpr ⟨hh, by dsimp only; omega, by simp⟩⟩
  · exact ⟨hd, (TimeOfDay.valid_iff _).mpr ⟨by dsimp only; omega, by simp, by simp⟩⟩
  · exact ⟨x.date.next_valid hd, rfl⟩

/-- The days of the months of a year from one on. -/
def daysOfMonths (year : Nat) : Nat → Nat → Nat
  | 0, _ => 0
  | n + 1, month => monthLength year month + daysOfMonths year n (month + 1)

/-- A day that the months looked at hold lies in one of them (R201). -/
theorem monthAndDay_valid (year : Nat) : ∀ fuel month days, days < daysOfMonths year (fuel + 1) month →
    month ≤ (monthAndDay year fuel month days).1 ∧ (monthAndDay year fuel month days).1 ≤ month + fuel ∧
      1 ≤ (monthAndDay year fuel month days).2 ∧
      (monthAndDay year fuel month days).2 ≤ monthLength year (monthAndDay year fuel month days).1
  | 0, month, days, h => by
    simp only [daysOfMonths] at h
    simp only [monthAndDay]
    omega
  | fuel + 1, month, days, h => by
    rw [daysOfMonths] at h
    unfold monthAndDay
    split
    · dsimp only; omega
    · have := monthAndDay_valid year fuel (month + 1) (days - monthLength year month) (by omega)
      omega

theorem daysOfYear (year : Nat) : daysOfMonths year 12 1 = if year % 4 = 0 then 366 else 365 := by
  simp only [daysOfMonths, monthLength, isLeap, beq_iff_eq]
  split <;> rfl

/-- The date of a day of the hundred years is one of the calendar (R191, R201). -/
theorem dateOfDays_valid (days : Nat) (h : days < 36525) : (dateOfDays days).valid = true := by
  have hy : ∃ year, 2000 ≤ year ∧ year ≤ 2099 ∧ days - daysBeforeYear year < daysOfMonths year 12 1 ∧
      dateOfDays days = ⟨year, (monthAndDay year 11 1 (days - daysBeforeYear year)).1,
        (monthAndDay year 11 1 (days - daysBeforeYear year)).2⟩ := by
    refine ⟨_, ?_, ?_, ?_, rfl⟩
    · omega
    · split <;> omega
    · rw [daysOfYear]
      unfold daysBeforeYear
      split <;> split <;> omega
  obtain ⟨year, h1, h2, h3, e⟩ := hy
  have hm := monthAndDay_valid year 11 1 _ h3
  rw [e, Date.valid_iff]
  dsimp only
  omega

/-- What SET CLOCK reads from a stamp is a date and a time (R194, R201). -/
theorem DateTime.ofStamp_valid (n : Nat) (x : DateTime) (h : DateTime.ofStamp n = some x) :
    x.date.valid = true ∧ x.time.valid = true := by
  unfold DateTime.ofStamp calendarSeconds at h
  split at h
  · cases h
    refine ⟨dateOfDays_valid _ (by omega), (TimeOfDay.valid_iff _).mpr ?_⟩
    dsimp only
    omega
  · cases h

/-! ## The settings -/

/-- The settings are in their ranges whenever those they are equal to are. -/
theorem settingsKept_of_tables {s t : State} (hd : t.discounts = s.discounts) (hm : t.maps = s.maps)
    (hc : t.configs = s.configs) (hn : t.clock = s.clock) (hk : t.stock.kinds = s.stock.kinds)
    (ht : t.till.shop = s.till.shop) (h : s.SettingsKept) : t.SettingsKept := by
  have h1 : t.till.high = s.till.high := by simpa only [Till.shop] using congrArg Till.high ht
  have h2 : t.till.low = s.till.low := by simpa only [Till.shop] using congrArg Till.low ht
  have h3 : t.till.denominations = s.till.denominations := by simpa only [Till.shop] using congrArg Till.denominations ht
  have h4 : t.till.tolerance = s.till.tolerance := by simpa only [Till.shop] using congrArg Till.tolerance ht
  unfold State.SettingsKept State.kind State.config at h ⊢
  rw [hd, hm, hc, hn, hk, h1, h2, h3, h4]
  exact h

/-- An operation that leaves the settings, the kinds and the shop keeps the ranges. -/
theorem settingsKept_of_frame {s t : State} (hs : t.settings = s.settings) (hk : t.stock.kinds = s.stock.kinds)
    (ht : t.till.shop = s.till.shop) (h : s.SettingsKept) : t.SettingsKept :=
  settingsKept_of_tables (congrArg Settings.discounts hs) (congrArg Settings.maps hs) (congrArg Settings.configs hs)
    (congrArg Settings.clock hs) hk ht h

theorem settingsKept_shopKeep : ShopKeep State.SettingsKept where
  lines _ _ _ h := h
  ctls _ _ _ h := h
  log _ _ h := h
  draws _ _ h := h
  progress _ _ _ _ _ _ h := h
  endJob s p r h := settingsKept_of_frame (by simp) (by simp) (by simp) h
  physicalFault s p k h := settingsKept_of_frame (by simp) (by simp) (by simp) h
  couponEjected s p h := settingsKept_of_frame (by simp) (by simp) (by simp) h
  unreadable s p slot k _ h := settingsKept_of_frame (by simp) (by simp) (by simp) h
  gap s p slot k x _ _ _ _ h := settingsKept_of_frame (by simp) (by simp) (by simp) h
  loadEnds s p g status fields _ h := settingsKept_of_frame (by simp) (by simp) (by simp) h
  verified s p g k _ _ _ h := settingsKept_of_frame (by simp) (by simp) (by simp) h
  resetEnds s p h := settingsKept_of_frame (by simp) (by simp) (by simp) h
  admitted s p j rest _ _ _ h :=
    settingsKept_of_frame (by simp [State.admitted]) (by simp [State.admitted]) (by simp [State.admitted]) h
  till s x h1 h2 h3 h4 h := by
    unfold State.SettingsKept at h ⊢
    simp only [State.putTill_till, h1, h2, h3, h4]
    exact h
  drawer _ _ _ h := h
  audit _ _ h := h

/-! ## The requests that set a table -/

variable {s : State}

theorem settingsKept_setClock (l : Line) (stamp day hour : Nat) (h : s.SettingsKept) :
    (serveSetClock l stamp day hour s).state.SettingsKept := by
  unfold serveSetClock
  split
  · exact h
  · rename_i now hnow
    split
    · exact h
    · rename_i hr
      refine settingsKept_shopKeep.raise _ _ ?_
      obtain ⟨h1, h2, h3, h4, h5, h6, -⟩ := h
      obtain ⟨hd, ht⟩ := DateTime.ofStamp_valid _ _ hnow
      exact ⟨h1, h2, h3, h4, h5, h6, hd, ht, by simp; omega, by simp; omega, by simp; omega⟩

theorem settingsKept_setThresholds (l : Line) (high low : Nat) (h : s.SettingsKept) :
    (serveSetThresholds l high low s).state.SettingsKept := by
  unfold serveSetThresholds
  split
  · exact h
  · obtain ⟨⟨-, -, h1⟩, h⟩ := h
    exact ⟨⟨by simp [accept]; omega, by simp [accept]; omega, h1⟩, h⟩

theorem settingsKept_setTolerance (l : Line) (tolerance : Nat) (h : s.SettingsKept) :
    (serveSetTolerance l tolerance s).state.SettingsKept := by
  unfold serveSetTolerance
  split
  · exact h
  · obtain ⟨⟨h1, h2, -⟩, h⟩ := h
    exact ⟨⟨h1, h2, by simp [accept]; omega⟩, h⟩

theorem faceElsewhere_iff (faces : Vector Nat 12) (index face : Nat) :
    faceElsewhere faces index face = true ↔ ∃ i : Fin 12, i.val ≠ index ∧ faces[i] = face := by
  simp only [faceElsewhere, List.any_eq_true, List.mem_range, Bool.and_eq_true, bne_iff_ne, ne_eq, beq_iff_eq]
  constructor
  · rintro ⟨i, hi, hne, he⟩
    refine ⟨⟨i, hi⟩, hne, ?_⟩
    simpa [List.getElem?_eq_some_iff, hi] using he
  · rintro ⟨i, hne, he⟩
    exact ⟨i.val, i.isLt, hne, by simp; exact he⟩

theorem settingsKept_setDenomination (l : Line) (index face : Nat) (h : s.SettingsKept) :
    (serveSetDenomination l index face s).state.SettingsKept := by
  unfold serveSetDenomination
  split
  · rename_i hi
    split
    · exact h
    · split
      · exact h
      · split
        · exact h
        · rename_i hf he _
          obtain ⟨h1, h2, h⟩ := h
          rw [faceElsewhere_iff] at he
          refine ⟨h1, fun i => ⟨?_, fun j hij => ?_⟩, h⟩
          · simp only [accept, State.putTill_till, Fin.getElem_fin, Vector.getElem_set]
            split
            · omega
            · exact (h2 i).1
          · have h3 := (h2 i).2 j hij
            simp only [accept, State.putTill_till, Fin.getElem_fin, Vector.getElem_set] at h3 ⊢
            split <;> split
            · omega
            · intro e
              by_contra h0
              exact he ⟨h0, j, by omega, e.symm⟩
            · intro e
              by_contra h0
              exact he ⟨e ▸ h0, i, by omega, e⟩
            · exact h3
  · exact h

theorem settingsKept_setDiscount (l : Line) (index rate floor step : Nat) (h : s.SettingsKept) :
    (serveSetDiscount l index rate floor step s).state.SettingsKept := by
  unfold serveSetDiscount
  split
  · rename_i hi
    split
    · exact h
    · rename_i hr
      obtain ⟨h1, h2, ⟨h30, h3⟩, h⟩ := h
      refine ⟨h1, h2, ⟨?_, fun i => ?_⟩, h⟩
      · simp only [accept, State.putDiscount_discounts, Vector.getElem_set]
        rw [if_neg (by omega)]
        exact h30
      · simp only [accept, State.putDiscount_discounts, Fin.getElem_fin, Vector.getElem_set]
        split
        · refine ⟨by dsimp only; omega, by dsimp only; omega, ?_⟩
          simp only [List.mem_cons, List.not_mem_nil, or_false]
          omega
        · exact h3 i
  · exact h

theorem settingsKept_setStockKind (l : Line) (kind : Nat) (letter1 letter2 : Byte) (threshold : Nat) (h : s.SettingsKept) :
    (serveSetStockKind l kind letter1 letter2 threshold s).state.SettingsKept := by
  unfold serveSetStockKind
  split
  · exact h
  · rename_i k _
    split
    · exact h
    · split
      · exact h
      · rename_i hr _
        simp only [isCapital, Bool.or_eq_true, Bool.not_eq_true', Bool.and_eq_false_iff, decide_eq_false_iff_not,
          decide_eq_true_eq] at hr
        obtain ⟨h1, h2, h3, h4, h⟩ := h
        refine ⟨h1, h2, h3, fun j => ?_, h⟩
        simp only [accept, State.putKind_kind]
        split
        · dsimp only; exact ⟨.inr (by omega), by omega⟩
        · exact h4 j

theorem mapEntryOf_apart (e : Nat × Nat) (m : MapEntry) (h : mapEntryOf e = some m) :
    m.primary = m.alternate → m.primary = none := by
  unfold mapEntryOf at h
  split at h
  · split at h
    · cases h
    · cases h; rename_i hne
      intro e
      dsimp only at e
      simpa [e] using hne
  · cases h

theorem settingsKept_setWindowMap (l : Line) (session : Nat) (entries : Vector (Nat × Nat) 8) (h : s.SettingsKept) :
    (serveSetWindowMap l session entries s).state.SettingsKept := by
  unfold serveSetWindowMap
  split
  · exact h
  · split
    · exact h
    · obtain ⟨h1, h2, h3, h4, h5, h6, h⟩ := h
      refine ⟨h1, h2, h3, h4, h5, fun n k => ?_, h⟩
      simp only [accept, State.putMap_maps, Fin.getElem_fin, Vector.getElem_set]
      split
      · simp only [Vector.getElem_ofFn]
        cases e : mapEntryOf entries[k] with
        | none => simp
        | some m => simpa [e] using mapEntryOf_apart _ m e
      · exact h6 n k

theorem settingsKept_setPrinter (l : Line) (printer kind feed settle : Nat) (h : s.SettingsKept) :
    (serveSetPrinter l printer kind feed settle s).state.SettingsKept := by
  unfold serveSetPrinter
  split
  · split
    · exact h
    · split
      · exact h
      · split
        · exact h
        · rename_i hr _ _
          refine settingsKept_shopKeep.raise _ _ ?_
          obtain ⟨h1, h2, h3, h4, h5, h⟩ := h
          refine ⟨h1, h2, h3, h4, fun q => ?_, h⟩
          simp only [State.putConfig_config]
          split
          · dsimp only; omega
          · exact h5 q
  · exact h

/-- A request that leaves the settings, the kinds and the shop. -/
theorem settingsKept_requests : RequestsKeep State.SettingsKept where
  toShopKeep := settingsKept_shopKeep
  abort l u _ h := by
    unfold serveAbort
    split
    · exact h
    · rename_i d _
      refine settingsKept_of_frame ?_ ?_ ?_ h <;> cases d <;> simp [accept, State.stopDeferred]
  setClock l _ _ _ _ h := settingsKept_setClock l _ _ _ h
  void l n u h := by
    have records : ∀ (cs : List Coupon) (t : State), t.SettingsKept → (t.voidRecords l cs).SettingsKept := by
      intro cs
      induction cs with
      | nil => exact fun _ h => h
      | cons c cs ih => exact fun t ht => ih _ (settingsKept_of_frame (by simp) (by simp) (by simp) ht)
    unfold serveVoid
    dsimp only
    split
    · exact h
    · exact h
    · split
      · exact h
      · split
        · exact h
        · repeat' split
          · exact h
          · exact h
          · exact h
          · exact settingsKept_shopKeep.updateEstimate _ _ _ (settingsKept_shopKeep.putSession _ _ (records _ _ h))
          · exact settingsKept_shopKeep.putSession _ _ (records _ _ h)
  setThresholds l _ _ _ h := settingsKept_setThresholds l _ _ h
  issue l a b c d e f g t u h := by
    refine settingsKept_of_frame ?_ ?_ ?_ h <;> simp only [serveIssue] <;> repeat' split
    all_goals simp [refuse, accept, State.acceptIssue]
  cancel l n u h := by
    refine settingsKept_of_frame ?_ ?_ ?_ h <;> simp only [serveCancel] <;> repeat' split
    all_goals simp [refuse, accept, State.withdraw]
  abortJob l n u h := by
    refine settingsKept_of_frame ?_ ?_ ?_ h <;> simp only [serveAbortJob, State.markAbort] <;> repeat' split
    all_goals simp [refuse, accept, State.abortQueued, State.withdraw]
  divert l a b u h := by
    have noticed : ∀ (ns : List SessionId) (t : State), t.SettingsKept → (t.raiseDiverted ns).SettingsKept := by
      intro ns
      induction ns with
      | nil => exact fun _ h => h
      | cons n ns ih => exact fun t ht => ih _ (settingsKept_shopKeep.raise _ _ ht)
    unfold serveDivert
    split
    · split
      · exact h
      · refine noticed _ _ (settingsKept_of_frame ?_ ?_ ?_ h) <;> simp only [State.moveLanes, State.divertSuspended] <;> split
        all_goals simp
    · exact h
  setWindowMap l _ _ _ h := settingsKept_setWindowMap l _ _ h
  setDiscount l _ _ _ _ _ h := settingsKept_setDiscount l _ _ _ _ h
  setStockKind l _ _ _ _ _ h := settingsKept_setStockKind l _ _ _ _ h
  receivePack l a b c u h := by
    refine settingsKept_of_frame ?_ ?_ ?_ h <;> simp only [serveReceivePack] <;> repeat' split
    all_goals simp [refuse, accept]
  loadPack l a b u _ h := by
    refine settingsKept_of_frame ?_ ?_ ?_ h <;> simp only [serveLoadPack] <;> repeat' split
    all_goals simp [refuse]
  unloadPack l a u _ h := by
    refine settingsKept_of_frame ?_ ?_ ?_ h <;> simp only [serveUnloadPack] <;> repeat' split
    all_goals simp [refuse, accept]
  closePack l a u _ h := by
    refine settingsKept_of_frame ?_ ?_ ?_ h <;> simp only [serveClosePack] <;> repeat' split
    all_goals simp [refuse, accept]
  purgePack l a u h := by
    unfold servePurgePack
    split
    · exact h
    · repeat' split
      · exact h
      · exact h
      · exact h
      · exact h
      · exact settingsKept_shopKeep.audit _ _ (settingsKept_of_frame (by simp) (by simp) (by simp) h)
  readException l u h := by
    refine settingsKept_of_frame ?_ ?_ ?_ h <;> simp only [serveReadException] <;> split
    all_goals simp [refuse, accept]
  setPrinter l _ _ _ _ _ _ h := settingsKept_setPrinter l _ _ _ _ h
  printerReset l a u _ h := by
    refine settingsKept_of_frame ?_ ?_ ?_ h <;> simp only [servePrinterReset] <;> split
    all_goals simp [refuse, State.resetPrinter]
  setDenomination l _ _ _ h := settingsKept_setDenomination l _ _ h
  setTolerance l _ _ h := settingsKept_setTolerance l _ h

/-! ## The clock and start-up -/

theorem settingsKept_tick (h : s.SettingsKept) : (s.runClock s.clock.tick).SettingsKept := by
  obtain ⟨h1, h2, h3, h4, h5, h6, hd, ht, hb1, hb2, hr⟩ := h
  obtain ⟨hd', ht'⟩ := DateTime.next_valid _ hd ht
  refine ⟨h1, h2, h3, h4, h5, h6, hd', ht', ?_, ?_, hr⟩
  · show 1 ≤ s.clock.tick.day
    rw [Clock.tick_day]; split
    exacts [(dayAfter_range hb2).1, hb1]
  · show s.clock.tick.day ≤ 9999
    rw [Clock.tick_day]; split
    exacts [(dayAfter_range hb2).2, hb2]

theorem settingsKept_recover (p : PrinterId) (h : s.SettingsKept) : (s.recover p).SettingsKept := by
  unfold State.recover
  split
  · exact h
  · rename_i g _
    have h1 : (((s.undoCoupons p g.job.session g.job.kind g.job.printed).loseForm p).dropJob p).SettingsKept :=
      settingsKept_of_frame (by simp) (by simp) (by simp) h
    exact settingsKept_of_tables rfl rfl rfl rfl rfl rfl h1

theorem settingsKept_settleKept (h : s.SettingsKept) : s.settleKept.SettingsKept :=
  settingsKept_of_frame (by simp [State.settleKept]) (by simp [State.settleKept]) (by simp [State.settleKept]) h

/-- The store-loss values are within the ranges (R197). -/
theorem settingsKept_settleLost : s.settleLost.SettingsKept :=
  settingsKept_of_tables rfl rfl rfl rfl rfl rfl reset_settingsKept

theorem settingsKept_volatileStage (h : s.SettingsKept) : s.volatileStage.SettingsKept := by
  have handed : ∀ (os : List Outcome) (t : State), t.SettingsKept → (os.foldl (fun t o => t.handOver o) t).SettingsKept := by
    intro os
    induction os with
    | nil => exact fun _ h => h
    | cons o os ih => exact fun t ht => ih _ (settingsKept_of_frame (by simp) (by simp) (by simp) ht)
  exact settingsKept_of_tables rfl rfl rfl rfl rfl rfl (handed s.setAside s h)

theorem settingsKept_runStage (straps : Straps) (n : Nat) (h : s.SettingsKept) : (s.runStage straps n).SettingsKept := by
  have h1 : { s with phase := .starting (n + 1) }.SettingsKept := h
  unfold State.runStage
  dsimp only
  split
  · exact h1
  · split
    · exact settingsKept_settleKept h1
    · exact settingsKept_settleLost
  · exact settingsKept_volatileStage h1
  · exact h1
  · split
    · exact settingsKept_recover _ h1
    · exact h1

theorem settingsKept_startTo (straps : Straps) (stage : StartStage) (h : s.SettingsKept) :
    (s.startTo straps stage).SettingsKept := by
  unfold State.startTo
  refine List.foldlRecOn _ _ h fun t ht n _ => ?_
  split
  · exact settingsKept_runStage straps n ht
  · exact ht

theorem settingsKept_events : EventsKeep State.SettingsKept :=
  settingsKept_shopKeep.events (pending := fun _ _ h => h) (takes := settingsKept_requests.take)
    (drawer := fun _ _ h => h) (clock := fun _ h => settingsKept_tick h) (pfail := fun _ h => h) (rst := fun _ h => h)
    (signature := fun _ _ h => h) (cutShort := fun _ h => h)
    (startUp := fun straps stage _ h => settingsKept_startTo straps stage h)

/-- Settles O58: every event keeps the ranges, the requests that set a table by their checks. -/
theorem settingsStayInRange : Obligations.SettingsStayInRange :=
  fun s t h e => settingsKept_events.step s t h e

end Sys2Proof.Machine

/-! # The exception records stay covered by the reservations (R18-R22, R80) -/

namespace Sys2Proof.Machine

open Sys2Proof Sys2Proof.Machine

/-! ## The sum of the reservations -/

/-- The reservation of a printer's job in progress. -/
def State.reservedOn (s : State) (p : PrinterId) : Nat := (s.inProgress p).elim 0 (·.job.reservation)

theorem State.reserved_eq (s : State) :
    s.reserved = s.reservedOn 0 + (s.reservedOn 1 + (s.reservedOn 2 + s.reservedOn 3)) := by
  have h : s.reserved = (printers.map s.reservedOn).sum := by
    unfold State.reserved
    congr 2
    funext p
    unfold State.reservedOn
    cases s.inProgress p <;> rfl
  simpa [printers] using h

/-- A change of one printer's job changes the sum by what that job has more or less. -/
theorem State.reserved_change (s t : State) (p : PrinterId) (h : ∀ q, q ≠ p → t.inProgress q = s.inProgress q) :
    t.reserved + s.reservedOn p = s.reserved + t.reservedOn p := by
  have h' : ∀ q, q ≠ p → t.reservedOn q = s.reservedOn q := fun q hq => by unfold State.reservedOn; rw [h q hq]
  rw [State.reserved_eq, State.reserved_eq]
  have h0 := h' 0; have h1 := h' 1; have h2 := h' 2; have h3 := h' 3
  fin_cases p <;> simp at h0 h1 h2 h3 ⊢ <;> omega

theorem State.reserved_congr (s t : State) (h : ∀ q, t.inProgress q = s.inProgress q) : t.reserved = s.reserved := by
  have h' : ∀ q, t.reservedOn q = s.reservedOn q := fun q => by unfold State.reservedOn; rw [h q]
  rw [State.reserved_eq, State.reserved_eq, h', h', h', h']

/-! ## Records covered, but for one printer's job -/

/-- The records are kept as RecordsKept says, but that of the job in progress on one printer `C` is known instead. -/
structure State.RecordsBut (s : State) (p : PrinterId) (C : Job → Prop) : Prop where
  sum : s.stock.reservation = s.reserved
  room : s.stock.exceptions.length + s.stock.reservation ≤ 256
  own : ∀ g, s.inProgress p = some g → C g.job
  others : ∀ q g, q ≠ p → s.inProgress q = some g → g.job.Covered
  lanes : ∀ q, (∀ j ∈ (s.lane q).office, j.Waiting) ∧ ∀ j ∈ (s.lane q).window, j.Waiting
  low : s.stock.recordsLow = decide (256 - (s.stock.exceptions.length + s.stock.reservation) < 32)

theorem State.recordsBut_covered {s : State} (p : PrinterId) : s.RecordsBut p Job.Covered ↔ s.RecordsKept := by
  constructor
  · rintro ⟨h1, h2, h3, h4, h5, h6⟩
    refine ⟨⟨h1, h2, fun q g hq => ?_, h5⟩, h6⟩
    by_cases e : q = p
    · subst e; exact h3 g hq
    · exact h4 q g e hq
  · rintro ⟨⟨h1, h2, h3, h5⟩, h6⟩
    exact ⟨h1, h2, h3 p, fun q g _ => h3 q g, h5, h6⟩

/-- A job that has just failed once more: covered, but for a third failure (R95). -/
def Job.Failing (j : Job) : Prop :=
  j.failures ≤ 3 ∧ j.printed.length < j.requested ∧ j.requested ≤ 4 ∧ j.reservation ≤ 6 ∧ 6 ≤ j.reservation + j.failures

namespace State.RecordsBut

variable {s t : State} {p : PrinterId} {C D : Job → Prop}

theorem mono (h : s.RecordsBut p C) (hCD : ∀ j, C j → D j) : s.RecordsBut p D :=
  { h with own := fun g hg => hCD _ (h.own g hg) }

/-- What the records rest on is the same in both states. -/
theorem of_eq (h : s.RecordsBut p C) (he : t.stock.exceptions.length = s.stock.exceptions.length)
    (hr : t.stock.reservation = s.stock.reservation) (hl : t.stock.recordsLow = s.stock.recordsLow)
    (hp : t.progress = s.progress) (hn : t.lanes = s.lanes) : t.RecordsBut p C := by
  have hp' : ∀ q, t.inProgress q = s.inProgress q := fun q => by unfold State.inProgress; rw [hp]
  have hn' : ∀ q, t.lane q = s.lane q := fun q => by unfold State.lane; rw [hn]
  refine ⟨?_, ?_, ?_, ?_, ?_, ?_⟩
  · rw [hr, h.sum, State.reserved_congr s t hp']
  · rw [he, hr]; exact h.room
  · rw [hp']; exact h.own
  · intro q g hq; rw [hp']; exact h.others q g hq
  · intro q; rw [hn']; exact h.lanes q
  · rw [he, hr, hl]; exact h.low

/-- A job's other fields are of no concern. -/
theorem put {g x : Progress} (h : s.RecordsBut p C) (hg : s.inProgress p = some g)
    (hr : x.job.reservation = g.job.reservation) (hC : C g.job → D x.job) : (s.putProgress p (some x)).RecordsBut p D := by
  have hsum := State.reserved_change s (s.putProgress p (some x)) p fun q hq => by simp [hq]
  simp only [State.reservedOn, hg, State.putProgress_inProgress, if_true, Option.elim_some, hr] at hsum
  refine ⟨?_, h.room, fun y hy => ?_, fun q y hq hy => ?_, h.lanes, h.low⟩
  · rw [State.putProgress_stock, h.sum]; omega
  · simp only [State.putProgress_inProgress, if_true, Option.some.injEq] at hy
    rw [← hy]; exact hC (h.own g hg)
  · simp only [State.putProgress_inProgress, hq, if_false] at hy
    exact h.others q y hq hy

theorem mapJob (h : s.RecordsBut p C) (f : Job → Job) (hf : ∀ j, (f j).reservation = j.reservation)
    (hC : ∀ j, C j → D (f j)) : (s.mapJob p f).RecordsBut p D := by
  unfold State.mapJob
  split
  · rename_i hp; exact { h with own := fun g hg => by rw [hp] at hg; cases hg }
  · rename_i g hg; exact h.put hg (hf _) (hC _)

theorem suspend (h : s.RecordsBut p C) (hC : ∀ j : Job, C j → C { j with state := .suspended }) :
    (s.suspend p).RecordsBut p C := by
  have h1 : (s.mapJob p fun j => { j with state := .suspended }).RecordsBut p C := h.mapJob _ (fun _ => rfl) hC
  unfold State.suspend State.markForm
  split
  · exact h1
  · rename_i g hg; exact h1.put hg rfl id

end State.RecordsBut

/-! ## Records and their condition -/

@[simp] theorem State.noteRecords_stock (s : State) : s.noteRecords.stock =
    { s.stock with recordsLow := decide (256 - (s.stock.exceptions.length + s.stock.reservation) < 32) } := by
  unfold State.noteRecords; dsimp only; split <;> simp [State.unreserved, exceptionCapacity] <;> rfl

@[simp] theorem State.noteRecords_inProgress (s : State) (q : PrinterId) : s.noteRecords.inProgress q = s.inProgress q := by
  simp [State.inProgress]

@[simp] theorem State.noteRecords_lane (s : State) (q : PrinterId) : s.noteRecords.lane q = s.lane q := by
  simp [State.lane]

/-- The records-low condition is evaluated from whatever is kept but that condition (R22). -/
theorem State.RecordsBut.noted {s : State} {p : PrinterId} {C : Job → Prop} (sum : s.stock.reservation = s.reserved)
    (room : s.stock.exceptions.length + s.stock.reservation ≤ 256) (own : ∀ g, s.inProgress p = some g → C g.job)
    (others : ∀ q g, q ≠ p → s.inProgress q = some g → g.job.Covered)
    (lanes : ∀ q, (∀ j ∈ (s.lane q).office, j.Waiting) ∧ ∀ j ∈ (s.lane q).window, j.Waiting) :
    s.noteRecords.RecordsBut p C := by
  refine ⟨?_, ?_, ?_, ?_, ?_, ?_⟩
  · rw [State.noteRecords_stock, State.reserved_congr s _ (by simp)]; exact sum
  · simpa using room
  · simpa using own
  · simpa using others
  · simpa using lanes
  · simp

/-- A record of the job in progress is one less of its reservation (R19, R21). -/
theorem State.RecordsBut.addJobRecord {s : State} {p : PrinterId} {C D : Job → Prop} (h : s.RecordsBut p C) (slot : Slot)
    (first span : Nat) (reason : Reason) (pos : ∀ j, C j → 1 ≤ j.reservation)
    (hC : ∀ j, C j → D { j with reservation := j.reservation - 1 }) :
    (s.addJobRecord p slot first span reason).RecordsBut p D := by
  unfold State.addJobRecord
  split
  · rename_i hp; exact { h with own := fun g hg => by rw [hp] at hg; cases hg }
  · rename_i g hg
    have hpos := pos _ (h.own g hg)
    have hroom := h.room
    have hsum := h.sum
    dsimp only
    unfold State.mapJob
    simp only [State.putStock_inProgress, hg]
    generalize hx : s.newRecord slot first span reason (some g.job.session) (s.session g.job.session).clerk = r
    have hchange := State.reserved_change s ((s.putStock { s.stock with
      exceptions := s.stock.exceptions ++ [r], reservation := s.stock.reservation - 1 }).putProgress p
        (some { g with job := { g.job with reservation := g.job.reservation - 1 } })) p fun q hq => by simp [hq]
    simp only [State.reservedOn, hg, State.putProgress_inProgress, if_true, Option.elim_some] at hchange
    refine State.RecordsBut.noted ?_ ?_ (fun y hy => ?_) (fun q y hq hy => ?_) h.lanes
    · simp only [State.putProgress_stock, State.putStock_stock]; omega
    · simp only [State.putProgress_stock, State.putStock_stock, List.length_append, List.length_singleton]; omega
    · simp only [State.putProgress_inProgress, if_true, Option.some.injEq] at hy
      rw [← hy]; exact hC _ (h.own g hg)
    · simp only [State.putProgress_inProgress, hq, if_false, State.putStock_inProgress] at hy
      exact h.others q y hq hy

/-- The job leaves its printer, and its reservation with it (R21). -/
theorem State.RecordsBut.dropJob {s : State} {p : PrinterId} {C : Job → Prop} (h : s.RecordsBut p C) :
    (s.dropJob p).RecordsKept := by
  rw [← State.recordsBut_covered p]
  unfold State.dropJob
  split
  · rename_i hp; exact { h with own := fun g hg => by rw [hp] at hg; cases hg }
  · rename_i g hg
    have hroom := h.room
    have hsum := h.sum
    have hchange := State.reserved_change s ((s.putProgress p none).putStock
      { s.stock with reservation := s.stock.reservation - g.job.reservation }) p fun q hq => by simp [hq]
    simp only [State.reservedOn, hg, State.putProgress_inProgress, State.putStock_inProgress, if_true, Option.elim_some,
      Option.elim_none] at hchange
    refine State.RecordsBut.noted ?_ ?_ (fun y hy => ?_) (fun q y hq hy => ?_) h.lanes
    · simp only [State.putStock_stock]; omega
    · simp only [State.putStock_stock]; omega
    · simp at hy
    · simp only [State.putStock_inProgress, State.putProgress_inProgress, hq, if_false] at hy
      exact h.others q y hq hy

/-! ## Operations that the records do not rest on -/

section
variable (s : State)

@[simp] theorem State.moveCursor_exceptions (slot : Slot) (serial : Nat) :
    (s.moveCursor slot serial).stock.exceptions = s.stock.exceptions := by
  simp only [State.moveCursor]; repeat' split
  all_goals simp

@[simp] theorem State.moveCursor_reservation (slot : Slot) (serial : Nat) :
    (s.moveCursor slot serial).stock.reservation = s.stock.reservation := by
  simp only [State.moveCursor]; repeat' split
  all_goals simp

@[simp] theorem State.moveCursor_recordsLow (slot : Slot) (serial : Nat) :
    (s.moveCursor slot serial).stock.recordsLow = s.stock.recordsLow := by
  simp only [State.moveCursor]; repeat' split
  all_goals simp

@[simp] theorem State.verifyLoad_records (p : PrinterId) (g : Load) (k : Pack) :
    (s.verifyLoad p g k).stock.exceptions = s.stock.exceptions ∧ (s.verifyLoad p g k).stock.reservation = s.stock.reservation ∧
      (s.verifyLoad p g k).stock.recordsLow = s.stock.recordsLow := by
  simp only [State.verifyLoad]; repeat' split
  all_goals simp

end

/-! ## The ends of a form and of a job -/

namespace State.RecordsBut

variable {s : State} {p : PrinterId} {C D : Job → Prop}

theorem moveCursor (h : s.RecordsBut p C) (slot : Slot) (serial : Nat) : (s.moveCursor slot serial).RecordsBut p C :=
  h.of_eq (by simp) (by simp) (by simp) (by simp) (by simp)

theorem countKind (h : s.RecordsBut p C) (n : SessionId) (k : Kind) (f : KindCounters → KindCounters) :
    (s.countKind n k f).RecordsBut p C :=
  h.of_eq (by simp) (by simp) (by simp) (by simp) (by simp)

theorem undoCoupons (n : SessionId) (k : Kind) (m : Nat) : ∀ (cs : List Coupon) (s : State),
    s.RecordsBut p (fun j => cs.length + m ≤ j.reservation) → (s.undoCoupons p n k cs).RecordsBut p fun j => m ≤ j.reservation
  | [], s, h => h.mono fun j hj => by simpa using hj
  | c :: cs, s, h => by
    refine State.RecordsBut.undoCoupons n k m cs _ (State.RecordsBut.countKind ?_ n k _)
    refine h.addJobRecord c.slot c.serial 1 .incomplete (fun j hj => ?_) fun j hj => ?_
    · simp only [List.length_cons] at hj; omega
    · simp only [List.length_cons] at hj ⊢; omega

theorem loseForm (h : s.RecordsBut p (fun j => 1 ≤ j.reservation)) : (s.loseForm p).RecordsBut p (fun _ => True) := by
  have h0 : s.RecordsBut p fun _ => True := h.mono fun _ _ => trivial
  unfold State.loseForm
  split
  · rename_i g slot k _ _
    split
    · exact ((h.addJobRecord slot k.cursor 1 .lost (fun _ hj => hj) fun _ _ => trivial).moveCursor slot _).countKind _ _ _
    · exact h0
  · exact h0

theorem mapCtl (h : s.RecordsBut p C) (f : Controller → Controller) : (s.mapCtl p f).RecordsBut p C :=
  h.of_eq (by simp) (by simp) (by simp) (by simp) (by simp)

theorem releaseCharge (h : s.RecordsBut p C) (j : Job) : (s.releaseCharge j).RecordsBut p C :=
  h.of_eq (by simp) (by simp) (by simp) (by simp) (by simp)

theorem enterFault (h : s.RecordsBut p C) (k : FaultKind) (x : Option StripRead) : (s.enterFault p k x).RecordsBut p C :=
  h.of_eq (by simp) (by simp) (by simp) (by simp) (by simp)

theorem hold (h : s.RecordsBut p C) (k : FaultKind) (x : Option StripRead) : (s.hold p k x).RecordsBut p C :=
  h.of_eq (by simp) (by simp) (by simp) (by simp) (by simp)

theorem faulted (h : s.RecordsBut p C) :
    (if (s.ctl p).state = .offline then s else s.setPrinterState p .fault).RecordsBut p C := by
  split
  · exact h
  · exact h.of_eq (by simp) (by simp) (by simp) (by simp) (by simp)

/-- An issue settles, and its job leaves the printer (R94). -/
theorem settleJob (h : s.RecordsBut p C) : (s.settleJob p).RecordsKept := by
  unfold State.settleJob
  split
  · rename_i hp
    rw [← State.recordsBut_covered p]
    exact { h with own := fun g hg => by rw [hp] at hg; cases hg }
  · rename_i g _
    have h1 : (s.settleTill g.job).RecordsBut p C := h.of_eq (by simp) (by simp) (by simp) (by simp) (by simp)
    have h2 := (State.recordsBut_covered p).mpr h1.dropJob
    rw [← State.recordsBut_covered p]
    exact h2.of_eq (by simp) (by simp) (by simp) (by simp) (by simp)

/-- A job whose reservation holds a record for each coupon printed, and one more for a form in hand at a PRINTER RESET, ends
(R95, R98). -/
theorem endJob (r : JobResult)
    (h : s.RecordsBut p fun j => j.printed.length + (if r = .printerReset then 1 else 0) ≤ j.reservation) :
    (s.endJob p r).RecordsKept := by
  unfold State.endJob
  split
  · rename_i hp
    rw [← State.recordsBut_covered p]
    exact { h with own := fun g hg => by rw [hp] at hg; cases hg }
  · rename_i g hg
    have h0 : s.RecordsBut p fun j => g.job.printed.length + (if r = .printerReset then 1 else 0) ≤ j.reservation :=
      { h with own := fun x hx => (by have := h.own x hx; rw [hg] at hx; cases hx; exact this) }
    have h1 := undoCoupons g.job.session g.job.kind (if r = .printerReset then 1 else 0) g.job.printed s h0
    have h2 : (if r = .printerReset then (s.undoCoupons p g.job.session g.job.kind g.job.printed).loseForm p
        else s.undoCoupons p g.job.session g.job.kind g.job.printed).RecordsBut p fun _ => True := by
      split
      · rename_i hr; rw [if_pos hr] at h1; exact h1.loseForm
      · exact h1.mono fun _ _ => trivial
    have h3 := (h2.releaseCharge g.job).dropJob
    rw [← State.recordsBut_covered p] at h3 ⊢
    exact h3.of_eq (by simp) (by simp) (by simp) (by simp) (by simp)

/-- A covered job holds what any end of it may write. -/
theorem covered_endJob (h : s.RecordsKept) (r : JobResult) : (s.endJob p r).RecordsKept := by
  refine endJob r (((State.recordsBut_covered p).mpr h).mono fun j hj => ?_)
  obtain ⟨h1, h2, h3, h4, h5⟩ := hj
  split <;> omega

/-- A form fails: the job may have failed for the third time (R19, R95). -/
theorem failForm (h : s.RecordsKept) (slot : Slot) (first span : Nat) (reason : Reason) :
    (s.failForm p slot first span reason).RecordsBut p Job.Failing := by
  have h0 := (State.recordsBut_covered p).mpr h
  have h1 := h0.addJobRecord (D := fun j => j.failures ≤ 2 ∧ j.printed.length < j.requested ∧ j.requested ≤ 4 ∧
    j.reservation ≤ 6 ∧ 6 ≤ j.reservation + (j.failures + 1)) slot first span reason
    (fun j ⟨a, _, _, _, e⟩ => by omega) (fun j ⟨a, b, c, d, e⟩ => ⟨a, b, c, by dsimp only; omega, by dsimp only; omega⟩)
  unfold State.failForm
  split
  · rename_i hp; exact { h0 with own := fun g hg => by rw [hp] at hg; cases hg }
  · rename_i g hg
    refine ((h1.moveCursor slot _).countKind _ _ _).mapJob _ (fun _ => rfl) ?_
    rintro j ⟨a, b, c, d, e⟩
    exact ⟨by dsimp only; omega, b, c, d, e⟩

/-- At the boundary behind a failure a job at its third failure ends, and any other is covered (R95, R100). -/
theorem endAtBoundary (h : s.RecordsBut p Job.Failing) : (s.endAtBoundary p).RecordsKept := by
  unfold State.endAtBoundary
  split
  · rename_i hp
    rw [← State.recordsBut_covered p]
    exact { h with own := fun g hg => by rw [hp] at hg; cases hg }
  · rename_i g hg
    split
    · refine endJob _ (h.mono fun j ⟨h1, h2, h3, h4, h5⟩ => ?_)
      simp only [reduceCtorEq, if_false]; omega
    · rename_i h3
      have hk : s.RecordsKept := (State.recordsBut_covered p).mp
        { h with own := fun x hx => (by
            obtain ⟨-, h⟩ := h.own x hx
            rw [hg] at hx; cases hx
            exact ⟨by omega, h⟩) }
      split
      · exact covered_endJob hk _
      · exact hk

end State.RecordsBut

/-! ## Every event keeps the records covered -/

variable {s : State}

theorem recordsKept_of_eq {t : State} (he : t.stock.exceptions.length = s.stock.exceptions.length)
    (hr : t.stock.reservation = s.stock.reservation) (hl : t.stock.recordsLow = s.stock.recordsLow)
    (hp : t.progress = s.progress) (hn : t.lanes = s.lanes) (h : s.RecordsKept) : t.RecordsKept :=
  (State.recordsBut_covered 0).mp (((State.recordsBut_covered 0).mpr h).of_eq he hr hl hp hn)

theorem Job.Covered.failing {j : Job} (h : j.Covered) : j.Failing := by
  obtain ⟨h1, h2⟩ := h; exact ⟨by omega, h2⟩

theorem recordsKept_progress (p : PrinterId) (g x : Progress) (hg : s.inProgress p = some g) (hx : g.job.SameCounts x.job)
    (h : s.RecordsKept) : (s.putProgress p (some x)).RecordsKept := by
  rw [← State.recordsBut_covered p] at h ⊢
  obtain ⟨h1, h2, h3, h4⟩ := hx
  exact h.put hg h4 fun hc => by unfold Job.Covered at hc ⊢; rw [h1, h2, h3, h4]; exact hc

theorem recordsKept_spoilForm (p : PrinterId) (h : s.RecordsKept) : (s.spoilForm p).RecordsBut p Job.Failing := by
  have h0 := ((State.recordsBut_covered p).mpr h).mono fun _ => Job.Covered.failing
  unfold State.spoilForm
  split
  · split
    · rename_i slot k _ _ _
      exact (State.RecordsBut.failForm h slot k.cursor 1 .spoiled).of_eq (by simp) (by simp) (by simp) (by simp) (by simp)
    · exact h0
  · exact h0

theorem recordsKept_physicalFault (p : PrinterId) (k : FaultKind) (h : s.RecordsKept) : (s.physicalFault p k).RecordsKept := by
  unfold State.physicalFault
  dsimp only
  cases s.midForm p with
  | true =>
    simp only [if_true]
    have h1 := (recordsKept_spoilForm p h).suspend fun j hj => hj
    have h2 := ((h1.mapCtl fun c => c.haltWork.takeFault k).faulted).enterFault k none
    exact recordsKept_of_eq (by simp) (by simp) (by simp) (by simp) (by simp) h2.endAtBoundary
  | false =>
    simp only [Bool.false_eq_true, if_false]
    refine recordsKept_of_eq ?_ ?_ ?_ ?_ ?_ h <;> split <;> simp

theorem recordsKept_couponEjected (p : PrinterId) (h : s.RecordsKept) : (s.couponEjected p).1.RecordsKept := by
  unfold State.couponEjected
  split
  · rename_i g slot k hg _
    have h0 := (State.recordsBut_covered p).mpr h
    have h1 : ((s.moveCursor slot (k.cursor + 1)).countKind g.job.session g.job.kind
        fun c => { c with issued := bump c.issued 1 }).RecordsBut p Job.Covered := (h0.moveCursor _ _).countKind _ _ _
    have hg1 : ((s.moveCursor slot (k.cursor + 1)).countKind g.job.session g.job.kind
        fun c => { c with issued := bump c.issued 1 }).inProgress p = some g := by simpa [State.inProgress] using hg
    dsimp only
    split
    · rename_i hlt
      rw [← State.recordsBut_covered p]
      have h2 := h1.put (D := Job.Covered) (x := ⟨{ g.job with printed := g.job.printed ++ [⟨slot, k.cursor⟩] }, false⟩) hg1 rfl
        fun ⟨a, b, c, d, e⟩ => ⟨a, by simp only [List.length_append, List.length_singleton]; exact hlt, c, d, e⟩
      exact h2.of_eq (by simp) (by simp) (by simp) (by simp) (by simp)
    · have h2 := h1.put (D := fun _ => True) (x := ⟨{ g.job with printed := g.job.printed ++ [⟨slot, k.cursor⟩] }, false⟩) hg1 rfl
        fun _ => trivial
      exact recordsKept_of_eq (by simp) (by simp) (by simp) (by simp) (by simp)
        (h2.mapCtl fun c => { c with position := .none, expansion := [], linesSent := 0 }).settleJob
  · exact h

theorem recordsKept_gapForm (p : PrinterId) (slot : Slot) (x : StripRead) (h : s.RecordsKept) : (s.gapForm p slot x).1.RecordsKept := by
  have h1 := State.RecordsBut.failForm (p := p) h slot x.expected (x.serial - x.expected) .skipped
  have h2 := h1.mapCtl fun c => { c with position := .verified }
  unfold State.gapForm
  refine State.RecordsBut.endAtBoundary (State.RecordsBut.hold ?_ _ _)
  split
  · rename_i g hg
    split
    · refine ((State.recordsBut_covered p).mpr (State.RecordsBut.endJob _ (h2.mono fun j ⟨a, b, c, d, e⟩ => ?_))).mono
        fun _ => Job.Covered.failing
      simp only [reduceCtorEq, if_false]; omega
    · exact h2.suspend fun j hj => hj
  · exact h2

theorem recordsKept_admitted (p : PrinterId) (j : Job) (rest : Lanes) (hp : s.inProgress p = none)
    (hl : (s.lane p).HeadIs j rest) (hu : 6 ≤ s.unreserved) (h : s.RecordsKept) : (s.admitted p j rest).RecordsKept := by
  obtain ⟨⟨h1, h2, h3, h4⟩, h5⟩ := h
  have hroom : s.stock.exceptions.length + s.stock.reservation + 6 ≤ 256 := by
    unfold State.unreserved exceptionCapacity at hu; omega
  have hj : j.Waiting ∧ (∀ x ∈ rest.office, x.Waiting) ∧ ∀ x ∈ rest.window, x.Waiting := by
    have hq := h4 p
    rcases hl with ⟨ho, hw⟩ | ⟨ho, ho', hw⟩
    · rw [ho, hw] at hq
      exact ⟨hq.1 j (by simp), fun x hx => hq.1 x (by simp [hx]), hq.2⟩
    · rw [hw] at hq
      rw [ho']
      exact ⟨hq.2 j (by simp), by simp, fun x hx => hq.2 x (by simp [hx])⟩
  rw [← State.recordsBut_covered p]
  have hchange := State.reserved_change s (((s.putLane p rest).putStock
    { s.stock with reservation := s.stock.reservation + 6 }).putProgress p
      (some ⟨{ j with state := .printing, reservation := 6 }, false⟩)) p fun q hq => by simp [hq]
  simp only [State.reservedOn, hp, State.putProgress_inProgress, if_true, Option.elim_some, Option.elim_none] at hchange
  refine State.RecordsBut.noted ?_ ?_ (fun g hg => ?_) (fun q g hq hg => ?_) (fun q => ?_)
  · simp only [State.putProgress_stock, State.putStock_stock]; omega
  · simp only [State.putProgress_stock, State.putStock_stock]; omega
  · simp only [State.putProgress_inProgress, if_true, Option.some.injEq] at hg
    obtain ⟨⟨hw1, hw2, hw3, hw4⟩, -⟩ := hj
    rw [← hg]
    refine ⟨hw2, ?_, hw4, by simp, by simp⟩
    simp only [hw1, List.length_nil]; omega
  · simp only [State.putProgress_inProgress, hq, if_false, State.putStock_inProgress, State.putLane_inProgress] at hg
    exact h3 q g hg
  · simp only [State.putProgress_lane, State.putStock_lane, State.putLane_lane]
    split
    · exact hj.2
    · exact h4 q

theorem recordsKept_shopKeep : ShopKeep State.RecordsKept where
  lines _ _ _ h := h
  ctls _ _ _ h := h
  log _ _ h := h
  draws _ _ h := h
  progress s p g x hg hx h := recordsKept_progress p g x hg hx h
  endJob s p r h := State.RecordsBut.covered_endJob h r
  physicalFault s p k h := recordsKept_physicalFault p k h
  couponEjected s p h := recordsKept_couponEjected p h
  unreadable s p slot k _ h := State.RecordsBut.endAtBoundary (State.RecordsBut.failForm h _ _ _ _)
  gap s p slot k x _ _ _ _ h := recordsKept_gapForm p slot x h
  loadEnds s p g status fields _ h := recordsKept_of_eq (by simp) (by simp) (by simp) (by simp) (by simp) h
  verified s p g k _ _ _ h := recordsKept_of_eq (by simp) (by simp) (by simp) (by simp) (by simp) h
  resetEnds s p h := recordsKept_of_eq (by simp) (by simp) (by simp) (by simp) (by simp) h
  admitted s p j rest hp hl hu h := recordsKept_admitted p j rest hp hl hu h
  till _ _ _ _ _ _ h := h
  drawer _ _ _ h := h
  audit _ _ h := h

end Sys2Proof.Machine

/-! # Requests and start-up keep the records covered -/

namespace Sys2Proof.Machine

open Sys2Proof Sys2Proof.Machine

variable {s : State}

/-! ## Records written and removed by requests -/

/-- A record joins the table while one is unreserved (R19, R20). -/
theorem recordsKept_addRecord (r : ExceptionRecord) (hu : s.stock.exceptions.length + s.stock.reservation < 256)
    (h : s.RecordsKept) : (s.addRecord r).RecordsKept := by
  obtain ⟨⟨h1, h2, h3, h4⟩, h5⟩ := h
  rw [← State.recordsBut_covered 0]
  refine State.RecordsBut.noted h1 ?_ (h3 0) (fun q g _ => h3 q g) h4
  simp only [State.putStock_stock, List.length_append, List.length_singleton]
  omega

@[simp] theorem State.addRecord_stock_length (s : State) (r : ExceptionRecord) :
    (s.addRecord r).stock.exceptions.length = s.stock.exceptions.length + 1 ∧
      (s.addRecord r).stock.reservation = s.stock.reservation := by
  simp [State.addRecord]

theorem recordsKept_voidRecords (n : SessionId) : ∀ (cs : List Coupon) (s : State), cs.length < s.unreserved → s.RecordsKept →
    (s.voidRecords n cs).RecordsKept
  | [], _, _, h => h
  | c :: cs, s, hu, h => by
    simp only [State.unreserved, exceptionCapacity, List.length_cons] at hu
    refine recordsKept_voidRecords n cs _ ?_ (recordsKept_addRecord _ (by omega) h)
    obtain ⟨h1, h2⟩ := s.addRecord_stock_length (s.newRecord c.slot c.serial 1 .voided (some n) (s.session n).clerk)
    simp only [State.unreserved, exceptionCapacity, h1, h2]
    omega

theorem recordsKept_void (l : Line) (n : Nat) (h : s.RecordsKept) : (serveVoid l n s).state.RecordsKept := by
  unfold serveVoid
  dsimp only
  split
  · exact h
  · exact h
  · split
    · exact h
    · split
      · exact h
      · split
        · exact h
        · split
          · exact h
          · rename_i hu
            have h1 := recordsKept_voidRecords l _ s (Nat.not_le.mp hu) h
            split
            · exact h
            · unfold accept
              dsimp only
              split
              · exact recordsKept_shopKeep.drawer _ _ _ (recordsKept_shopKeep.updateEstimate _ _ _
                  (recordsKept_shopKeep.putSession _ _ h1))
              · exact recordsKept_shopKeep.putSession _ _ h1

theorem changeFirst_length {α : Type} (test : α → Bool) (f : α → α) (xs : List α) :
    (changeFirst test f xs).length = xs.length := by
  induction xs with
  | nil => rfl
  | cons x xs ih => unfold changeFirst; split <;> simp [ih]

theorem recordsKept_readException (l : Line) (h : s.RecordsKept) : (serveReadException l s).state.RecordsKept := by
  unfold serveReadException
  split
  · exact h
  · exact recordsKept_of_eq (changeFirst_length _ _ _) rfl rfl rfl rfl h

theorem recordsKept_putPack (slot : Slot) (x : Option Pack) (h : s.RecordsKept) : (s.putPack slot x).RecordsKept :=
  recordsKept_of_eq rfl rfl rfl rfl rfl h

theorem recordsKept_closePack (l : Line) (slot : Nat) (h : s.RecordsKept) : (serveClosePack l slot s).state.RecordsKept := by
  unfold serveClosePack
  split
  · exact h
  · split
    · exact h
    · split
      · exact h
      · split
        · exact h
        · rename_i hu
          refine recordsKept_putPack _ _ ?_
          split
          · rename_i hr
            refine recordsKept_addRecord _ ?_ h
            simp only [State.unreserved, exceptionCapacity] at hu
            omega
          · exact h

theorem recordsKept_purgePack (l : Line) (slot : Nat) (h : s.RecordsKept) : (servePurgePack l slot s).state.RecordsKept := by
  unfold servePurgePack
  split
  · exact h
  · rename_i slot _
    repeat' split
    · exact h
    · exact h
    · exact h
    · exact h
    · refine recordsKept_shopKeep.audit _ _ ?_
      obtain ⟨⟨h1, h2, h3, h4⟩, h5⟩ := h
      rw [← State.recordsBut_covered 0]
      refine State.RecordsBut.noted h1 ?_ (h3 0) (fun q g _ => h3 q g) h4
      have := List.length_filter_le (fun r : ExceptionRecord => r.slot != slot) s.stock.exceptions
      simp only [State.putStock_stock]
      omega

/-! ## Jobs that join, leave and move between the lanes -/

/-- Lanes of waiting jobs (R80). -/
def Lanes.AllWaiting (x : Lanes) : Prop := (∀ j ∈ x.office, j.Waiting) ∧ ∀ j ∈ x.window, j.Waiting

theorem recordsKept_putLane (p : PrinterId) (x : Lanes) (hx : x.AllWaiting) (h : s.RecordsKept) : (s.putLane p x).RecordsKept := by
  obtain ⟨⟨h1, h2, h3, h4⟩, h5⟩ := h
  refine ⟨⟨h1, h2, h3, fun q => ?_⟩, h5⟩
  rw [State.putLane_lane]
  split
  · exact hx
  · exact h4 q

theorem recordsKept_lane (p : PrinterId) (h : s.RecordsKept) : (s.lane p).AllWaiting := h.1.2.2.2 p

theorem Lanes.AllWaiting.join {x : Lanes} {j : Job} (h : x.AllWaiting) (hj : j.Waiting) : (x.join j).AllWaiting := by
  unfold Lanes.join
  split
  · refine ⟨fun y hy => ?_, h.2⟩
    rcases List.mem_append.mp hy with hy | hy
    · exact h.1 y hy
    · rw [List.mem_singleton.mp hy]; exact hj
  · refine ⟨h.1, fun y hy => ?_⟩
    rcases List.mem_append.mp hy with hy | hy
    · exact h.2 y hy
    · rw [List.mem_singleton.mp hy]; exact hj

theorem dropFirst_mem {α : Type} (test : α → Bool) (xs : List α) : ∀ x ∈ dropFirst test xs, x ∈ xs := by
  induction xs with
  | nil => exact fun x h => h
  | cons y ys ih =>
    intro x hx
    unfold dropFirst at hx
    split at hx
    · exact List.mem_cons_of_mem _ hx
    · rcases List.mem_cons.mp hx with rfl | hx
      · simp
      · exact List.mem_cons_of_mem _ (ih x hx)

theorem recordsKept_withdraw (p : PrinterId) (j : Job) (h : s.RecordsKept) : (s.withdraw p j).RecordsKept := by
  obtain ⟨ho, hw⟩ := recordsKept_lane p h
  exact recordsKept_shopKeep.putSession _ _ (recordsKept_putLane p _
    ⟨fun x hx => ho x (dropFirst_mem _ _ x hx), fun x hx => hw x (dropFirst_mem _ _ x hx)⟩ h)

theorem recordsKept_issue (l : Line) (kind passengers base index tender coupons : Nat) (named : Option Nat) (text : List Byte)
    (h : s.RecordsKept) : (serveIssue l kind passengers base index tender coupons named text s).state.RecordsKept := by
  unfold serveIssue
  split
  · exact h
  · dsimp only
    split
    · exact h
    · exact h
    · split
      · exact h
      · split
        · exact h
        · rename_i t ht
          have hc : 1 ≤ t.coupons ∧ t.coupons ≤ 4 := by
            unfold State.issueTerms at ht
            repeat' split at ht
            any_goals cases ht
            rename_i hc
            exact ⟨hc.2.2.2.2.1, hc.2.2.2.2.2.1⟩
          split
          · exact h
          · split
            · exact h
            · split
              · exact h
              · rename_i p _
                refine recordsKept_putLane p _ ((recordsKept_lane p h).join ?_) (recordsKept_shopKeep.putSession _ _ h)
                exact ⟨rfl, by simp [State.newJob], hc⟩

theorem recordsKept_cancel (l : Line) (issue : Nat) (h : s.RecordsKept) : (serveCancel l issue s).state.RecordsKept := by
  unfold serveCancel
  split
  · exact h
  · split
    · exact h
    · split
      · exact h
      · exact recordsKept_withdraw _ _ h

theorem recordsKept_markAbort (p : PrinterId) (h : s.RecordsKept) : (s.markAbort p).RecordsKept := by
  unfold State.markAbort
  split
  · exact h
  · rename_i g hg
    exact recordsKept_progress p g ⟨{ g.job with abortMark := true }, g.formInHand⟩ hg ⟨rfl, rfl, rfl, rfl⟩ h

theorem recordsKept_abortJob (l : Line) (issue : Nat) (h : s.RecordsKept) : (serveAbortJob l issue s).state.RecordsKept := by
  unfold serveAbortJob
  split
  · exact h
  · split
    · split
      · exact State.RecordsBut.covered_endJob h _
      · exact recordsKept_markAbort _ h
    · rename_i p j _ _
      exact recordsKept_shopKeep.raise _ _ (recordsKept_of_eq (by simp) (by simp) (by simp) (by simp) (by simp)
        (recordsKept_withdraw p j h))
    · exact h

theorem Job.Waiting.movedTo {j : Job} (h : j.Waiting) (p : PrinterId) : (j.movedTo p).Waiting := h

theorem recordsKept_divertSuspended (a b : PrinterId) (h : s.RecordsKept) : (s.divertSuspended a b).RecordsKept := by
  unfold State.divertSuspended
  split
  · exact h
  · rename_i j hj
    have h1 : (s.dropJob a).RecordsKept := State.RecordsBut.dropJob ((State.recordsBut_covered a).mpr h)
    refine recordsKept_putLane b _ ((recordsKept_lane b h1).join ?_) h1
    unfold State.divertible at hj
    split at hj
    · cases hj
    · rename_i g hg
      split at hj
      · rename_i hc
        cases hj
        obtain ⟨k1, k2, k3, -⟩ := h.1.2.2.1 a g hg
        exact ⟨hc.2.1, k1, by dsimp only [Job.movedTo]; omega, k3⟩
      · cases hj

theorem recordsKept_moveLanes (a b : PrinterId) (h : s.RecordsKept) : (s.moveLanes a b).RecordsKept := by
  have ha := recordsKept_lane a h
  have hb := recordsKept_lane b h
  refine recordsKept_putLane b _ ⟨fun x hx => ?_, fun x hx => ?_⟩ (recordsKept_putLane a _
    ⟨fun x hx => ha.1 x (List.mem_of_mem_drop hx), fun x hx => ha.2 x (List.mem_of_mem_drop hx)⟩ h)
  · rcases List.mem_append.mp hx with hx | hx
    · exact hb.1 x hx
    · obtain ⟨y, hy, rfl⟩ := List.mem_map.mp hx
      exact (ha.1 y (List.mem_of_mem_take hy)).movedTo b
  · rcases List.mem_append.mp hx with hx | hx
    · exact hb.2 x hx
    · obtain ⟨y, hy, rfl⟩ := List.mem_map.mp hx
      exact (ha.2 y (List.mem_of_mem_take hy)).movedTo b

/-- Raising JOBS DIVERTED keeps what raising a class keeps. -/
theorem OpsKeep.raiseDiverted {P : State → Prop} (k : OpsKeep P) (ns : List SessionId) {t : State} (h : P t) :
    P (t.raiseDiverted ns) := by
  unfold State.raiseDiverted
  exact List.foldlRecOn _ _ h fun _ hu _ _ => k.raise _ _ hu

theorem recordsKept_divert (l : Line) (a b : Nat) (h : s.RecordsKept) : (serveDivert l a b s).state.RecordsKept := by
  unfold serveDivert
  split
  · split
    · exact h
    · exact recordsKept_shopKeep.raiseDiverted _ (recordsKept_moveLanes _ _ (recordsKept_divertSuspended _ _ h))
  · exact h

theorem recordsKept_abort (l : Line) (h : s.RecordsKept) : (serveAbort l s).state.RecordsKept := by
  unfold serveAbort
  split
  · exact h
  · rename_i d _
    refine recordsKept_of_eq ?_ ?_ ?_ ?_ ?_ h <;> cases d <;> simp [accept, State.stopDeferred]

theorem recordsKept_printerReset (l : Line) (printer : Nat) (h : s.RecordsKept) :
    (servePrinterReset l printer s).state.RecordsKept := by
  unfold servePrinterReset
  split
  · exact h
  · rename_i p _
    have h0 : (s.holdDeferred (.printerReset p)).RecordsKept := recordsKept_of_eq rfl rfl rfl rfl rfl h
    have h1 := State.RecordsBut.covered_endJob (p := p) h0 .printerReset
    exact recordsKept_of_eq (by simp [State.resetPrinter]) (by simp [State.resetPrinter]) (by simp [State.resetPrinter])
      (by simp [State.resetPrinter]) (by simp [State.resetPrinter]) h1

theorem recordsKept_requests : RequestsKeep State.RecordsKept where
  toShopKeep := recordsKept_shopKeep
  abort l _ _ h := recordsKept_abort l h
  setClock l a b c u h := by
    unfold serveSetClock
    split
    · exact h
    · split
      · exact h
      · exact recordsKept_shopKeep.raise _ _ h
  void l n _ h := recordsKept_void l n h
  setThresholds l a b u h := by unfold serveSetThresholds; split <;> exact h
  issue l a b c d e f g t _ h := recordsKept_issue l a b c d e f g t h
  cancel l n _ h := recordsKept_cancel l n h
  abortJob l n _ h := recordsKept_abortJob l n h
  divert l a b _ h := recordsKept_divert l a b h
  setWindowMap l n es u h := by
    refine recordsKept_of_eq ?_ ?_ ?_ ?_ ?_ h <;> simp only [serveSetWindowMap] <;> repeat' split
    all_goals rfl
  setDiscount l a b c d u h := by
    refine recordsKept_of_eq ?_ ?_ ?_ ?_ ?_ h <;> simp only [serveSetDiscount] <;> repeat' split
    all_goals rfl
  setStockKind l a b c d u h := by
    refine recordsKept_of_eq ?_ ?_ ?_ ?_ ?_ h <;> simp only [serveSetStockKind] <;> repeat' split
    all_goals rfl
  receivePack l a b c u h := by
    refine recordsKept_of_eq ?_ ?_ ?_ ?_ ?_ h <;> simp only [serveReceivePack] <;> repeat' split
    all_goals rfl
  loadPack l a b u _ h := by
    refine recordsKept_of_eq ?_ ?_ ?_ ?_ ?_ h <;> simp only [serveLoadPack] <;> repeat' split
    all_goals simp [refuse]
  unloadPack l a u _ h := by
    refine recordsKept_of_eq ?_ ?_ ?_ ?_ ?_ h <;> simp only [serveUnloadPack] <;> repeat' split
    all_goals rfl
  closePack l a _ _ h := recordsKept_closePack l a h
  purgePack l a _ h := recordsKept_purgePack l a h
  readException l _ h := recordsKept_readException l h
  setPrinter l a b c d u _ h := by
    refine recordsKept_of_eq ?_ ?_ ?_ ?_ ?_ h <;> simp only [serveSetPrinter] <;> repeat' split
    all_goals simp [refuse, accept]
  printerReset l a _ _ h := recordsKept_printerReset l a h
  setDenomination l a b u h := by
    refine recordsKept_of_eq ?_ ?_ ?_ ?_ ?_ h <;> simp only [serveSetDenomination] <;> repeat' split
    all_goals rfl
  setTolerance l a u h := by unfold serveSetTolerance; split <;> exact h

/-! ## Start-up -/

theorem recordsKept_recover (p : PrinterId) (h : s.RecordsKept) : (s.recover p).RecordsKept := by
  unfold State.recover
  split
  · exact h
  · rename_i g hg
    have h0 : s.RecordsBut p fun j => g.job.printed.length + 1 ≤ j.reservation :=
      { (State.recordsBut_covered p).mpr h with
        own := fun x hx => (by
          obtain ⟨h1, h2, h3, h4, h5⟩ := h.1.2.2.1 p x hx
          rw [hg] at hx; cases hx
          omega) }
    exact recordsKept_of_eq rfl rfl rfl rfl rfl
      (State.RecordsBut.undoCoupons g.job.session g.job.kind 1 g.job.printed s h0).loseForm.dropJob

theorem recordsKept_settleKept (h : s.RecordsKept) : s.settleKept.RecordsKept := by
  obtain ⟨⟨h1, h2, h3, h4⟩, h5⟩ := h
  rw [← State.recordsBut_covered 0]
  exact State.RecordsBut.noted h1 h2 (h3 0) (fun q g _ => h3 q g) h4

/-- After store loss there is no record and no job in progress (R27). -/
theorem recordsKept_settleLost (h : s.RecordsKept) : s.settleLost.RecordsKept := by
  have hp : ∀ p, s.settleLost.inProgress p = none := fun p => by simp [State.inProgress, State.settleLost]
  have hr : s.settleLost.reserved = 0 := by rw [State.reserved_eq]; simp only [State.reservedOn, hp]; rfl
  exact ⟨⟨hr.symm, Nat.zero_le 256, fun p g hg => absurd hg (by rw [hp]; simp), h.1.2.2.2⟩, rfl⟩

theorem recordsKept_volatileStage (h : s.RecordsKept) : s.volatileStage.RecordsKept := by
  have h1 : (s.setAside.foldl (fun t o => t.handOver o) s).RecordsKept :=
    List.foldlRecOn _ _ h fun _ hu _ _ => recordsKept_of_eq (by simp) (by simp) (by simp) (by simp) (by simp) hu
  obtain ⟨⟨k1, k2, k3, k4⟩, k5⟩ := h1
  exact ⟨⟨k1, k2, k3, fun p => by simp [State.volatileStage, State.lane]⟩, k5⟩

theorem recordsKept_runStage (straps : Straps) (n : Nat) (h : s.RecordsKept) : (s.runStage straps n).RecordsKept := by
  have h1 : { s with phase := .starting (n + 1) }.RecordsKept := h
  unfold State.runStage
  dsimp only
  split
  · exact h1
  · split
    · exact recordsKept_settleKept h1
    · exact recordsKept_settleLost h1
  · exact recordsKept_volatileStage h1
  · exact h1
  · split
    · exact recordsKept_recover _ h1
    · exact h1

theorem recordsKept_startTo (straps : Straps) (stage : StartStage) (h : s.RecordsKept) : (s.startTo straps stage).RecordsKept := by
  unfold State.startTo
  refine List.foldlRecOn _ _ h fun t ht n _ => ?_
  split
  · exact recordsKept_runStage straps n ht
  · exact ht

theorem recordsKept_events : EventsKeep State.RecordsKept :=
  recordsKept_shopKeep.events (pending := fun _ _ h => h) (takes := recordsKept_requests.take)
    (drawer := fun _ _ h => h) (clock := fun _ h => h) (pfail := fun _ h => h) (rst := fun _ h => h)
    (signature := fun _ _ h => h) (cutShort := fun _ h => h)
    (startUp := fun straps stage _ h => recordsKept_startTo straps stage h)

/-- Settles O55: every event keeps the records covered, the ends of a form and of a job by the job's reservation. -/
theorem recordsStayCovered : Obligations.RecordsStayCovered :=
  fun s t h e => recordsKept_events.step s t h e

end Sys2Proof.Machine

/-! # Packs stay sound (R3-R8, R12, R182) -/

namespace Sys2Proof.Machine

open Sys2Proof Sys2Proof.Machine

/-! ## Packs kept, with the deferred request and the work that answers for it apart

In the middle of an operation a load may have ended while its request is still deferred, or a request may be deferred whose work
has not begun. `PacksAre d e` is PacksKept where the controllers' work is that of `d`, and the office line's deferred request
is `e`. -/

structure State.PacksAre (s : State) (d e : Option Deferred) : Prop where
  sound : s.PacksSound
  apart : s.PacksApart
  quiet : ∀ l, l ≠ officeLine ∨ s.phase ≠ .running → (s.line l).deferred = none
  waits : s.printersRun = true → ∀ p,
    ((s.ctl p).load.isSome ↔ d = some (.loadPack p)) ∧ ((s.ctl p).resetWait = true ↔ d = some (.printerReset p))
  held : (s.line officeLine).deferred = e

theorem State.packsKept_iff {s : State} : s.PacksKept ↔ s.PacksAre (s.line officeLine).deferred (s.line officeLine).deferred :=
  ⟨fun ⟨h1, h2, h3, h4⟩ => ⟨h1, h2, h3, h4, rfl⟩, fun ⟨h1, h2, h3, h4, _⟩ => ⟨h1, h2, h3, h4⟩⟩

theorem State.PacksAre.kept {s : State} {d : Option Deferred} (h : s.PacksAre d d) : s.PacksKept :=
  State.packsKept_iff.mpr (by rw [h.held]; exact h)

/-- What the packs rest on is the same in both states. -/
theorem State.PacksAre.of_eq {s t : State} {d e : Option Deferred} (h : s.PacksAre d e) (hp : t.stock.packs = s.stock.packs)
    (hl : t.stock.loaded = s.stock.loaded) (hc : t.configs = s.configs) (hk : t.controllers = s.controllers)
    (hn : t.lines = s.lines) (hf : t.phase = s.phase) : t.PacksAre d e := by
  have e1 : t.pack = s.pack := by funext x; unfold State.pack; rw [hp]
  have e2 : t.loaded = s.loaded := by funext x; unfold State.loaded; rw [hl]
  have e3 : t.config = s.config := by funext x; unfold State.config; rw [hc]
  have e4 : t.ctl = s.ctl := by funext x; unfold State.ctl; rw [hk]
  have e5 : t.line = s.line := by funext x; unfold State.line; rw [hn]
  have e6 : t.printersRun = s.printersRun := by unfold State.printersRun; rw [hf]
  obtain ⟨h1, h2, h3, h4, h5⟩ := h
  refine ⟨?_, ?_, ?_, ?_, ?_⟩
  · unfold State.PacksSound; rw [e1, e2, e3, e4, e6]; exact h1
  · unfold State.PacksApart; rw [e1]; exact h2
  · rw [e5, hf]; exact h3
  · rw [e4, e6]; exact h4
  · rw [e5]; exact h5

theorem packsAre_baseKeep (d e : Option Deferred) : BaseKeep (State.PacksAre · d e) where
  lines s v hv h := by
    obtain ⟨h1, h2, h3, h4, h5⟩ := h
    exact ⟨h1, h2, fun l hl => (hv l).trans (h3 l hl), h4, (hv officeLine).trans h5⟩
  ctls s v hv h := by
    obtain ⟨⟨h1, h1', h1''⟩, h2, h3, h4, h5⟩ := h
    refine ⟨⟨h1, h1', fun hr p g hg => ?_⟩, h2, h3, fun hr p => ?_, h5⟩
    · have hs := (hv p).1
      rw [show v[p].load = some g from hg] at hs
      obtain ⟨g', hg', e'⟩ := Option.map_eq_some_iff.mp hs.symm
      have := h1'' hr p g' hg'
      rw [e'] at this
      exact this
    · have hl : v[p].load.isSome = (s.ctl p).load.isSome := by
        rw [← Option.isSome_map (f := (·.slot)), (hv p).1, Option.isSome_map]
      have hw : v[p].resetWait = (s.ctl p).resetWait := (hv p).2
      show (v[p].load.isSome ↔ _) ∧ (v[p].resetWait = true ↔ _)
      rw [hl, hw]
      exact h4 hr p
  log s x h := h.of_eq rfl rfl rfl rfl rfl rfl
  draws s x h := h.of_eq rfl rfl rfl rfl rfl rfl

namespace State.PacksAre

variable {s : State} {d e : Option Deferred}

/-! ## Writes of other blocks -/

theorem putStock (h : s.PacksAre d e) (x : Stock) (hp : x.packs = s.stock.packs) (hl : x.loaded = s.stock.loaded) :
    (s.putStock x).PacksAre d e := h.of_eq hp hl rfl rfl rfl rfl

theorem raise (h : s.PacksAre d e) (c : NoticeClass) (sub : Subject) : (s.raise c sub).PacksAre d e :=
  (packsAre_baseKeep d e).raise c sub h

theorem noteRecords (h : s.PacksAre d e) : s.noteRecords.PacksAre d e := by
  have h1 := fun x : Bool => h.putStock { s.stock with recordsLow := x } rfl rfl
  unfold State.noteRecords
  dsimp only
  split
  · exact (h1 _).raise _ _
  · exact h1 _

theorem addRecord (h : s.PacksAre d e) (r : ExceptionRecord) : (s.addRecord r).PacksAre d e :=
  (h.putStock { s.stock with exceptions := s.stock.exceptions ++ [r] } rfl rfl).noteRecords

theorem putProgress (h : s.PacksAre d e) (p : PrinterId) (x : Option Progress) : (s.putProgress p x).PacksAre d e :=
  h.of_eq rfl rfl rfl rfl rfl rfl

theorem mapJob (h : s.PacksAre d e) (p : PrinterId) (f : Job → Job) : (s.mapJob p f).PacksAre d e := by
  unfold State.mapJob
  split
  · exact h
  · exact h.putProgress p _

theorem markForm (h : s.PacksAre d e) (p : PrinterId) (b : Bool) : (s.markForm p b).PacksAre d e := by
  unfold State.markForm
  split
  · exact h
  · exact h.putProgress p _

theorem addJobRecord (h : s.PacksAre d e) (p : PrinterId) (slot : Slot) (first span : Nat) (reason : Reason) :
    (s.addJobRecord p slot first span reason).PacksAre d e := by
  unfold State.addJobRecord
  split
  · exact h
  · rename_i g _
    have h1 := fun r : ExceptionRecord => h.putStock
      { s.stock with exceptions := s.stock.exceptions ++ [r], reservation := s.stock.reservation - 1 } rfl rfl
    exact ((h1 _).mapJob p _).noteRecords

theorem putTill (h : s.PacksAre d e) (x : Till) : (s.putTill x).PacksAre d e := h.of_eq rfl rfl rfl rfl rfl rfl

theorem countKind (h : s.PacksAre d e) (n : SessionId) (k : Kind) (f : KindCounters → KindCounters) :
    (s.countKind n k f).PacksAre d e := h.putTill _

theorem releaseCharge (h : s.PacksAre d e) (j : Job) : (s.releaseCharge j).PacksAre d e := h.putTill _

theorem dropJob (h : s.PacksAre d e) (p : PrinterId) : (s.dropJob p).PacksAre d e := by
  unfold State.dropJob
  split
  · exact h
  · rename_i g _
    exact ((h.putProgress p none).putStock { s.stock with reservation := s.stock.reservation - g.job.reservation }
      rfl rfl).noteRecords

theorem updateEstimate (h : s.PacksAre d e) (n : SessionId) (x : Nat) (before : DrawerState) :
    (s.updateEstimate n x before).PacksAre d e := by
  have h1 := fun y : Till => h.putTill y
  unfold State.updateEstimate
  dsimp only
  split
  · exact h1 _
  · split
    · exact (h1 _).raise _ _
    · exact (h1 _).raise _ _
    · exact h1 _

theorem settleJob (h : s.PacksAre d e) (p : PrinterId) : (s.settleJob p).PacksAre d e := by
  unfold State.settleJob
  split
  · exact h
  · rename_i g _
    refine ((packsAre_baseKeep d e).handOver _ (State.PacksAre.dropJob ?_ p)).raise _ _
    unfold State.settleTill
    dsimp only
    split
    · exact ((h.putTill _).updateEstimate _ _ _).of_eq rfl rfl rfl rfl rfl rfl
    · exact h.putTill _

/-! ## Cursor movement -/

/-- A pack changes in its slot, its range and its location the same, and not away from what a load in hand asks of it. -/
theorem putPack (h : s.PacksAre d e) {slot : Slot} {k x : Pack} (hk : s.pack slot = some k)
    (same : x.kind = k.kind ∧ x.first = k.first ∧ x.count = k.count ∧ x.location = k.location) (hx : x.Sound)
    (load : s.printersRun = true → ∀ p g, (s.ctl p).load = some g → g.slot = slot → x.state = .received ∨ x.state = .unloaded) :
    (s.putPack slot (some x)).PacksAre d e := by
  obtain ⟨⟨h1, h1', h1''⟩, h2, h3, h4, h5⟩ := h
  obtain ⟨e1, e2, e3, e4⟩ := same
  have hend : x.endSerial = k.endSerial := by unfold Pack.endSerial; rw [e2, e3]
  have hread : ∀ a y, (s.putPack slot (some x)).pack a = some y →
      ∃ z, s.pack a = some z ∧ y.kind = z.kind ∧ y.first = z.first ∧ y.endSerial = z.endSerial ∧ y.location = z.location := by
    intro a y hy
    rw [State.putPack_pack] at hy
    split at hy
    · rename_i ha
      cases hy
      exact ⟨k, by rw [ha]; exact hk, e1, e2, hend, e4⟩
    · exact ⟨y, hy, rfl, rfl, rfl, rfl⟩
  refine ⟨⟨fun a y hy => ?_, fun a ha p => ?_, fun hr p g hg => ?_⟩, fun a y hy b z hz => ?_, h3, h4, h5⟩
  · have hy' := hy
    rw [State.putPack_pack] at hy
    obtain ⟨z, hz, k1, -, -, k4⟩ := hread a y hy'
    obtain ⟨hs, hl, hc⟩ := h1 a z hz
    refine ⟨?_, fun p => by rw [k4]; exact hl p, fun p hp => by rw [k1]; exact hc p (k4 ▸ hp)⟩
    split at hy
    · cases hy; exact hx
    · exact (h1 a y hy).1
  · rw [State.putPack_pack] at ha
    split at ha
    · cases ha
    · exact h1' a ha p
  · obtain ⟨k1, k2⟩ := h1'' hr p g hg
    refine ⟨?_, fun y hy => ?_⟩
    · rw [State.putPack_pack]; split
      · rfl
      · exact k1
    · have hy' := hy
      rw [State.putPack_pack] at hy
      obtain ⟨z, hz, j1, -, -, -⟩ := hread _ y hy'
      obtain ⟨m1, m2, m3⟩ := k2 z hz
      refine ⟨?_, m2, by rw [j1]; exact m3⟩
      split at hy
      · rename_i hs; cases hy; exact load hr p g hg hs
      · exact (k2 y hy).1
  · obtain ⟨y', hy', a1, a2, a3, -⟩ := hread a y hy
    obtain ⟨z', hz', b1, b2, b3, -⟩ := hread b z hz
    rw [a1, a2, a3, b1, b2, b3]
    exact h2 a y' hy' b z' hz'

theorem moveCursor (h : s.PacksAre d e) (slot : Slot) (serial : Nat)
    (range : ∀ k, s.pack slot = some k → k.state = .loaded → k.first ≤ serial ∧ serial ≤ k.endSerial) :
    (s.moveCursor slot serial).PacksAre d e := by
  unfold State.moveCursor
  split
  · exact h
  · rename_i k hk
    split
    · rename_i hst
      obtain ⟨r1, r2⟩ := range k hk hst
      obtain ⟨⟨c1, c2, c3, c4, c5, c6, c7, c8⟩, -⟩ := h.sound.1 slot k hk
      have hloc := (c6 hst).2
      have hend : ∀ (a : Nat) (b : Bool) (c : PackState), Pack.endSerial { k with cursor := a, lowFlag := b, state := c } = k.endSerial :=
        fun _ _ _ => rfl
      have h1 := fun low => h.putPack (x := { k with
          cursor := serial, lowFlag := low, state := if serial = k.endSerial then .spent else .loaded }) hk ⟨rfl, rfl, rfl, rfl⟩
        ⟨c1, c2, r1, r2, by dsimp only; split <;> simp, by
            dsimp only; split
            · simp
            · rename_i hne; exact fun _ => ⟨by rw [hend]; omega, hloc⟩, by
            dsimp only; split
            · rename_i he; exact fun _ => he
            · simp, by dsimp only; split <;> simp⟩
        fun hr p g hg hs => by
          obtain ⟨-, k2⟩ := h.sound.2.2 hr p g hg
          rw [hs] at k2
          have := (k2 k hk).1
          rw [hst] at this
          simp at this
      dsimp only
      split
      · exact (h1 _).raise _ _
      · exact h1 _
    · exact h

/-- The cursor of a pack that is LOADED stands before its end (R6). -/
theorem cursor_lt (h : s.PacksAre d e) {slot : Slot} {k : Pack} (hk : s.pack slot = some k) (hst : k.state = .loaded) :
    k.first ≤ k.cursor ∧ k.cursor < k.endSerial := by
  obtain ⟨⟨-, -, c3, -, -, c6, -⟩, -⟩ := h.sound.1 slot k hk
  exact ⟨c3, (c6 hst).1⟩

theorem pack_of_loadedPack {p : PrinterId} {slot : Slot} {k : Pack} (hk : s.loadedPack p = some (slot, k)) :
    s.loaded p = some slot ∧ s.pack slot = some k := by
  unfold State.loadedPack at hk
  split at hk
  · cases hk
  · rename_i a ha
    obtain ⟨y, hy, e⟩ := Option.map_eq_some_iff.mp hk
    cases e
    exact ⟨ha, hy⟩

/-! ## The ends of a form and of a job -/

theorem addJobRecord_pack (p : PrinterId) (slot : Slot) (first span : Nat) (reason : Reason) (a : Slot) :
    (s.addJobRecord p slot first span reason).pack a = s.pack a := by
  unfold State.addJobRecord
  split
  · rfl
  · simp [State.pack]

theorem failForm (h : s.PacksAre d e) (p : PrinterId) (slot : Slot) (first span : Nat) (reason : Reason)
    (range : ∀ k, s.pack slot = some k → k.state = .loaded → k.first ≤ first + span ∧ first + span ≤ k.endSerial) :
    (s.failForm p slot first span reason).PacksAre d e := by
  unfold State.failForm
  split
  · exact h
  · refine ((State.PacksAre.moveCursor (h.addJobRecord p slot first span reason) slot _ fun k hk hst => ?_).countKind _ _ _).mapJob p _
    rw [addJobRecord_pack] at hk
    exact range k hk hst

theorem undoCoupons (p : PrinterId) (n : SessionId) (k : Kind) : ∀ (cs : List Coupon) {s : State}, s.PacksAre d e →
    (s.undoCoupons p n k cs).PacksAre d e
  | [], _, h => h
  | c :: cs, _, h => State.PacksAre.undoCoupons p n k cs ((h.addJobRecord p c.slot c.serial 1 .incomplete).countKind n k _)

/-- The form at the cursor of the loaded pack is passed. -/
theorem range_of_loadedPack (h : s.PacksAre d e) {p : PrinterId} {slot : Slot} {k : Pack}
    (hk : s.loadedPack p = some (slot, k)) :
    ∀ x, s.pack slot = some x → x.state = .loaded → x.first ≤ k.cursor + 1 ∧ k.cursor + 1 ≤ x.endSerial := by
  intro x hx hst
  obtain ⟨-, hk⟩ := pack_of_loadedPack hk
  rw [hk] at hx
  cases hx
  obtain ⟨h1, h2⟩ := h.cursor_lt hk hst
  omega

theorem loseForm (h : s.PacksAre d e) (p : PrinterId) : (s.loseForm p).PacksAre d e := by
  unfold State.loseForm
  split
  · rename_i g slot k _ hk
    split
    · refine ((h.addJobRecord p slot k.cursor 1 .lost).moveCursor slot _ fun x hx hst => ?_).countKind _ _ _
      rw [addJobRecord_pack] at hx
      exact h.range_of_loadedPack hk x hx hst
    · exact h
  · exact h

theorem endJob (h : s.PacksAre d e) (p : PrinterId) (r : JobResult) : (s.endJob p r).PacksAre d e := by
  unfold State.endJob
  split
  · exact h
  · rename_i g _
    have h1 := State.PacksAre.undoCoupons p g.job.session g.job.kind g.job.printed h
    refine ((packsAre_baseKeep d e).handOver _ ((State.PacksAre.releaseCharge ?_ g.job).dropJob p)).raise _ _
    split
    · exact h1.loseForm p
    · exact h1

theorem suspend (h : s.PacksAre d e) (p : PrinterId) : (s.suspend p).PacksAre d e := (h.mapJob p _).markForm p false

theorem endAtBoundary (h : s.PacksAre d e) (p : PrinterId) : (s.endAtBoundary p).PacksAre d e := by
  unfold State.endAtBoundary
  repeat' split
  all_goals first | exact h | exact h.endJob p _

theorem mapCtl (h : s.PacksAre d e) (p : PrinterId) (f : Controller → Controller) (hf : (s.ctl p).SameWaits (f (s.ctl p))) :
    (s.mapCtl p f).PacksAre d e := (packsAre_baseKeep d e).mapCtl p f hf h

theorem spoilForm (h : s.PacksAre d e) (p : PrinterId) : (s.spoilForm p).PacksAre d e := by
  unfold State.spoilForm
  split
  · rename_i g slot k _ hk
    split
    · exact (h.failForm p slot k.cursor 1 .spoiled (h.range_of_loadedPack hk)).mapCtl p _ ⟨rfl, rfl⟩
    · exact h
  · exact h

/-! ## The end of a load -/

/-- A load ends: until its request is answered, the work is that of no request. -/
theorem dropLoad (h : s.PacksAre d d) (p : PrinterId) (hp : (s.ctl p).load.isSome = true) (f : Controller → Controller)
    (hf : (f (s.ctl p)).load = none ∧ (f (s.ctl p)).resetWait = (s.ctl p).resetWait) : (s.mapCtl p f).PacksAre none d := by
  obtain ⟨⟨h1, h1', h1''⟩, h2, h3, h4, h5⟩ := h
  refine ⟨⟨h1, h1', fun hr q g hg => ?_⟩, h2, h3, fun hr q => ?_, h5⟩
  · simp only [State.mapCtl, State.putCtl_ctl] at hg
    split at hg
    · rw [hf.1] at hg; cases hg
    · exact h1'' hr q g hg
  · have hd : d = some (.loadPack p) := ((h4 hr p).1).mp hp
    have hq := h4 hr q
    rw [hd] at hq
    simp only [State.mapCtl, State.putCtl_ctl]
    split
    · rename_i e; subst e
      simp only [hf, Option.isSome_none, Bool.false_eq_true, reduceCtorEq, Option.some.injEq, iff_false,
        true_and] at hq ⊢
      exact hq.2
    · rename_i hne
      simp only [Option.some.injEq, Deferred.loadPack.injEq, reduceCtorEq, iff_false] at hq ⊢
      exact ⟨fun h => hne (hq.1.mp h).symm, hq.2⟩

/-- A reset wait ends: until its request is answered, the work is that of no request. -/
theorem dropReset (h : s.PacksAre d d) (p : PrinterId) (hp : (s.ctl p).resetWait = true) :
    (s.mapCtl p fun c => { c with resetWait := false }).PacksAre none d := by
  obtain ⟨⟨h1, h1', h1''⟩, h2, h3, h4, h5⟩ := h
  refine ⟨⟨h1, h1', fun hr q g hg => ?_⟩, h2, h3, fun hr q => ?_, h5⟩
  · simp only [State.mapCtl, State.putCtl_ctl] at hg
    split at hg
    · rename_i e; subst e; exact h1'' hr q g hg
    · exact h1'' hr q g hg
  · have hd : d = some (.printerReset p) := ((h4 hr p).2).mp hp
    have hq := h4 hr q
    rw [hd] at hq
    simp only [State.mapCtl, State.putCtl_ctl]
    split
    · rename_i e; subst e
      simp only [Option.some.injEq, reduceCtorEq, iff_false, Bool.false_eq_true, and_true] at hq ⊢
      exact hq.1
    · rename_i hne
      simp only [Option.some.injEq, Deferred.printerReset.injEq, reduceCtorEq, iff_false] at hq ⊢
      exact ⟨hq.1, fun h => hne (hq.2.mp h).symm⟩

/-- The deferred request ends whose work has ended. -/
theorem endDeferred (h : s.PacksAre none e) (status : Status) (fields : List Byte) : (s.endDeferred status fields).PacksKept := by
  unfold State.endDeferred
  split
  · rename_i hn
    exact State.PacksAre.kept (d := none) { h with held := hn }
  · refine (packsAre_baseKeep none none).queueReply _ _ ?_ |>.kept
    obtain ⟨h1, h2, h3, h4, h5⟩ := h
    refine ⟨h1, h2, fun l hl => ?_, h4, by simp⟩
    rw [State.putLine_line]
    split
    · rfl
    · exact h3 l hl

end State.PacksAre

/-! ## The printers' operations -/

variable {s : State}

theorem packsKept_baseKeep : BaseKeep State.PacksKept where
  lines s v hv h := ((packsAre_baseKeep _ _).lines s v hv (State.packsKept_iff.mp h)).kept
  ctls s v hv h := ((packsAre_baseKeep _ _).ctls s v hv (State.packsKept_iff.mp h)).kept
  log s x h := ((packsAre_baseKeep _ _).log s x (State.packsKept_iff.mp h)).kept
  draws s x h := ((packsAre_baseKeep _ _).draws s x (State.packsKept_iff.mp h)).kept

/-- A load that a fault meets ends, and its request with it (R10). -/
theorem packsKept_faultLoad (p : PrinterId) (h : s.PacksKept) : (s.faultLoad p).PacksKept := by
  unfold State.faultLoad
  split
  · exact h
  · rename_i g hg
    exact ((State.packsKept_iff.mp h).dropLoad p (by rw [hg]; rfl) (fun c => { c with load := none }) ⟨rfl, rfl⟩).endDeferred _ _

theorem packsKept_physicalFault (p : PrinterId) (k : FaultKind) (h : s.PacksKept) : (s.physicalFault p k).PacksKept := by
  have b := packsAre_baseKeep (s.line officeLine).deferred (s.line officeLine).deferred
  have h0 := State.packsKept_iff.mp h
  unfold State.physicalFault
  dsimp only
  refine packsKept_faultLoad p (State.PacksAre.kept (d := (s.line officeLine).deferred) ?_)
  have h1 : (if s.midForm p = true then (s.spoilForm p).suspend p else s).PacksAre (s.line officeLine).deferred
      (s.line officeLine).deferred := by
    split
    · exact (h0.spoilForm p).suspend p
    · exact h0
  generalize (if s.midForm p = true then (s.spoilForm p).suspend p else s) = s1 at h1 ⊢
  have h2 := h1.mapCtl p (fun c => c.haltWork.takeFault k) ⟨rfl, rfl⟩
  generalize (s1.mapCtl p fun c => c.haltWork.takeFault k) = s2 at h2 ⊢
  have h3 : (if (s2.ctl p).state = .offline then s2 else s2.setPrinterState p .fault).PacksAre (s.line officeLine).deferred
      (s.line officeLine).deferred := by
    split
    · exact h2
    · exact b.setPrinterState p _ h2
  have h4 := b.enterFault p k none h3
  split
  · exact h4.endAtBoundary p
  · exact h4

theorem packsKept_couponEjected (p : PrinterId) (h : s.PacksKept) : (s.couponEjected p).1.PacksKept := by
  have h0 := State.packsKept_iff.mp h
  unfold State.couponEjected
  split
  · rename_i g slot k _ hk
    have h1 := (((h0.moveCursor slot _ (h0.range_of_loadedPack hk)).countKind g.job.session g.job.kind
      fun c => { c with issued := bump c.issued 1 }).putProgress p
        (some ⟨{ g.job with printed := g.job.printed ++ [⟨slot, k.cursor⟩] }, false⟩)).mapCtl p
          (fun c => { c with position := .none, expansion := [], linesSent := 0 }) ⟨rfl, rfl⟩
    dsimp only
    split
    · exact h1.kept
    · exact ((packsAre_baseKeep _ _).setPrinterState p _ (h1.settleJob p)).kept
  · exact h

theorem packsKept_unreadable (p : PrinterId) (slot : Slot) (k : Pack) (hk : s.loadedPack p = some (slot, k)) (h : s.PacksKept) :
    (s.unreadableForm p slot k.cursor).1.PacksKept := by
  have h0 := State.packsKept_iff.mp h
  exact ((h0.failForm p slot k.cursor 1 .unreadable (h0.range_of_loadedPack hk)).endAtBoundary p).kept

theorem packsKept_gapForm (p : PrinterId) (slot : Slot) (k : Pack) (x : StripRead) (hk : s.loadedPack p = some (slot, k))
    (hx : x.expected = k.cursor) (h1 : k.cursor < x.serial) (h2 : x.serial ≤ k.last) (h : s.PacksKept) :
    (s.gapForm p slot x).1.PacksKept := by
  have b := packsAre_baseKeep (s.line officeLine).deferred (s.line officeLine).deferred
  have h0 := State.packsKept_iff.mp h
  have h3 : (s.failForm p slot x.expected (x.serial - x.expected) .skipped).PacksAre (s.line officeLine).deferred
      (s.line officeLine).deferred := by
    refine h0.failForm p slot _ _ _ fun y hy hst => ?_
    obtain ⟨-, hk'⟩ := State.PacksAre.pack_of_loadedPack hk
    rw [hk'] at hy
    cases hy
    obtain ⟨c1, c2⟩ := h0.cursor_lt hk' hst
    unfold Pack.last at h2
    unfold Pack.endSerial at c2 ⊢
    omega
  have h4 := h3.mapCtl p (fun c => { c with position := .verified }) ⟨rfl, rfl⟩
  unfold State.gapForm
  refine (State.PacksAre.endAtBoundary (b.hold p _ _ ?_) p).kept
  split
  · split
    · exact h4.endJob p _
    · exact h4.suspend p
  · exact h4

theorem packsKept_loadEnds (p : PrinterId) (g : Load) (status : Status) (fields : List Byte) (hg : (s.ctl p).load = some g)
    (h : s.PacksKept) : ((s.returnFromLoad p g).endDeferred status fields).PacksKept := by
  have b := packsAre_baseKeep none (s.line officeLine).deferred
  have h1 := (State.packsKept_iff.mp h).dropLoad p (by rw [hg]; rfl) (fun c => { c with load := none }) ⟨rfl, rfl⟩
  refine State.PacksAre.endDeferred (e := (s.line officeLine).deferred) ?_ _ _
  unfold State.returnFromLoad
  dsimp only
  split
  · exact b.setPrinterState p _ h1
  · exact b.liftOffline p h1
  · exact h1

/-- The reset wait ends, and its request with it (R130). -/
theorem packsKept_finishReset (p : PrinterId) (h : s.PacksKept) : (s.finishReset p).PacksKept := by
  unfold State.finishReset
  split
  · rename_i hw
    exact ((State.packsKept_iff.mp h).dropReset p hw).endDeferred _ _
  · exact h

/-- A verified load puts its pack into its printer (R9). -/
theorem packsKept_verifyLoad (p : PrinterId) (g : Load) (k : Pack) (hg : (s.ctl p).load = some g) (hk : s.pack g.slot = some k)
    (hr : s.printersRun = true) (h : s.PacksKept) : (s.verifyLoad p g k).PacksKept := by
  have b := packsAre_baseKeep none (s.line officeLine).deferred
  obtain ⟨⟨h1, h1', h1''⟩, h2, h3, h4, h5⟩ := State.packsKept_iff.mp h
  obtain ⟨-, hload⟩ := h1'' hr p g hg
  obtain ⟨hst, hl, hc⟩ := hload k hk
  obtain ⟨⟨c1, c2, c3, c4, c5, c6, c7, c8⟩, hloc, -⟩ := h1 g.slot k hk
  have hcur : k.cursor < k.endSerial := (c5 hst).1
  have hnone : k.location = none := (c5 hst).2
  have hd : (s.line officeLine).deferred = some (.loadPack p) := ((h4 hr p).1).mp (by rw [hg]; rfl)
  have placed : ((((s.putPack g.slot (some { k with state := .loaded, location := some p })).putLoaded p (some g.slot)).mapCtl p
      fun c => { c with load := none, position := .verified })).PacksAre none (s.line officeLine).deferred := by
    refine ⟨⟨fun a y hy => ?_, fun a ha q => ?_, fun _ q x hx => ?_⟩, fun a y hy b z hz => ?_, h3, fun _ q => ?_, rfl⟩
    · have hy' : (if a = g.slot then some { k with state := .loaded, location := some p } else s.pack a) = some y := by
        rw [← State.putPack_pack]; exact hy
      have hld : ∀ q, (((s.putPack g.slot (some { k with state := .loaded, location := some p })).putLoaded p (some g.slot)).mapCtl p
          fun c => { c with load := none, position := .verified }).loaded q = if q = p then some g.slot else s.loaded q := by
        intro q; rw [← State.putLoaded_loaded]; rfl
      split at hy'
      · rename_i ha
        cases hy'
        refine ⟨⟨c1, c2, c3, c4, by simp, fun _ => ⟨hcur, rfl⟩, by simp, by simp⟩, fun q => ?_, fun q hq => ?_⟩
        · rw [hld, ha]
          constructor
          · intro e; rw [if_pos (Option.some.inj e).symm]
          · intro e
            split at e
            · rename_i hq; rw [hq]
            · exact absurd ((hloc q).mpr e) (by rw [hnone]; simp)
        · cases hq; exact hc
      · rename_i ha
        obtain ⟨s1, s2, s3⟩ := h1 a y hy'
        refine ⟨s1, fun q => ?_, s3⟩
        rw [hld]
        split
        · rename_i hq
          rw [hq, s2 p, hl]
          simp only [reduceCtorEq, Option.some.injEq, false_iff]
          exact fun e => ha e.symm
        · exact s2 q
    · have ha' : (if a = g.slot then some { k with state := .loaded, location := some p } else s.pack a) = none := by
        rw [← State.putPack_pack]; exact ha
      split at ha'
      · cases ha'
      · rename_i hne
        have hld : (((s.putPack g.slot (some { k with state := .loaded, location := some p })).putLoaded p (some g.slot)).mapCtl p
            fun c => { c with load := none, position := .verified }).loaded q = if q = p then some g.slot else s.loaded q := by
          rw [← State.putLoaded_loaded]; rfl
        rw [hld]
        split
        · exact fun e => hne (Option.some.inj e).symm
        · exact h1' a ha' q
    · simp only [State.mapCtl, State.putCtl_ctl, State.putLoaded_ctl, State.putPack_ctl] at hx
      split at hx
      · cases hx
      · rename_i hne
        have := ((h4 hr q).1).mp (by rw [hx]; rfl)
        rw [hd] at this
        exact absurd (by simpa using this) (Ne.symm hne)
    · have hread : ∀ a y, (s.putPack g.slot (some { k with state := .loaded, location := some p })).pack a = some y →
          ∃ z, s.pack a = some z ∧ y.kind = z.kind ∧ y.first = z.first ∧ y.endSerial = z.endSerial := by
        intro a y hy
        rw [State.putPack_pack] at hy
        split at hy
        · rename_i ha; cases hy; exact ⟨k, by rw [ha]; exact hk, rfl, rfl, rfl⟩
        · exact ⟨y, hy, rfl, rfl, rfl⟩
      obtain ⟨y', hy', a1, a2, a3⟩ := hread a y hy
      obtain ⟨z', hz', b1, b2, b3⟩ := hread b z hz
      rw [a1, a2, a3, b1, b2, b3]
      exact h2 a y' hy' b z' hz'
    · have hq := h4 hr q
      rw [hd] at hq
      simp only [State.mapCtl, State.putCtl_ctl, State.putLoaded_ctl, State.putPack_ctl]
      split
      · rename_i e; subst e
        simp only [Option.some.injEq, reduceCtorEq, iff_false, Option.isSome_none, Bool.false_eq_true, true_and] at hq ⊢
        exact hq.2
      · rename_i hne
        simp only [Option.some.injEq, Deferred.loadPack.injEq, reduceCtorEq, iff_false] at hq ⊢
        exact ⟨fun h => hne (hq.1.mp h).symm, hq.2⟩
  unfold State.verifyLoad
  dsimp only
  refine packsKept_baseKeep.raise _ _ (State.PacksAre.endDeferred (e := (s.line officeLine).deferred) ?_ _ _)
  have noPack : ∀ t : State, t.PacksAre none (s.line officeLine).deferred → (t.endNoPack p).PacksAre none (s.line officeLine).deferred := by
    intro t ht
    have h6 := ht.mapCtl p (fun c => { c with held := false }) ⟨rfl, rfl⟩
    unfold State.endNoPack
    split
    · exact ht
    · split
      · dsimp only
        split
        · exact h6
        · exact b.clearEntry p h6
      · exact ht
  split
  · exact b.liftOffline p (noPack _ placed)
  · exact b.setPrinterState p _ (noPack _ placed)

end Sys2Proof.Machine

/-! # Requests and start-up keep the packs sound -/

namespace Sys2Proof.Machine

open Sys2Proof Sys2Proof.Machine

/-! ## A stage of start-up runs in its turn -/

/-- What a state has after start-up took its first `m` stages. -/
theorem State.startTo_stage {P : State → Prop} (straps : Straps) (stage : StartStage) (s : State) (h0 : P s)
    (hstage : ∀ t n, n ≤ 7 → t.phase.stagesTaken = n → P t →
      P (t.runStage straps n) ∧ (t.runStage straps n).phase.stagesTaken = n + 1) : P (s.startTo straps stage) := by
  have hidx : stageIndex stage ≤ 7 := by cases stage <;> simp [stageIndex]; omega
  have key : ∀ m, m ≤ 8 → ∀ t, t = (List.range m).foldl
      (fun t n => if s.phase.stagesTaken ≤ n ∧ n ≤ stageIndex stage then t.runStage straps n else t) s →
      P t ∧ (m ≤ s.phase.stagesTaken → t = s) ∧
        (s.phase.stagesTaken ≤ m → m ≤ stageIndex stage + 1 → t.phase.stagesTaken = m) := by
    intro m
    induction m with
    | zero =>
      intro _ t ht
      obtain rfl : t = s := ht
      exact ⟨h0, fun _ => rfl, fun hle _ => by omega⟩
    | succ m ih =>
      intro hm t ht
      rw [List.range_succ, List.foldl_append] at ht
      obtain ⟨i1, i2, i3⟩ := ih (by omega) _ rfl
      simp only [List.foldl_cons, List.foldl_nil] at ht
      split at ht
      · rename_i hc
        obtain ⟨j1, j2⟩ := hstage _ m (by omega) (i3 hc.1 (by omega)) i1
        rw [ht]
        exact ⟨j1, fun hle => by omega, fun _ _ => j2⟩
      · rename_i hc
        rw [ht]
        refine ⟨i1, fun hle => i2 (by omega), fun hle hle' => ?_⟩
        rcases Nat.lt_or_ge m s.phase.stagesTaken with hlt | hge
        · rw [i2 (by omega)]; omega
        · exact absurd ⟨hge, by omega⟩ hc
  exact (key 8 le_rfl _ rfl).1

variable {s : State}

theorem packsKept_of_eq {t : State} (hp : t.stock.packs = s.stock.packs) (hl : t.stock.loaded = s.stock.loaded)
    (hc : t.configs = s.configs) (hk : t.controllers = s.controllers) (hn : t.lines = s.lines) (hf : t.phase = s.phase)
    (h : s.PacksKept) : t.PacksKept := ((State.packsKept_iff.mp h).of_eq hp hl hc hk hn hf).kept

theorem packsKept_shopKeep : ShopKeep State.PacksKept where
  toBaseKeep := packsKept_baseKeep
  progress _ p _ x _ _ h := ((State.packsKept_iff.mp h).putProgress p (some x)).kept
  endJob _ p r h := ((State.packsKept_iff.mp h).endJob p r).kept
  physicalFault _ p k h := packsKept_physicalFault p k h
  couponEjected _ p h := packsKept_couponEjected p h
  unreadable _ p slot k hk h := packsKept_unreadable p slot k hk h
  gap _ p slot k x hk hx h1 h2 h := packsKept_gapForm p slot k x hk hx h1 h2 h
  loadEnds _ p g status fields hg h := packsKept_loadEnds p g status fields hg h
  verified _ p g k hr hg hk h := packsKept_verifyLoad p g k hg hk hr h
  resetEnds _ p h := packsKept_finishReset p h
  admitted s p j rest _ _ _ h := by
    refine State.PacksAre.kept (State.PacksAre.noteRecords ((State.packsKept_iff.mp h).of_eq ?_ ?_ ?_ ?_ ?_ ?_)) <;> rfl
  till _ _ _ _ _ _ h := h
  drawer _ _ _ h := h
  audit _ _ h := h

/-! ## An office request with nothing deferred -/

theorem State.lineTest_none {l : Line} {code : Byte} (h : s.lineTest l code = none) :
    s.phase = .running ∧ (code ≠ abortCode → (s.line l).deferred = none) ∧ (code.toNat ∈ officeCodes → l = officeLine) := by
  unfold State.lineTest at h
  repeat' split at h
  any_goals cases h
  rename_i h1 h2 h3 h4
  refine ⟨by simpa using h1, fun hc => ?_, fun hc => ?_⟩
  · simpa [hc] using h2
  · simpa [hc] using h4

/-- No request is deferred, and no load is in hand. -/
structure State.Calm (s : State) : Prop where
  kept : s.PacksAre none none
  running : s.phase = .running

theorem State.calm {l : Line} {code : Byte} (h : s.PacksKept) (ht : s.lineTest l code = none) (ha : code ≠ abortCode)
    (hc : code.toNat ∈ officeCodes) : s.Calm := by
  obtain ⟨h1, h2, h3⟩ := State.lineTest_none ht
  have hd := h2 ha
  rw [h3 hc] at hd
  exact ⟨by rw [← hd]; exact { State.packsKept_iff.mp h with }, h1⟩

namespace State.Calm

theorem runs (h : s.Calm) : s.printersRun = true := by unfold State.printersRun; rw [h.running]

theorem noLoad (h : s.Calm) (p : PrinterId) : (s.ctl p).load = none := by
  have := (h.kept.waits h.runs p).1
  simpa using this

/-- A request is deferred whose work is still to begin. -/
theorem holdDeferred (h : s.Calm) (d : Deferred) : (s.holdDeferred d).PacksAre none (some d) := by
  obtain ⟨h1, h2, h3, h4, -⟩ := h.kept
  refine ⟨h1, h2, fun l hl => ?_, h4, by simp [State.holdDeferred]⟩
  have hne : l ≠ officeLine := hl.resolve_right fun hp => hp h.running
  rw [State.holdDeferred, State.putLine_line, if_neg hne]
  exact h3 l hl

end State.Calm

/-! ## Requests of the office -/

theorem packsKept_loadPack (l : Line) (slot printer : Nat) (h : s.Calm) : (serveLoadPack l slot printer s).state.PacksKept := by
  unfold serveLoadPack
  split
  · rename_i slot p _ _
    split
    · exact h.kept.kept
    · rename_i k hk
      split
      · exact h.kept.kept
      · split
        · exact h.kept.kept
        · split
          · exact h.kept.kept
          · split
            · exact h.kept.kept
            · rename_i hst hl hkind _
              have hstate : k.state = .received ∨ k.state = .unloaded := by
                by_contra hc; exact hst ⟨fun e => hc (.inl e), fun e => hc (.inr e)⟩
              obtain ⟨⟨h1, h1', -⟩, h2, h3, h4, h5⟩ := h.holdDeferred (.loadPack p)
              have taken : ((s.holdDeferred (.loadPack p)).mapCtl p fun c => { c with
                  load := some ⟨slot, 0, ((s.holdDeferred (.loadPack p)).ctl p).state⟩ }).PacksKept := by
                refine State.PacksAre.kept (d := some (.loadPack p)) ⟨⟨h1, h1', fun _ q g hg => ?_⟩, h2, h3, fun hr q => ?_, h5⟩
                · simp only [State.mapCtl, State.putCtl_ctl] at hg
                  split at hg
                  · rename_i e
                    subst e
                    cases hg
                    have hl' : s.loaded q = none := by simpa using hl
                    refine ⟨show (s.pack slot).isSome = true by rw [hk]; rfl, fun x hx => ?_⟩
                    obtain rfl : k = x := Option.some.inj ((Eq.symm hk).trans hx)
                    exact ⟨hstate, hl', not_not.mp hkind⟩
                  · exact absurd hg (by rw [show (s.holdDeferred (.loadPack p)).ctl q = s.ctl q from rfl, h.noLoad q]; simp)
                · have hq := h4 hr q
                  simp only [State.mapCtl, State.putCtl_ctl]
                  split
                  · rename_i e; subst e; simpa using hq.2
                  · rename_i hne; simpa [Ne.symm hne] using hq
              unfold State.beginLoad
              dsimp only
              split
              · exact packsKept_shopKeep.loadStep p taken
              · exact packsKept_shopKeep.mapCtl p _ ⟨rfl, rfl⟩ (packsKept_shopKeep.showLoad p _ _ taken)
  · exact h.kept.kept

theorem packsKept_printerReset (l : Line) (printer : Nat) (h : s.Calm) : (servePrinterReset l printer s).state.PacksKept := by
  unfold servePrinterReset
  split
  · exact h.kept.kept
  · rename_i p _
    have b := packsAre_baseKeep none (some (.printerReset p))
    have h1 := b.clearEntry p ((h.holdDeferred (.printerReset p)).endJob p .printerReset)
    refine packsKept_baseKeep.sendOp p _ _ (packsKept_baseKeep.setPrinterState p _ ?_)
    obtain ⟨⟨h1, h1', h1''⟩, h2, h3, h4, h5⟩ := h1
    refine State.PacksAre.kept (d := some (.printerReset p)) ⟨⟨h1, h1', fun hr q g hg => ?_⟩, h2, h3, fun hr q => ?_, h5⟩
    · simp only [State.mapCtl, State.putCtl_ctl] at hg
      split at hg
      · cases hg
      · exact h1'' hr q g hg
    · have hq := h4 hr q
      simp only [State.mapCtl, State.putCtl_ctl]
      split
      · rename_i e; subst e; simp [Controller.resetAccount]
      · rename_i hne; simpa [Ne.symm hne] using hq

theorem packsKept_abort (l : Line) (h : s.PacksKept) : (serveAbort l s).state.PacksKept := by
  unfold serveAbort
  split
  · exact h
  · rename_i d hd
    have h0 := State.packsKept_iff.mp h
    have hl : ¬ (l ≠ officeLine ∨ s.phase ≠ .running) := fun hl => by rw [h0.quiet l hl] at hd; cases hd
    obtain ⟨rfl, hrun⟩ : l = officeLine ∧ s.phase = .running := by simpa using hl
    have hr : s.printersRun = true := by unfold State.printersRun; rw [hrun]
    cases d with
    | loadPack p =>
      obtain ⟨g, hg⟩ := Option.isSome_iff_exists.mp ((h0.waits hr p).1.mpr hd)
      simp only [accept, State.stopDeferred, State.abortLoad, hg]
      exact packsKept_loadEnds p g _ _ (by simp [State.mapCtl, hg]) (packsKept_baseKeep.mapCtl p _ ⟨rfl, rfl⟩ h)
    | printerReset p => exact (h0.dropReset p ((h0.waits hr p).2.mpr hd)).endDeferred _ _

theorem State.packList_mem {slot : Slot} {k : Pack} (hk : s.pack slot = some k) : (slot, k) ∈ s.packList := by
  unfold State.packList
  exact List.mem_filterMap.mpr ⟨slot, List.mem_finRange slot, by rw [hk]; rfl⟩

theorem packsKept_receivePack (l : Line) (kind first count : Nat) (h : s.PacksKept) :
    (serveReceivePack l kind first count s).state.PacksKept := by
  unfold serveReceivePack
  split
  · exact h
  · rename_i kd _
    split
    · exact h
    · split
      · exact h
      · rename_i hrange hmeet
        split
        · exact h
        · rename_i slot hslot
          have hfree : s.pack slot = none := by simpa using List.find?_some hslot
          obtain ⟨⟨h1, h1', h1''⟩, h2, h3, h4⟩ := h
          have apart : ∀ b y, s.pack b = some y → kd ≠ y.kind ∨ first + count ≤ y.first ∨ y.endSerial ≤ first := by
            intro b y hy
            by_contra hc
            simp only [not_or, not_not, Nat.not_le] at hc
            refine hmeet (List.any_eq_true.mpr ⟨_, State.packList_mem hy, ?_⟩)
            obtain ⟨c1, c2, c3⟩ := hc
            unfold Pack.endSerial at c3
            simp only [rangesMeet, c1, BEq.rfl, Bool.true_and, Bool.and_eq_true, decide_eq_true_eq]
            exact ⟨c3, c2⟩
          have read : ∀ a, (s.putPack slot (some (.received kd first count s.clock.day))).pack a =
              if a = slot then some (.received kd first count s.clock.day) else s.pack a := fun a => State.putPack_pack ..
          refine ⟨⟨fun a x hx => ?_, fun a ha p => ?_, fun hr p g hg => ?_⟩, fun a x hx b y hy => ?_, h3, h4⟩
          · dsimp only [accept] at hx
            rw [read] at hx
            split at hx
            · rename_i e; subst e; cases hx
              refine ⟨⟨by simp only [Pack.received]; omega, by simp only [Pack.received]; omega, le_rfl,
                by simp only [Pack.endSerial, Pack.received]; omega,
                fun _ => ⟨by simp only [Pack.endSerial, Pack.received]; omega, rfl⟩, by simp [Pack.received],
                by simp [Pack.received], by simp [Pack.received]⟩, fun p => ?_, by simp [Pack.received]⟩
              simp only [Pack.received, reduceCtorEq, false_iff]
              exact h1' a hfree p
            · exact h1 a x hx
          · dsimp only [accept] at ha
            rw [read] at ha
            split at ha
            · cases ha
            · exact h1' a ha p
          · obtain ⟨k1, k2⟩ := h1'' hr p g hg
            have hne : g.slot ≠ slot := fun e => by rw [e, hfree] at k1; cases k1
            dsimp only [accept]
            rw [read, if_neg hne]
            exact ⟨k1, k2⟩
          · dsimp only [accept] at hx hy
            rw [read] at hx hy
            split at hx <;> split at hy
            · rename_i ea eb; exact .inl (ea.trans eb.symm)
            · cases hx
              exact .inr (apart b y hy)
            · cases hy
              refine .inr ((apart a x hx).imp (fun hk e => hk e.symm) Or.symm)
            · exact h2 a x hx b y hy

theorem packsKept_unloadPack (l : Line) (printer : Nat) (h : s.Calm) : (serveUnloadPack l printer s).state.PacksKept := by
  unfold serveUnloadPack
  split
  · exact h.kept.kept
  · rename_i p _
    split
    · exact h.kept.kept
    · rename_i slot k hk
      split
      · exact h.kept.kept
      · split
        · exact h.kept.kept
        · obtain ⟨hl, hk⟩ := State.PacksAre.pack_of_loadedPack hk
          obtain ⟨⟨h1, h1', -⟩, h2, h3, h4, h5⟩ := h.kept
          obtain ⟨⟨c1, c2, c3, c4, c5, c6, c7, c8⟩, hloc, -⟩ := h1 slot k hk
          have hat : k.location = some p := (hloc p).mpr hl
          have spent : k.state ≠ .loaded → k.state = .spent := by
            intro hne
            cases hs : k.state
            · rw [(c5 (.inl hs)).2] at hat; cases hat
            · exact absurd hs hne
            · rw [(c5 (.inr hs)).2] at hat; cases hat
            · rfl
            · rw [(c8 hs).2] at hat; cases hat
          have sound : k.unloaded.Sound := by
            by_cases hs : k.state = .loaded
            · exact ⟨c1, c2, c3, c4, fun _ => ⟨(c6 hs).1, rfl⟩, by simp [Pack.unloaded, hs], by simp [Pack.unloaded, hs],
                by simp [Pack.unloaded, hs]⟩
            · have hsp := spent hs
              exact ⟨c1, c2, c3, c4, by simp [Pack.unloaded, hsp], by simp [Pack.unloaded, hsp], fun _ => c7 hsp,
                by simp [Pack.unloaded, hsp]⟩
          refine packsKept_baseKeep.mapCtl p _ ⟨rfl, rfl⟩ (State.PacksAre.kept (d := none) ?_)
          have read : ∀ a, ((s.putPack slot (some k.unloaded)).putLoaded p none).pack a =
              if a = slot then some k.unloaded else s.pack a := fun a => State.putPack_pack ..
          have hld : ∀ q, ((s.putPack slot (some k.unloaded)).putLoaded p none).loaded q =
              if q = p then none else s.loaded q := fun q => by rw [State.putLoaded_loaded]; rfl
          refine ⟨⟨fun a x hx => ?_, fun a ha q => ?_, fun _ q g hg => ?_⟩, fun a x hx b y hy => ?_, h3, h4, h5⟩
          · rw [read] at hx
            simp only [hld]
            split at hx
            · rename_i e; subst e; cases hx
              refine ⟨sound, fun q => ?_, fun q hq => by cases hq⟩
              simp only [Pack.unloaded, reduceCtorEq, false_iff]
              split
              · simp
              · rename_i hne
                exact fun hq => hne (Option.some.inj (((hloc q).mpr hq).symm.trans hat))
            · rename_i hne
              obtain ⟨s1, s2, s3⟩ := h1 a x hx
              refine ⟨s1, fun q => ?_, s3⟩
              rw [s2 q]
              split
              · rename_i e
                subst e
                rw [hl]
                simp only [Option.some.injEq, reduceCtorEq, iff_false]
                exact fun e => hne e.symm
              · exact Iff.rfl
          · rw [read] at ha
            rw [hld]
            split at ha
            · cases ha
            · split
              · simp
              · exact h1' a ha q
          · exact absurd hg (by rw [show ((s.putPack slot (some k.unloaded)).putLoaded p none).ctl q = s.ctl q from rfl, h.noLoad q]; simp)
          · have back : ∀ a x, ((s.putPack slot (some k.unloaded)).putLoaded p none).pack a = some x →
                ∃ z, s.pack a = some z ∧ x.kind = z.kind ∧ x.first = z.first ∧ x.endSerial = z.endSerial := by
              intro a x hx
              rw [read] at hx
              split at hx
              · rename_i e; cases hx; exact ⟨k, by rw [e]; exact hk, rfl, rfl, rfl⟩
              · exact ⟨x, hx, rfl, rfl, rfl⟩
            obtain ⟨x', hx', a1, a2, a3⟩ := back a x hx
            obtain ⟨y', hy', b1, b2, b3⟩ := back b y hy
            rw [a1, a2, a3, b1, b2, b3]
            exact h2 a x' hx' b y' hy'

theorem packsKept_closePack (l : Line) (slot : Nat) (h : s.Calm) : (serveClosePack l slot s).state.PacksKept := by
  unfold serveClosePack
  split
  · exact h.kept.kept
  · rename_i slot _
    split
    · exact h.kept.kept
    · rename_i k hk
      split
      · exact h.kept.kept
      · split
        · exact h.kept.kept
        · rename_i hst _
          obtain ⟨⟨c1, c2, c3, c4, c5, c6, c7, c8⟩, -⟩ := h.kept.sound.1 slot k hk
          have office : k.location = none := by
            simp only [not_or, not_and] at hst
            obtain ⟨n1, n2, n3⟩ := hst
            cases hs : k.state
            · exact (c5 (.inl hs)).2
            · exact absurd hs n1
            · exact (c5 (.inr hs)).2
            · simpa using n3 hs
            · exact absurd hs n2
          have closed : Pack.Sound { k with cursor := k.endSerial, state := .closed } :=
            ⟨c1, c2, c3.trans c4, le_rfl, by simp, by simp, by simp, fun _ => ⟨rfl, office⟩⟩
          dsimp only [accept]
          refine State.PacksAre.kept (d := none) (State.PacksAre.putPack ?_ (k := k) ?_ ⟨rfl, rfl, rfl, rfl⟩ closed fun _ p g hg => ?_)
          · split
            · exact h.kept.addRecord _
            · exact h.kept
          · split
            · rw [← hk]; simp [State.pack, State.addRecord]
            · exact hk
          · split at hg
            · rw [show (s.addRecord _).ctl p = s.ctl p by simp [State.ctl, State.addRecord], h.noLoad p] at hg
              cases hg
            · rw [h.noLoad p] at hg; cases hg

theorem packsKept_purgePack (l : Line) (slot : Nat) (h : s.PacksKept) : (servePurgePack l slot s).state.PacksKept := by
  unfold servePurgePack
  split
  · exact h
  · rename_i slot _
    split
    · exact h
    · rename_i k hk
      split
      · exact h
      · rename_i hst
        split
        · exact h
        · split
          · exact h
          · have hclosed : k.state = .closed := by simpa using hst
            have h0 := State.packsKept_iff.mp h
            have freed : (s.putPack slot none).PacksAre (s.line officeLine).deferred (s.line officeLine).deferred := by
              obtain ⟨⟨h1, h1', h1''⟩, h2, h3, h4, h5⟩ := h0
              obtain ⟨⟨-, -, -, -, -, -, -, c8⟩, hloc, -⟩ := h1 slot k hk
              refine ⟨⟨fun a x hx => ?_, fun a ha p => ?_, fun hr p g hg => ?_⟩, fun a x hx b y hy => ?_, h3, h4, h5⟩
              · rw [State.putPack_pack] at hx
                split at hx
                · cases hx
                · exact h1 a x hx
              · rw [State.putPack_pack] at ha
                split at ha
                · rename_i e; subst e
                  exact fun hl => by have := (hloc p).mpr hl; rw [(c8 hclosed).2] at this; cases this
                · exact h1' a ha p
              · obtain ⟨k1, k2⟩ := h1'' hr p g hg
                have hne : g.slot ≠ slot := fun e => by
                  obtain ⟨m1, -⟩ := k2 k (by rw [e]; exact hk)
                  rw [hclosed] at m1; simp at m1
                rw [State.putPack_pack, if_neg hne]
                exact ⟨k1, k2⟩
              · rw [State.putPack_pack] at hx hy
                split at hx
                · cases hx
                · split at hy
                  · cases hy
                  · exact h2 a x hx b y hy
            exact ((freed.of_eq (t := s.putStock { s.stock with
              packs := s.stock.packs.set slot none, exceptions := s.stock.exceptions.filter (·.slot != slot) })
              rfl rfl rfl rfl rfl rfl).noteRecords.of_eq rfl rfl rfl rfl rfl rfl).kept

theorem packsKept_setPrinter (l : Line) (printer kind feed settle : Nat) (h : s.Calm) :
    (serveSetPrinter l printer kind feed settle s).state.PacksKept := by
  unfold serveSetPrinter
  split
  · rename_i p kd _ _
    split
    · exact h.kept.kept
    · split
      · exact h.kept.kept
      · split
        · exact h.kept.kept
        · rename_i hu
          have hl : s.loaded p = none := by
            simp only [State.inUse, Bool.or_eq_true, not_or] at hu
            simpa using hu.1.1.1
          obtain ⟨⟨h1, h1', -⟩, h2, h3, h4, h5⟩ := h.kept
          refine packsKept_baseKeep.raise _ _ (State.PacksAre.kept (d := none)
            ⟨⟨fun a x hx => ?_, h1', fun _ q g hg => ?_⟩, h2, h3, h4, h5⟩)
          · obtain ⟨s1, s2, s3⟩ := h1 a x hx
            refine ⟨s1, s2, fun q hq => ?_⟩
            have hne : q ≠ p := fun e => by have := (s2 q).mp hq; rw [e, hl] at this; cases this
            rw [State.putConfig_config, if_neg hne]
            exact s3 q hq
          · exact absurd hg (by rw [show (s.putConfig p ⟨kd, feed, settle⟩).ctl q = s.ctl q from rfl, h.noLoad q]; simp)
  · exact h.kept.kept

/-! ## Requests of a window -/

theorem packsKept_voidRecords (n : SessionId) (cs : List Coupon) {d e : Option Deferred} : ∀ {s : State}, s.PacksAre d e →
    (s.voidRecords n cs).PacksAre d e := by
  induction cs with
  | nil => exact fun h => h
  | cons c cs ih => exact fun h => ih (h.addRecord _)

theorem packsKept_void (l : Line) (issue : Nat) (h : s.PacksKept) : (serveVoid l issue s).state.PacksKept := by
  have h1 := fun (cs : List Coupon) (x : Session) => packsKept_shopKeep.putSession l x
    (packsKept_voidRecords l cs (State.packsKept_iff.mp h)).kept
  unfold serveVoid
  dsimp only
  repeat' split
  any_goals exact h
  · exact packsKept_shopKeep.drawer _ _ _ (packsKept_shopKeep.updateEstimate _ _ _ (h1 _ _))
  · exact h1 _ _

theorem packsKept_withdraw (p : PrinterId) (j : Job) (h : s.PacksKept) : (s.withdraw p j).PacksKept :=
  packsKept_shopKeep.putSession _ _ (packsKept_of_eq (t := s.putLane p _) rfl rfl rfl rfl rfl rfl h)

theorem packsKept_issue (l : Line) (kind passengers base index tender coupons : Nat) (named : Option Nat) (text : List Byte)
    (h : s.PacksKept) : (serveIssue l kind passengers base index tender coupons named text s).state.PacksKept := by
  unfold serveIssue
  dsimp only
  repeat' split
  all_goals exact h

theorem packsKept_cancel (l : Line) (issue : Nat) (h : s.PacksKept) : (serveCancel l issue s).state.PacksKept := by
  unfold serveCancel
  repeat' split
  all_goals exact h

theorem packsKept_abortJob (l : Line) (issue : Nat) (h : s.PacksKept) : (serveAbortJob l issue s).state.PacksKept := by
  unfold serveAbortJob
  split
  · exact h
  · split
    · split
      · exact packsKept_shopKeep.endJob _ _ _ h
      · unfold State.markAbort
        split
        · exact h
        · exact h
    · exact packsKept_shopKeep.raise _ _ (packsKept_shopKeep.handOver _ (packsKept_withdraw _ _ h))
    · exact h

theorem packsKept_divert (l : Line) (a b : Nat) (h : s.PacksKept) : (serveDivert l a b s).state.PacksKept := by
  unfold serveDivert
  split
  · split
    · exact h
    · rename_i a b _ _ _
      have h1 : (s.divertSuspended a b).PacksKept := by
        unfold State.divertSuspended
        split
        · exact h
        · exact packsKept_of_eq (s := s.dropJob a) rfl rfl rfl rfl rfl rfl ((State.packsKept_iff.mp h).dropJob a).kept
      exact packsKept_shopKeep.raiseDiverted _
        (packsKept_of_eq (t := (s.divertSuspended a b).moveLanes a b) rfl rfl rfl rfl rfl rfl h1)
  · exact h

theorem packsKept_requests : RequestsKeep State.PacksKept where
  toShopKeep := packsKept_shopKeep
  abort l _ _ h := packsKept_abort l h
  setClock l a b c u h := by
    unfold serveSetClock
    split
    · exact h
    · split
      · exact h
      · exact packsKept_shopKeep.raise _ _ h
  void l n _ h := packsKept_void l n h
  setThresholds l a b u h := by unfold serveSetThresholds; split <;> exact h
  issue l a b c d e f g t _ h := packsKept_issue l a b c d e f g t h
  cancel l n _ h := packsKept_cancel l n h
  abortJob l n _ h := packsKept_abortJob l n h
  divert l a b _ h := packsKept_divert l a b h
  setWindowMap l n es u h := by
    unfold serveSetWindowMap; repeat' split
    all_goals exact h
  setDiscount l a b c d u h := by
    unfold serveSetDiscount; repeat' split
    all_goals exact h
  setStockKind l a b c d u h := by
    unfold serveSetStockKind; repeat' split
    all_goals exact h
  receivePack l a b c _ h := packsKept_receivePack l a b c h
  loadPack l a b _ ht h := packsKept_loadPack l a b (State.calm h ht (by decide) (by decide))
  unloadPack l a _ ht h := packsKept_unloadPack l a (State.calm h ht (by decide) (by decide))
  closePack l a _ ht h := packsKept_closePack l a (State.calm h ht (by decide) (by decide))
  purgePack l a _ h := packsKept_purgePack l a h
  readException l u h := by unfold serveReadException; split <;> exact h
  setPrinter l a b c d _ ht h := packsKept_setPrinter l a b c d (State.calm h ht (by decide) (by decide))
  printerReset l a _ ht h := packsKept_printerReset l a (State.calm h ht (by decide) (by decide))
  setDenomination l a b u h := by
    unfold serveSetDenomination; repeat' split
    all_goals exact h
  setTolerance l a u h := by unfold serveSetTolerance; split <;> exact h

/-! ## Halts and start-up -/

/-- What a halt leaves of the packs: nothing is deferred, and the printers do not run. -/
theorem packsKept_halted {t : State} (hp : t.stock.packs = s.stock.packs) (hl : t.stock.loaded = s.stock.loaded)
    (hc : t.configs = s.configs) (hq : ∀ l, (t.line l).deferred = none) (hr : t.printersRun = false) (h : s.PacksKept) :
    t.PacksKept := by
  obtain ⟨⟨h1, h1', -⟩, h2, -⟩ := h
  have e1 : t.pack = s.pack := by funext x; unfold State.pack; rw [hp]
  have e2 : t.loaded = s.loaded := by funext x; unfold State.loaded; rw [hl]
  have e3 : t.config = s.config := by funext x; unfold State.config; rw [hc]
  refine ⟨⟨?_, ?_, fun h => by rw [hr] at h; cases h⟩, ?_, fun l _ => hq l, fun h => by rw [hr] at h; cases h⟩
  · rw [e1, e2, e3]; exact h1
  · rw [e1, e2]; exact h1'
  · unfold State.PacksApart; rw [e1]; exact h2

/-! ### The stages -/

/-- What one outcome handed over leaves, a list of them leaves. -/
theorem State.handOvers_frame {α : Type} (f : State → α) (hf : ∀ t o, f (State.handOver t o) = f t) (os : List Outcome) :
    ∀ t : State, f (os.foldl (fun t o => t.handOver o) t) = f t := by
  induction os with
  | nil => exact fun _ => rfl
  | cons o os ih => exact fun t => (ih _).trans (hf t o)

theorem State.printersRun_iff : s.printersRun = true ↔ 7 ≤ s.phase.stagesTaken := by
  unfold State.printersRun Phase.stagesTaken
  split <;> simp_all

theorem not_printersRun (h : s.phase.stagesTaken ≤ 6) : s.printersRun = false := by
  rw [← Bool.not_eq_true, State.printersRun_iff]; omega

/-- A stage before the printers run: the phase alone moves on. -/
theorem packsKept_nextPhase {n : Nat} (hn : n ≤ 5) (h : s.PacksKept) (ht : s.phase.stagesTaken = n) :
    { s with phase := .starting (n + 1) }.PacksKept := by
  refine packsKept_halted (s := s) rfl rfl rfl (fun l => h.2.2.1 l (.inr ?_)) (not_printersRun ?_) h
  · intro e; rw [e] at ht; simp [Phase.stagesTaken] at ht; omega
  · simp only [Phase.stagesTaken]; omega

theorem packsKept_recover (p : PrinterId) (h : s.PacksKept) : (s.recover p).PacksKept := by
  unfold State.recover
  split
  · exact h
  · rename_i g _
    exact packsKept_of_eq rfl rfl rfl rfl rfl rfl
      (((State.PacksAre.undoCoupons p g.job.session g.job.kind g.job.printed (State.packsKept_iff.mp h)).loseForm p).dropJob p).kept

theorem packsKept_settleKept (h : s.PacksKept) : s.settleKept.PacksKept :=
  ((State.packsKept_iff.mp h).of_eq (t := (s.putTill { s.till with sessions := Vector.ofFn fun n => (s.session n).settledOnly }).putLog
    { s.log with entries := s.log.entries.map (·.clearedBy s.clock.now) }) rfl rfl rfl rfl rfl rfl).noteRecords.kept

/-- After store loss no pack is in stock (R27). -/
theorem packsKept_settleLost (hr : s.printersRun = false) (h : s.PacksKept) : s.settleLost.PacksKept := by
  have hp : ∀ a, s.settleLost.pack a = none := fun a => by simp [State.pack, State.settleLost, Stock.storeLoss]
  have hl : ∀ p, s.settleLost.loaded p = none := fun p => by simp [State.loaded, State.settleLost, Stock.storeLoss]
  have hr' : s.settleLost.printersRun = false := hr
  refine ⟨⟨fun a x hx => ?_, fun a _ p => ?_, fun h => ?_⟩, fun a x hx => ?_, h.2.2.1, fun h => ?_⟩
  · rw [hp] at hx; cases hx
  · rw [hl]; simp
  · rw [hr'] at h; cases h
  · rw [hp] at hx; cases hx
  · rw [hr'] at h; cases h

/-- The volatile stage starts the controllers, with no load in hand (R199). -/
theorem packsKept_volatileStage (hq : ∀ l, (s.line l).deferred = none) (sound : ∀ slot k, s.pack slot = some k → k.Sound ∧
      (∀ p, k.location = some p ↔ s.loaded p = some slot) ∧ ∀ p, k.location = some p → (s.config p).kind = some k.kind)
    (free : ∀ slot, s.pack slot = none → ∀ p, s.loaded p ≠ some slot) (apart : s.PacksApart) : s.volatileStage.PacksKept := by
  have f1 := State.handOvers_frame State.stock (fun t o => t.handOver_stock o) s.setAside s
  have f2 := State.handOvers_frame State.configs
    (fun t o => congrArg Settings.configs (t.handOver_settings o)) s.setAside s
  have e1 : s.volatileStage.pack = s.pack := by
    funext x; show (State.stock _).packs[x] = _; rw [show s.volatileStage.stock = _ from f1]; rfl
  have e2 : s.volatileStage.loaded = s.loaded := by
    funext x; show (State.stock _).loaded[x] = _; rw [show s.volatileStage.stock = _ from f1]; rfl
  have e3 : s.volatileStage.config = s.config := by
    funext x; show (State.configs _)[x] = _; rw [show s.volatileStage.configs = _ from f2]; rfl
  have e4 : ∀ p, (s.volatileStage.ctl p).load = none ∧ (s.volatileStage.ctl p).resetWait = false := by
    intro p
    simp only [State.volatileStage, State.ctl, Fin.getElem_fin, Vector.getElem_ofFn, State.startController, Controller.showLamp]
    split <;> split <;> exact ⟨rfl, rfl⟩
  have e5 : ∀ l, (s.volatileStage.line l).deferred = none := by
    intro l
    have := State.handOvers_line l s.setAside s
    show ((s.setAside.foldl (fun t o => t.handOver o) s).line l).deferred = none
    rw [this]
    split <;> exact hq l
  refine ⟨⟨?_, ?_, fun _ p g hg => ?_⟩, ?_, fun l _ => e5 l, fun _ p => ?_⟩
  · rw [e1, e2, e3]; exact sound
  · rw [e1, e2]; exact free
  · rw [(e4 p).1] at hg; cases hg
  · unfold State.PacksApart; rw [e1]; exact apart
  · simp [State.DeferredMatches, e4, e5]

/-- The lines open with nothing deferred and no load in hand. -/
theorem packsKept_openLines (hq : ∀ l, (s.line l).deferred = none) (hr : s.printersRun = true) (h : s.PacksKept) :
    s.openLines.PacksKept := by
  obtain ⟨⟨h1, h1', h1''⟩, h2, -, h4⟩ := h
  refine packsKept_baseKeep.pumpAll ?_
  have e : ∀ l, (({ s with phase := .running, setAside := [], lines := Vector.ofFn fun l => (s.line l).opened } : State).line
      l).deferred = none := by
    intro l; simpa [State.line, LineState.opened] using hq l
  refine ⟨⟨h1, h1', fun _ => h1'' hr⟩, h2, fun l _ => e l, fun _ p => ?_⟩
  have := h4 hr p
  simp only [State.DeferredMatches, hq] at this
  simp only [State.DeferredMatches, e]
  exact this

theorem packsKept_runStage (straps : Straps) (n : Nat) (hn : n ≤ 7) (ht : s.phase.stagesTaken = n) (h : s.PacksKept) :
    (s.runStage straps n).PacksKept := by
  have hq : ∀ l, (s.line l).deferred = none := by
    refine fun l => h.2.2.1 l (.inr fun e => ?_)
    rw [e] at ht; simp [Phase.stagesTaken] at ht; omega
  have h1 : n ≤ 5 → { s with phase := .starting (n + 1) }.PacksKept := fun hn => packsKept_nextPhase hn h ht
  unfold State.runStage
  dsimp only
  split
  · refine packsKept_halted (s := s) rfl rfl rfl (fun l => ?_) (not_printersRun (by simp [State.firstStage, Phase.stagesTaken])) h
    simp [State.firstStage, State.line, LineState.startUp]
  · split
    · exact packsKept_settleKept (h1 (by omega))
    · exact packsKept_settleLost (not_printersRun (by simp [Phase.stagesTaken])) (h1 (by omega))
  · exact packsKept_volatileStage hq h.1.1 h.1.2.1 h.2.1
  · have hr : s.printersRun = true := by rw [State.printersRun_iff]; omega
    exact packsKept_openLines hq (by simp [State.printersRun])
      ⟨⟨h.1.1, h.1.2.1, fun _ => h.1.2.2 hr⟩, h.2.1, fun l _ => hq l, fun _ => h.2.2.2 hr⟩
  · rename_i n0 n5 n6 n7
    have hn5 : n ≤ 5 := by
      have : n ≠ 6 := n6
      have : n ≠ 7 := n7
      omega
    split
    · exact packsKept_recover _ (h1 hn5)
    · exact h1 hn5

theorem State.runStage_stagesTaken (straps : Straps) (n : Nat) (hn : n ≤ 7) :
    (s.runStage straps n).phase.stagesTaken = n + 1 := by
  have hand := State.handOvers_frame State.phase (fun t o => congrArg Settings.phase (t.handOver_settings o))
  unfold State.runStage
  dsimp only
  split
  · rfl
  · split
    · exact congrArg Phase.stagesTaken (congrArg Settings.phase (State.noteRecords_settings _))
    · rfl
  · exact congrArg Phase.stagesTaken (hand _ _)
  · rfl
  · split
    · unfold State.recover
      split
      · rfl
      · rename_i g _
        exact congrArg (fun x : Settings => x.phase.stagesTaken) ((State.dropJob_settings ..).trans
          ((State.loseForm_settings ..).trans (State.undoCoupons_settings ..)))
    · rfl

theorem packsKept_startTo (straps : Straps) (stage : StartStage) (h : s.PacksKept) : (s.startTo straps stage).PacksKept :=
  State.startTo_stage straps stage s h fun t n hn ht h =>
    ⟨packsKept_runStage straps n hn ht h, t.runStage_stagesTaken straps n hn⟩

theorem packsKept_events : EventsKeep State.PacksKept :=
  packsKept_shopKeep.events (pending := fun _ _ h => h) (takes := packsKept_requests.take)
    (drawer := fun _ _ h => h) (clock := fun _ h => h)
    (pfail := fun s h => packsKept_halted (s := s) rfl rfl rfl (fun l => by simp [State.line, State.halt, LineState.halted]) rfl h)
    (rst := fun s h => packsKept_halted (s := s) rfl rfl rfl (fun l => by simp [State.line, State.halt, LineState.halted]) rfl h)
    (signature := fun _ _ h => h)
    (cutShort := fun s h => packsKept_halted (s := s) rfl rfl rfl (fun l => by simp [State.line, State.halt, LineState.halted]) rfl h)
    (startUp := fun straps stage _ h => packsKept_startTo straps stage h)

/-- Settles O56: every event keeps the packs sound, the load in hand followed through each operation with its deferred request. -/
theorem packsStaySound : Obligations.PacksStaySound :=
  fun s t h e => packsKept_events.step s t h e

end Sys2Proof.Machine

/-! # Requests on a ready line: the office's tables, and the stock -/

namespace Sys2Proof.Machine

open Sys2Proof Sys2Proof.Machine

/-! ## A request by its owner's answer -/

/-- A request that a ready line may send does what its owner answers (R180). -/
theorem exec_ready (i : Instr) {s : State} {l : Line} {code : Byte} {rest : List Byte}
    (e : requestBody i = some (l, code :: rest)) (hc : code.toNat ∈ requestCodes) (hp : l = officeLine ∨ code.toNat ∉ officeCodes)
    (h : s.Ready l) : exec i s = .next ((serveRequest i (s.frameEnded l)).finish l code (closeRequest i l)) := by
  rw [exec_request i s (by rw [e]; rfl), takeRequest_eq i l code rest e, s.request_ready l code _ _ h hc hp]

namespace Served

variable {s u : State} {l : Line} {code : Byte} {close : State → State} {r : Served}

/-- A refusal is said, and nothing else changes. -/
theorem finish_of_refuse {status : Status} (h : r = refuse (s.frameEnded l) status) (hs : status ≠ .ok := by decide) :
    r.finish l code close = s.said l code status [] := by
  rw [h, Served.finish_refuse _ _ _ _ _ hs]

/-- An effect after which the line's own transmitter alone looks is said in the state it leaves. -/
theorem finish_of_said {fields : List Byte} (h : r = accept (u.frameEnded l) fields) :
    r.finish l code (·.pump l) = u.said l code .ok fields := by
  rw [h, Served.finish_accept]; rfl

/-- An effect is answered in the state it leaves, and what follows the event is done. -/
theorem finish_of_accept {fields : List Byte} (h : r = accept (u.frameEnded l) fields) :
    r.finish l code close = close (u.answered l code .ok fields) := by
  rw [h, Served.finish_accept]

end Served

section
variable {s : State}

/-! ## The tables the office sets (O7) -/

theorem exec_setThresholds (h : s.Ready officeLine) (high low : Nat) : exec (.setThresholds officeLine high low) s = .next (
    if 9999999 < high ∨ high < low then s.said officeLine 0x13 .badParameter []
    else (s.putTill { s.till with high := high, low := low }).said officeLine 0x13 .ok (be 4 high ++ be 4 low)) := by
  rw [exec_ready _ rfl (by decide) (.inl rfl) h]
  congr 1
  split <;> rename_i hc
  · exact Served.finish_of_refuse (if_pos hc)
  · exact Served.finish_of_said (if_neg hc)

theorem exec_setTolerance (h : s.Ready officeLine) (tolerance : Nat) : exec (.setTolerance officeLine tolerance) s = .next (
    if 10000 < tolerance then s.said officeLine 0x57 .badParameter []
    else (s.putTill { s.till with tolerance := tolerance }).said officeLine 0x57 .ok (be 2 tolerance)) := by
  rw [exec_ready _ rfl (by decide) (.inl rfl) h]
  congr 1
  split <;> rename_i hc
  · exact Served.finish_of_refuse (if_pos hc)
  · exact Served.finish_of_said (if_neg hc)

theorem exec_setDiscount_out (h : s.Ready officeLine) (index rate floor step : Nat) (hi : 15 < index) :
    exec (.setDiscount officeLine index rate floor step) s = .next (s.said officeLine 0x25 .badParameter []) := by
  rw [exec_ready _ rfl (by decide) (.inl rfl) h]
  exact congrArg _ (Served.finish_of_refuse (dif_neg (by omega)))

theorem exec_setDiscount (h : s.Ready officeLine) (index : Fin 16) (rate floor step : Nat) :
    exec (.setDiscount officeLine index.val rate floor step) s = .next (
      if index.val = 0 ∨ 1000 < rate ∨ 99999 < floor ∨ step ∉ [1, 5, 10] then s.said officeLine 0x25 .badParameter []
      else (s.putDiscount index ⟨rate, floor, step⟩).said officeLine 0x25 .ok
        (byteOf index.val :: be 2 rate ++ be 4 floor ++ [byteOf step])) := by
  rw [exec_ready _ rfl (by decide) (.inl rfl) h]
  have hstep : step ∉ [1, 5, 10] ↔ step ≠ 1 ∧ step ≠ 5 ∧ step ≠ 10 := by simp
  simp only [hstep]
  congr 1
  split <;> rename_i hc
  · exact Served.finish_of_refuse ((dif_pos index.isLt).trans (if_pos hc))
  · exact Served.finish_of_said ((dif_pos index.isLt).trans (if_neg hc))

theorem exec_setDenomination_out (h : s.Ready officeLine) (index face : Nat) (hi : 11 < index) :
    exec (.setDenomination officeLine index face) s = .next (s.said officeLine 0x56 .badParameter []) := by
  rw [exec_ready _ rfl (by decide) (.inl rfl) h]
  exact congrArg _ (Served.finish_of_refuse (dif_neg (by omega)))

/-- A session is in its cash-up. -/
theorem cashup_any_iff (s : State) :
    s.till.sessions.toList.any (·.state == .cashup) = true ↔ ∃ n : SessionId, (s.session n).state = .cashup := by
  simp only [List.any_eq_true, beq_iff_eq, Vector.mem_toList_iff, Vector.mem_iff_getElem]
  constructor
  · rintro ⟨x, ⟨i, hi, rfl⟩, hx⟩; exact ⟨⟨i, hi⟩, hx⟩
  · rintro ⟨n, hn⟩; exact ⟨_, ⟨n.val, n.isLt, rfl⟩, hn⟩

theorem exec_setDenomination (h : s.Ready officeLine) (index : Fin 12) (face : Nat) :
    exec (.setDenomination officeLine index.val face) s = .next (
      if 10000 < face ∨ (face ≠ 0 ∧ ∃ other : Fin 12, other ≠ index ∧ s.till.denominations[other] = face) then
        s.said officeLine 0x56 .badParameter []
      else if ∃ n : SessionId, (s.session n).state = .cashup then s.said officeLine 0x56 .inUse []
      else (s.putTill { s.till with denominations := s.till.denominations.set index face }).said officeLine 0x56 .ok
        (byteOf index.val :: be 2 face)) := by
  rw [exec_ready _ rfl (by decide) (.inl rfl) h]
  have helse : faceElsewhere s.till.denominations index.val face = true ↔
      ∃ other : Fin 12, other ≠ index ∧ s.till.denominations[other] = face := by
    simp only [faceElsewhere_iff, ne_eq, Fin.ext_iff]
  simp only [← helse, ← cashup_any_iff]
  congr 1
  split <;> rename_i hc
  · by_cases hf : 10000 < face
    · exact Served.finish_of_refuse ((dif_pos index.isLt).trans (if_pos hf))
    · exact Served.finish_of_refuse ((dif_pos index.isLt).trans ((if_neg hf).trans (if_pos (hc.resolve_left hf))))
  · obtain ⟨hf, hd⟩ := not_or.mp hc
    split <;> rename_i hu
    · exact Served.finish_of_refuse ((dif_pos index.isLt).trans ((if_neg hf).trans ((if_neg hd).trans (if_pos hu))))
    · exact Served.finish_of_said ((dif_pos index.isLt).trans ((if_neg hf).trans ((if_neg hd).trans (if_neg hu))))

/-- Some pack of the stock satisfies a test. -/
theorem packList_any_iff (s : State) (test : Slot × Pack → Bool) :
    s.packList.any test = true ↔ ∃ slot k, s.pack slot = some k ∧ test (slot, k) = true := by
  simp only [State.packList, List.any_eq_true, List.mem_filterMap, List.mem_finRange, true_and, Option.map_eq_some_iff]
  constructor
  · rintro ⟨_, ⟨slot, k, hk, rfl⟩, ht⟩; exact ⟨slot, k, hk, ht⟩
  · rintro ⟨slot, k, hk, ht⟩; exact ⟨_, ⟨slot, k, hk, rfl⟩, ht⟩

/-- A number outside 1-8 names no kind. -/
theorem exec_setStockKind_out (h : s.Ready officeLine) (kind : Nat) (letter1 letter2 : Byte) (threshold : Nat)
    (hk : kind < 1 ∨ 8 < kind) :
    exec (.setStockKind officeLine kind letter1 letter2 threshold) s = .next (s.said officeLine 0x30 .badParameter []) := by
  rw [exec_ready _ rfl (by decide) (.inl rfl) h]
  exact congrArg _ (Served.finish_of_refuse (by simp only [serveRequest, serveSetStockKind, kindOf_out hk]))

theorem exec_setStockKind (h : s.Ready officeLine) (k : Kind) (letter1 letter2 : Byte) (threshold : Nat) :
    exec (.setStockKind officeLine (k.val + 1) letter1 letter2 threshold) s = .next (
      if letter1.toNat < 0x41 ∨ 0x5A < letter1.toNat ∨ letter2.toNat < 0x41 ∨ 0x5A < letter2.toNat ∨ 2000 < threshold then
        s.said officeLine 0x30 .badParameter []
      else if ∃ slot : Slot, (s.pack slot).any (fun x => x.kind = k ∧ x.state ≠ .closed) = true then
        s.said officeLine 0x30 .inUse []
      else (s.putKind k ⟨letter1, letter2, threshold⟩).said officeLine 0x30 .ok []) := by
  rw [exec_ready _ rfl (by decide) (.inl rfl) h]
  have hbad : (!isCapital letter1 || !isCapital letter2 || decide (2000 < threshold)) = true ↔
      letter1.toNat < 0x41 ∨ 0x5A < letter1.toNat ∨ letter2.toNat < 0x41 ∨ 0x5A < letter2.toNat ∨ 2000 < threshold := by
    simp only [isCapital, Bool.or_eq_true, Bool.not_eq_true', Bool.and_eq_false_iff, decide_eq_false_iff_not, decide_eq_true_eq]
    omega
  have huse : (s.frameEnded officeLine).packList.any (fun x => x.2.kind == k && x.2.state != .closed) = true ↔
      ∃ slot : Slot, (s.pack slot).any (fun x => x.kind = k ∧ x.state ≠ .closed) = true := by
    simp only [packList_any_iff, State.frameEnded_pack, Option.any_eq_true, decide_eq_true_eq, Bool.and_eq_true, beq_iff_eq,
      bne_iff_ne, ne_eq]
  simp only [← hbad, ← huse]
  have served : serveRequest (.setStockKind officeLine (k.val + 1) letter1 letter2 threshold) (s.frameEnded officeLine) =
      if (!isCapital letter1 || !isCapital letter2 || decide (2000 < threshold)) = true then
        refuse (s.frameEnded officeLine) .badParameter
      else if (s.frameEnded officeLine).packList.any (fun x => x.2.kind == k && x.2.state != .closed) = true then
        refuse (s.frameEnded officeLine) .inUse
      else accept ((s.putKind k ⟨letter1, letter2, threshold⟩).frameEnded officeLine) [] := by
    simp only [serveRequest, serveSetStockKind, kindOf_succ, State.frameEnded_putKind]
  rw [served]
  congr 1
  split
  · exact Served.finish_of_refuse rfl
  · split
    · exact Served.finish_of_refuse rfl
    · exact Served.finish_of_said rfl

/-! ### SET WINDOW MAP -/

theorem mapPrinterOf_out {x : Nat} (h : 4 < x) : mapPrinterOf x = none := by
  have h0 : x ≠ 0 := by omega
  simp [mapPrinterOf, h0, printerOf_out (.inr h)]

@[simp] theorem mapPrinterOf_numberOf (x : Option PrinterId) : mapPrinterOf (numberOf x) = some x := by
  cases x <;> simp [mapPrinterOf, numberOf]

/-- A window's entry as its two printers: refused where both are one printer. -/
theorem mapEntryOf_numbers (e : MapEntry) : mapEntryOf (numberOf e.primary, numberOf e.alternate) =
    if e.primary = e.alternate ∧ e.primary ≠ none then none else some e := by
  simp only [mapEntryOf, mapPrinterOf_numberOf, Option.isSome_iff_ne_none]

theorem exec_setWindowMap_out (h : s.Ready officeLine) (session : Nat) (entries : Vector (Nat × Nat) 8)
    (hn : session < 1 ∨ 6 < session) :
    exec (.setWindowMap officeLine session entries) s = .next (s.said officeLine 0x24 .badParameter []) := by
  rw [exec_ready _ rfl (by decide) (.inl rfl) h]
  exact congrArg _ (Served.finish_of_refuse (by simp only [serveRequest, serveSetWindowMap, idOf_out hn]))

/-- An entry that names no printer, or one printer twice, is refused with its session. -/
theorem exec_setWindowMap_bad (h : s.Ready officeLine) (session : Nat) (entries : Vector (Nat × Nat) 8)
    (hb : ∃ k : Fin 8, mapEntryOf entries[k] = none) :
    exec (.setWindowMap officeLine session entries) s = .next (s.said officeLine 0x24 .badParameter []) := by
  rw [exec_ready _ rfl (by decide) (.inl rfl) h]
  have hany : entries.toList.any (fun e => (mapEntryOf e).isNone) = true := by
    obtain ⟨k, hk⟩ := hb
    exact List.any_eq_true.mpr ⟨entries[k], by simp, by rw [hk]; rfl⟩
  refine congrArg _ (Served.finish_of_refuse ?_)
  simp only [serveRequest, serveSetWindowMap, hany, if_true]
  split <;> rfl

theorem exec_setWindowMap (h : s.Ready officeLine) (n : Fin 6) (m : Vector MapEntry 8) :
    exec (.setWindowMap officeLine (n.val + 1) (m.map fun e => (numberOf e.primary, numberOf e.alternate))) s = .next (
      if ∃ k : Fin 8, m[k].primary = m[k].alternate ∧ m[k].primary ≠ none then s.said officeLine 0x24 .badParameter []
      else (s.putMap n m).said officeLine 0x24 .ok []) := by
  split <;> rename_i hc
  · obtain ⟨k, hk⟩ := hc
    refine exec_setWindowMap_bad h _ _ ⟨k, ?_⟩
    simp only [Fin.getElem_fin, Vector.getElem_map, mapEntryOf_numbers]
    exact if_pos hk
  · have hgood : ∀ i (hi : i < 8), mapEntryOf (numberOf m[i].primary, numberOf m[i].alternate) = some m[i] := fun i hi => by
      rw [mapEntryOf_numbers]
      exact if_neg fun hk => hc ⟨⟨i, hi⟩, hk⟩
    rw [exec_ready _ rfl (by decide) (.inl rfl) h]
    have hany : (m.map fun e => (numberOf e.primary, numberOf e.alternate)).toList.any (fun e => (mapEntryOf e).isNone) = false := by
      rw [List.any_eq_false]
      intro e he
      rw [Vector.mem_toList_iff, Vector.mem_iff_getElem] at he
      obtain ⟨i, hi, rfl⟩ := he
      simp [hgood]
    refine congrArg _ (Served.finish_of_said (u := s.putMap n m) ?_)
    simp only [serveRequest, serveSetWindowMap, idOf_succ, hany, Bool.false_eq_true, if_false, Fin.getElem_fin, Vector.getElem_map,
      State.frameEnded_putMap]
    congr
    ext i hi
    all_goals simp [hgood]

end

/-- Settles O7: each table request by its owner's checks and effect. -/
theorem officeSetsTables : Obligations.OfficeSetsTables := by
  refine ⟨fun s h => ⟨exec_setThresholds h, exec_setTolerance h, exec_setDiscount_out h, exec_setDiscount h,
    exec_setDenomination_out h, exec_setDenomination h, exec_setStockKind_out h, exec_setStockKind h⟩,
    fun s h => ⟨exec_setWindowMap_out h, fun session entries hb => exec_setWindowMap_bad h session entries ?_,
      exec_setWindowMap h⟩⟩
  obtain ⟨k, hk⟩ := hb
  refine ⟨k, ?_⟩
  rcases hk with hk | hk <;> simp only [mapEntryOf, mapPrinterOf_out hk]
  · split <;> simp_all

end Sys2Proof.Machine

/-! # Packs received, read, audited, taken out, closed and purged -/

namespace Sys2Proof.Machine

open Sys2Proof Sys2Proof.Machine

variable {s : State}

/-! ## RECEIVE PACK (O8) -/

/-- The lowest free slot is the one below which all are taken. -/
theorem freeSlot_eq_some {slot : Slot} (hs : s.pack slot = none) (lower : ∀ a, a < slot → s.pack a ≠ none) :
    s.freeSlot = some slot := by
  have hp := List.pairwise_lt_finRange (n := 64)
  have hm := List.mem_finRange slot
  unfold State.freeSlot
  rw [List.find?_eq_some_iff_append]
  obtain ⟨as, bs, e⟩ := List.append_of_mem hm
  refine ⟨by rw [hs]; rfl, as, bs, e, fun a ha => ?_⟩
  have hlt : a < slot := by
    rw [e, List.pairwise_append] at hp
    exact hp.2.2 a ha slot (by simp)
  simpa [Option.isSome_iff_ne_none] using lower a hlt

theorem freeSlot_eq_none (h : ∀ slot, s.pack slot ≠ none) : s.freeSlot = none := by
  unfold State.freeSlot
  rw [List.find?_eq_none]
  intro slot _
  simpa using h slot

theorem StockKind.isUndefined_iff (x : StockKind) : x.isUndefined = true ↔ x = ⟨0x2D, 0x2D, x.threshold⟩ := by
  obtain ⟨a, b, c⟩ := x
  simp [StockKind.isUndefined]

/-- Serials of a pack of the kind are among those of the new pack. -/
theorem overlap_iff (s : State) (k : Kind) (first count : Nat) :
    s.packList.any (fun x => x.2.kind == k && rangesMeet first count x.2.first x.2.count) = true ↔
      ∃ slot : Slot, (s.pack slot).any (fun x => x.kind = k ∧ first < x.first + x.count ∧ x.first < first + count) = true := by
  simp only [packList_any_iff, rangesMeet, Option.any_eq_true, Bool.and_eq_true, beq_iff_eq, decide_eq_true_eq]

theorem exec_receivePack_out (h : s.Ready officeLine) (kind first count : Nat) (hk : kind < 1 ∨ 8 < kind) :
    exec (.receivePack officeLine kind first count) s = .next (s.said officeLine 0x31 .badParameter []) := by
  rw [exec_ready _ rfl (by decide) (.inl rfl) h]
  exact congrArg _ (Served.finish_of_refuse (by simp only [serveRequest, serveReceivePack, kindOf_out hk]))

theorem exec_receivePack (h : s.Ready officeLine) (k : Kind) (first count : Nat) :
    exec (.receivePack officeLine (k.val + 1) first count) s = .next (
      if (s.kind k).isUndefined = true ∨ 999999 < first ∨ count < 1 ∨ 2000 < count ∨ 1000000 < first + count then
        s.said officeLine 0x31 .badParameter []
      else if s.packList.any (fun x => x.2.kind == k && rangesMeet first count x.2.first x.2.count) = true then
        s.said officeLine 0x31 .overlap []
      else match s.freeSlot with
        | none => s.said officeLine 0x31 .recordsFull []
        | some slot => (s.putPack slot (some (.received k first count s.clock.day))).said officeLine 0x31 .ok
            [byteOf (slot.val + 1)]) := by
  rw [exec_ready _ rfl (by decide) (.inl rfl) h]
  congr 1
  have hlist : (s.frameEnded officeLine).packList = s.packList := rfl
  have hfree : (s.frameEnded officeLine).freeSlot = s.freeSlot := rfl
  have hserve : serveRequest (.receivePack officeLine (k.val + 1) first count) (s.frameEnded officeLine) =
      if (s.kind k).isUndefined = true ∨ 999999 < first ∨ count < 1 ∨ 2000 < count ∨ 1000000 < first + count then
        refuse (s.frameEnded officeLine) .badParameter
      else if s.packList.any (fun x => x.2.kind == k && rangesMeet first count x.2.first x.2.count) = true then
        refuse (s.frameEnded officeLine) .overlap
      else match s.freeSlot with
        | none => refuse (s.frameEnded officeLine) .recordsFull
        | some slot => accept ((s.putPack slot (some (.received k first count s.clock.day))).frameEnded officeLine)
            [byteOf (slot.val + 1)] := by
    simp only [serveRequest, serveReceivePack, kindOf_succ, State.frameEnded_kind, hlist, hfree, State.frameEnded_putPack,
      State.frameEnded_clock] <;> rfl
  rw [hserve]
  split
  · exact Served.finish_of_refuse rfl
  · split
    · exact Served.finish_of_refuse rfl
    · cases s.freeSlot with
      | none => exact Served.finish_of_refuse rfl
      | some slot => exact Served.finish_of_said rfl

/-- Settles O8: the checks of RECEIVE PACK in their order, and the lowest free slot. -/
theorem packIsReceived : Obligations.PackIsReceived := by
  refine fun s h => ⟨exec_receivePack_out h, fun k first count => ⟨fun hbad => ?_, fun hk hf h1 h2 h3 => ⟨fun hmeet => ?_, fun hmiss =>
    ⟨fun full => ?_, fun slot hs lower => ?_⟩⟩⟩⟩ <;> rw [exec_receivePack h]
  · rw [if_pos (by rwa [StockKind.isUndefined_iff])]
  all_goals
    have hgood : ¬ ((s.kind k).isUndefined = true ∨ 999999 < first ∨ count < 1 ∨ 2000 < count ∨ 1000000 < first + count) := by
      rw [StockKind.isUndefined_iff]
      exact not_or.mpr ⟨hk, by omega⟩
    rw [if_neg hgood]
  · rw [if_pos ((overlap_iff ..).mpr hmeet)]
  all_goals
    have hapart : ¬ s.packList.any (fun x => x.2.kind == k && rangesMeet first count x.2.first x.2.count) = true := by
      rw [overlap_iff]
      rintro ⟨a, ha⟩
      have hall := hmiss a
      cases hp : s.pack a with
      | none => rw [hp] at ha; cases ha
      | some x =>
        simp only [hp, Option.any_some, Option.all_some, decide_eq_true_eq] at ha hall
        obtain ⟨hkind, hlo, hhi⟩ := ha
        rcases hall with hne | hle | hle
        · exact hne hkind
        · omega
        · omega
    rw [if_neg hapart]
  · rw [freeSlot_eq_none full]
  · rw [freeSlot_eq_some hs lower]
    rfl

/-! ## READ PACK, READ EXCEPTION, the audit (O12) -/

/-- The first element that passes a test, found behind those that fail it. -/
theorem find?_behind {α : Type} {test : α → Bool} (older : List α) (x : α) (newer : List α)
    (ho : ∀ q ∈ older, test q = false) (hx : test x = true) : (older ++ x :: newer).find? test = some x := by
  rw [List.find?_append, List.find?_eq_none.mpr (fun q hq => by simp [ho q hq])]
  simp [hx]

theorem changeFirst_behind {α : Type} {test : α → Bool} (f : α → α) (older : List α) (x : α) (newer : List α)
    (ho : ∀ q ∈ older, test q = false) (hx : test x = true) :
    changeFirst test f (older ++ x :: newer) = older ++ f x :: newer := by
  induction older with
  | nil => simp [changeFirst, hx]
  | cons a as ih =>
    have ha : test a = false := ho a (by simp)
    simp only [List.cons_append, changeFirst, ha, Bool.false_eq_true, if_false, List.cons.injEq, true_and]
    exact ih fun q hq => ho q (List.mem_cons_of_mem a hq)

theorem packBytes_eq (s : State) (slot : Slot) (k : Pack) : s.packBytes slot k =
    [byteOf (slot.val + 1), byteOf (k.kind.val + 1)] ++ be 3 k.first ++ be 2 k.count ++ be 3 k.cursor ++
      [byteOf k.state.code, byteOf (numberOf k.location)] ++ be 2 k.dayReceived ++ [flagByte k.lowFlag] ++
      be 2 (k.first + k.count - k.cursor) ++ be 2 (s.stock.exceptions.countP (·.slot == slot)) ++
      be 2 (s.stock.exceptions.countP fun r => r.slot == slot && !r.isRead) := by
  simp only [State.packBytes, List.filter_filter, ← List.countP_eq_length_filter, Pack.remaining, Pack.endSerial,
    List.cons_append, List.nil_append, List.append_assoc, Bool.and_comm]

/-- A slot that is out of range, or free, is refused; else the pack in it is served. -/
theorem exec_readPack (h : s.Ready officeLine) (slot : Nat) : exec (.readPack officeLine slot) s = .next (
    match slotOf slot with
    | none => s.said officeLine 0x36 .badParameter []
    | some slot => match s.pack slot with
      | none => s.said officeLine 0x36 .notFound []
      | some k => s.said officeLine 0x36 .ok (s.packBytes slot k)) := by
  rw [exec_ready _ rfl (by decide) (.inl rfl) h]
  congr 1
  simp only [serveRequest, serveReadPack]
  cases slotOf slot with
  | none => exact Served.finish_of_refuse rfl
  | some slot =>
    simp only [State.frameEnded_pack]
    cases s.pack slot with
    | none => exact Served.finish_of_refuse rfl
    | some k => exact Served.finish_of_said rfl

theorem exec_readException (h : s.Ready officeLine) : exec (.readException officeLine) s = .next (
    match s.stock.exceptions.find? (!·.isRead) with
    | none => s.said officeLine 0x37 .notFound []
    | some r => (s.putStock { s.stock with
        exceptions := changeFirst (!·.isRead) (fun r => { r with isRead := true }) s.stock.exceptions }).said
          officeLine 0x37 .ok r.bytes) := by
  rw [exec_ready _ rfl (by decide) (.inl rfl) h]
  congr 1
  simp only [serveRequest, serveReadException, State.frameEnded_stock]
  cases s.stock.exceptions.find? (!·.isRead) with
  | none => exact Served.finish_of_refuse rfl
  | some r => exact Served.finish_of_said rfl

theorem exec_auditSet (h : s.Ready officeLine) (slot serial : Nat) : exec (.auditSet officeLine slot serial) s = .next (
    match slotOf slot with
    | none => s.said officeLine 0x38 .badParameter []
    | some slot => match s.pack slot with
      | none => s.said officeLine 0x38 .notFound []
      | some k =>
        if serial < k.first ∨ k.first + k.count - 1 < serial then s.said officeLine 0x38 .badParameter []
        else (s.putAudit (some (slot, serial))).said officeLine 0x38 .ok []) := by
  rw [exec_ready _ rfl (by decide) (.inl rfl) h]
  congr 1
  simp only [serveRequest, serveAuditSet]
  cases slotOf slot with
  | none => exact Served.finish_of_refuse rfl
  | some slot =>
    simp only [State.frameEnded_pack]
    cases s.pack slot with
    | none => exact Served.finish_of_refuse rfl
    | some k =>
      simp only [Pack.last]
      by_cases hc : serial < k.first ∨ k.first + k.count - 1 < serial
      · simp only [hc, if_true]
        exact Served.finish_of_refuse rfl
      · simp only [hc, if_false]
        exact Served.finish_of_said rfl

theorem exec_auditNext_unset (h : s.Ready officeLine) (ha : s.audit = none) :
    exec (.auditNext officeLine) s = .next (s.said officeLine 0x39 .wrongState []) := by
  rw [exec_ready _ rfl (by decide) (.inl rfl) h]
  refine congrArg _ (Served.finish_of_refuse ?_)
  simp only [serveRequest, serveAuditNext, State.frameEnded_audit, ha]

/-- AUDIT NEXT replies with the disposition of the serial at the cursor, and moves on until the pack's last (R24, R25). -/
theorem exec_auditNext (h : s.Ready officeLine) {slot : Slot} {serial : Nat} (ha : s.audit = some (slot, serial)) {k : Pack}
    (hk : s.pack slot = some k) : exec (.auditNext officeLine) s = .next (
      let d := s.disposition slot k serial
      let atEnd := decide (k.first + k.count - 1 ≤ serial)
      (if atEnd then s else s.putAudit (some (slot, serial + 1))).said officeLine 0x39 .ok
        (byteOf (slot.val + 1) :: be 3 serial ++ byteOf d.1 :: be 3 d.2.1 ++ be 2 d.2.2 ++ [flagByte atEnd])) := by
  rw [exec_ready _ rfl (by decide) (.inl rfl) h]
  congr 1
  have hd : (s.frameEnded officeLine).disposition slot k serial = s.disposition slot k serial := rfl
  refine Served.finish_of_said ?_
  simp only [serveRequest, serveAuditNext, State.frameEnded_audit, ha, State.frameEnded_pack, hk, hd, Pack.last]
  by_cases hc : k.first + k.count - 1 ≤ serial
  · simp only [hc, decide_true, if_true]
  · simp only [hc, decide_false, Bool.false_eq_true, if_false, State.frameEnded_putAudit]

/-- Settles O12: each request by its owner's checks; what is read or covered first is found behind what is not. -/
theorem stockIsReadAndAudited : Obligations.StockIsReadAndAudited := by
  refine ⟨fun s h => ⟨fun slot hs => ?_, fun slot => ⟨fun hn => ?_, fun k hk => ?_⟩, fun hr => ?_, fun older r newer he ho hr => ?_⟩,
    fun s h => ⟨fun slot serial hs => ?_, fun slot serial => ⟨fun hn => ?_, fun k hk => ?_⟩, exec_auditNext_unset h,
      fun slot serial ha k hk => ⟨fun hc => ?_, fun hc hno => ?_, fun older r newer he ho hr hc => ?_⟩⟩⟩
  · rw [exec_readPack h, slotOf_out hs]
  · rw [exec_readPack h, slotOf_succ]; simp only [hn]
  · rw [exec_readPack h, slotOf_succ]; simp only [hk, packBytes_eq]
  · have hfind : s.stock.exceptions.find? (!·.isRead) = none := List.find?_eq_none.mpr fun r hm => by simp [hr r hm]
    rw [exec_readException h, hfind]
  · have hold : ∀ q ∈ older, (!q.isRead) = false := fun q hq => by simp [ho q hq]
    rw [exec_readException h, he, find?_behind (test := (!·.isRead)) older r newer hold (by simp [hr]),
      changeFirst_behind _ older r newer hold (by simp [hr])]
  · rw [exec_auditSet h, slotOf_out hs]
  · rw [exec_auditSet h, slotOf_succ]; simp only [hn]
  · rw [exec_auditSet h, slotOf_succ]; simp only [hk]
  all_goals rw [exec_auditNext h ha hk]
  · simp only [State.disposition, if_pos hc]
    rfl
  · have hfind : s.stock.exceptions.find? (·.covers slot serial) = none := List.find?_eq_none.mpr fun r hm => by
      have := hno r hm
      simpa [ExceptionRecord.covers] using this
    simp only [State.disposition, if_neg (Nat.not_le.mpr hc), hfind]
    rfl
  · have hfind : s.stock.exceptions.find? (·.covers slot serial) = some r := by
      rw [he]
      exact find?_behind older r newer (fun q hq => by simpa [ExceptionRecord.covers] using ho q hq)
        (by simpa [ExceptionRecord.covers, and_assoc] using hr)
    simp only [State.disposition, if_neg (Nat.not_le.mpr hc), hfind]
end Sys2Proof.Machine

/-! # Packs unloaded, closed and purged; VOID and DIVERT -/

namespace Sys2Proof.Machine

open Sys2Proof Sys2Proof.Machine

/-! ## A frame's end and the records -/

section
variable (s : State) (l : Line)

@[simp] theorem State.frameEnded_noteRecords : (s.frameEnded l).noteRecords = s.noteRecords.frameEnded l := by
  simp only [State.noteRecords, State.frameEnded_unreserved, State.frameEnded_stock, State.frameEnded_putStock, State.frameEnded_raise]
  exact (apply_ite (State.frameEnded · l) ..).symm

@[simp] theorem State.frameEnded_newRecord (slot : Slot) (first span : Nat) (reason : Reason) (session : Option SessionId)
    (clerk : Option Nat) : (s.frameEnded l).newRecord slot first span reason session clerk =
      s.newRecord slot first span reason session clerk := rfl

@[simp] theorem State.frameEnded_addRecord (r : ExceptionRecord) : (s.frameEnded l).addRecord r = (s.addRecord r).frameEnded l := by
  simp only [State.addRecord, State.frameEnded_stock, State.frameEnded_putStock, State.frameEnded_noteRecords]

@[simp] theorem State.frameEnded_voidRecords (n : SessionId) (cs : List Coupon) :
    (s.frameEnded l).voidRecords n cs = (s.voidRecords n cs).frameEnded l := by
  induction cs generalizing s with
  | nil => rfl
  | cons c cs ih => simp only [State.voidRecords, State.frameEnded_newRecord, State.frameEnded_session, State.frameEnded_addRecord, ih]

@[simp] theorem State.frameEnded_dropJob (p : PrinterId) : (s.frameEnded l).dropJob p = (s.dropJob p).frameEnded l := by
  simp only [State.dropJob, State.frameEnded_inProgress]
  split
  · rfl
  · simp only [State.frameEnded_putProgress, State.frameEnded_stock, State.frameEnded_putStock, State.frameEnded_noteRecords]

end

variable {s : State}

/-! ## UNLOAD PACK (O10) -/

theorem loadedPack_none {p : PrinterId} (h : s.loaded p = none) : s.loadedPack p = none := by
  simp only [State.loadedPack, h]

theorem loadedPack_some {p : PrinterId} {slot : Slot} {k : Pack} (h : s.loaded p = some slot) (hk : s.pack slot = some k) :
    s.loadedPack p = some (slot, k) := by
  simp only [State.loadedPack, h, hk, Option.map_some]

theorem midForm_iff {p : PrinterId} : s.midForm p = true ↔
    (s.ctl p).state.busy = true ∧ (s.inProgress p).map (·.job.state) = some .printing := by
  unfold State.midForm
  cases s.inProgress p <;> simp

/-- Settles O10. -/
theorem unloadPackTakesOut : Obligations.UnloadPackTakesOut := by
  refine fun s h => ⟨fun printer hp => ?_, fun p => ⟨fun hl => ?_, fun slot hl k hk => ?_⟩⟩ <;>
    rw [exec_ready _ rfl (by decide) (.inl rfl) h] <;> congr 1
  · exact Served.finish_of_refuse (by simp only [serveRequest, serveUnloadPack, printerOf_out hp])
  · exact Served.finish_of_refuse (by
      simp only [serveRequest, serveUnloadPack, printerOf_succ, State.frameEnded_loadedPack, loadedPack_none hl])
  · have hserve : serveRequest (.unloadPack officeLine (p.val + 1)) (s.frameEnded officeLine) =
        if s.midForm p = true then refuse (s.frameEnded officeLine) .inProgress
        else if (s.ctl p).state.busy = true then refuse (s.frameEnded officeLine) .wrongState
        else accept ((((s.putPack slot (some k.unloaded)).putLoaded p none).putCtl p
          { s.ctl p with position := .unknown }).frameEnded officeLine) (byteOf (slot.val + 1) :: be 3 k.cursor) := by
      simp only [serveRequest, serveUnloadPack, printerOf_succ, State.frameEnded_loadedPack, loadedPack_some hl hk,
        State.frameEnded_midForm, State.frameEnded_ctl, State.frameEnded_putPack, State.frameEnded_putLoaded, State.mapCtl,
        State.frameEnded_putCtl, State.putLoaded_ctl, State.putPack_ctl]
      rfl
    rw [hserve]
    simp only [midForm_iff]
    by_cases hb : (s.ctl p).state.busy = true
    · by_cases hj : (s.inProgress p).map (·.job.state) = some .printing
      · simp only [hb, hj, and_self, if_true]
        exact Served.finish_of_refuse rfl
      · simp only [hb, hj, and_false, if_true, if_false]
        exact Served.finish_of_refuse rfl
    · simp only [hb, false_and, if_false, Bool.false_eq_true]
      exact Served.finish_of_accept rfl

/-! ## CLOSE PACK and PURGE PACK (O11) -/

/-- The records-low condition follows the records that are there (R22). -/
theorem noteRecords_putStock (s : State) (x : Stock) (hx : x.recordsLow = s.stock.recordsLow) : (s.putStock x).noteRecords =
    let low := decide (256 - (x.exceptions.length + x.reservation) < 32)
    let u := s.putStock { x with recordsLow := low }
    if low = true ∧ s.stock.recordsLow = false then u.raise .recordsLow .nothing else u := by
  simp only [State.noteRecords, State.unreserved, exceptionCapacity, State.putStock_stock, State.putStock_putStock, hx,
    Bool.and_eq_true, Bool.not_eq_true']
  congr

theorem closePack_served {slot : Slot} {k : Pack} (hk : s.pack slot = some k) :
    serveRequest (.closePack officeLine (slot.val + 1)) (s.frameEnded officeLine) =
      if k.state = .loaded ∨ k.state = .closed ∨ (k.state = .spent ∧ k.location.isSome = true) then
        refuse (s.frameEnded officeLine) .wrongState
      else if 0 < k.first + k.count - k.cursor ∧ 256 - (s.stock.exceptions.length + s.stock.reservation) < 1 then
        refuse (s.frameEnded officeLine) .recordsFull
      else accept (((if 0 < k.first + k.count - k.cursor then
          s.addRecord (s.newRecord slot k.cursor (k.first + k.count - k.cursor) .returned none none) else s).putPack slot
            (some { k with cursor := k.first + k.count, state := .closed })).frameEnded officeLine)
          (be 2 (k.first + k.count - k.cursor)) := by
  simp only [serveRequest, serveClosePack, slotOf_succ, State.frameEnded_pack, hk, State.frameEnded_newRecord, State.frameEnded_addRecord, Pack.remaining, Pack.endSerial, State.unreserved, exceptionCapacity,
    State.frameEnded_stock]
  split
  · rfl
  · split
    · rfl
    · split <;> rfl

/-- The record of a pack's remaining count is written, if any remain (R15). -/
theorem returned_record (s : State) (slot : Slot) (cursor left : Nat) :
    (if 0 < left then s.addRecord (s.newRecord slot cursor left .returned none none) else s) =
      let free := 256 - (s.stock.exceptions.length + s.stock.reservation)
      let u := if 0 < left then
          s.putStock { s.stock with
            exceptions := s.stock.exceptions ++ [⟨slot, cursor, left, .returned, none, none, ⟨s.clock.now, s.clock.day⟩, false⟩]
            recordsLow := decide (free - 1 < 32) }
        else s
      if 0 < left ∧ free - 1 < 32 ∧ s.stock.recordsLow = false then u.raise .recordsLow .nothing else u := by
  by_cases hl : 0 < left
  · have he : 256 - (s.stock.exceptions.length + 1 + s.stock.reservation) =
        256 - (s.stock.exceptions.length + s.stock.reservation) - 1 := by omega
    simp only [hl, if_true, true_and, State.addRecord, noteRecords_putStock, List.length_append, List.length_singleton, he,
      decide_eq_true_eq, State.newRecord, State.stampNow]
  · simp only [hl, if_false, false_and]

theorem exec_closePack (h : s.Ready officeLine) {slot : Slot} {k : Pack} (hk : s.pack slot = some k) :
    exec (.closePack officeLine (slot.val + 1)) s = .next (
      let left := k.first + k.count - k.cursor
      let free := 256 - (s.stock.exceptions.length + s.stock.reservation)
      if k.state = .loaded ∨ k.state = .closed ∨ (k.state = .spent ∧ k.location ≠ none) then
        s.said officeLine 0x34 .wrongState []
      else if 0 < left ∧ free < 1 then s.said officeLine 0x34 .recordsFull []
      else
        let u := if 0 < left then
            s.putStock { s.stock with
              exceptions := s.stock.exceptions ++
                [⟨slot, k.cursor, left, .returned, none, none, ⟨s.clock.now, s.clock.day⟩, false⟩]
              recordsLow := decide (free - 1 < 32) }
          else s
        let u := if 0 < left ∧ free - 1 < 32 ∧ s.stock.recordsLow = false then u.raise .recordsLow .nothing else u
        ((u.putPack slot (some { k with cursor := k.first + k.count, state := .closed })).answered officeLine 0x34 .ok
          (be 2 left)).pumpAll) := by
  rw [exec_ready _ rfl (by decide) (.inl rfl) h, closePack_served hk]
  congr 1
  simp only [ne_eq, ← Option.isSome_iff_ne_none]
  split
  · exact Served.finish_of_refuse rfl
  · split
    · exact Served.finish_of_refuse rfl
    · rw [← returned_record s slot k.cursor (k.first + k.count - k.cursor)]
      exact Served.finish_of_accept rfl

/-! ### PURGE PACK -/

theorem journalNames_iff (s : State) (slot : Slot) : s.journalNames slot = true ↔
    ∃ n : SessionId, (s.session n).state ≠ .closed ∧
      ∃ e ∈ (s.session n).journal, e.isVoided = false ∧ ∃ c ∈ e.coupons, c.slot = slot := by
  simp only [State.journalNames, List.any_eq_true, Bool.and_eq_true, bne_iff_ne, Bool.not_eq_true', beq_iff_eq,
    Vector.mem_toList_iff, Vector.mem_iff_getElem]
  constructor
  · rintro ⟨x, ⟨i, hi, rfl⟩, hx⟩; exact ⟨⟨i, hi⟩, hx⟩
  · rintro ⟨n, hn⟩; exact ⟨_, ⟨n.val, n.isLt, rfl⟩, hn⟩

theorem mem_printers (p : PrinterId) : p ∈ printers := by
  unfold printers; fin_cases p <;> simp

theorem jobNames_iff (s : State) (slot : Slot) : s.jobNames slot = true ↔
    ∃ p : PrinterId, (s.inProgress p).any (fun g => g.job.printed.any (·.slot == slot)) = true := by
  have named : ∀ p, (match s.inProgress p with
      | some g => g.job.printed.any (·.slot == slot)
      | none => false) = (s.inProgress p).any (fun g => g.job.printed.any (·.slot == slot)) := by
    intro p; cases s.inProgress p <;> rfl
  simp only [State.jobNames, List.any_eq_true]
  constructor
  · rintro ⟨p, -, hp⟩; exact ⟨p, (named p).symm.trans hp⟩
  · rintro ⟨p, hp⟩; exact ⟨p, mem_printers p, (named p).trans hp⟩

/-- The records of a purged pack's slot are those that are not kept. -/
theorem removed_length (rs : List ExceptionRecord) (slot : Slot) :
    (rs.filter (·.slot == slot)).length = rs.length - (rs.filter (·.slot != slot)).length := by
  have := List.length_eq_length_filter_add (l := rs) (·.slot == slot)
  have hne : (rs.filter fun r => !(r.slot == slot)) = rs.filter (·.slot != slot) := rfl
  rw [hne] at this
  omega

theorem clearAudit_eq (audit : Option (Slot × Nat)) (slot : Slot) :
    clearAudit audit slot = if audit.map (·.1) = some slot then none else audit := by
  cases audit <;> simp [clearAudit]

theorem purgePack_served {slot : Slot} {k : Pack} (hk : s.pack slot = some k) :
    serveRequest (.purgePack officeLine (slot.val + 1)) (s.frameEnded officeLine) =
      if k.state ≠ .closed then refuse (s.frameEnded officeLine) .wrongState
      else if s.stock.exceptions.any (fun r => r.slot == slot && !r.isRead) = true then refuse (s.frameEnded officeLine) .inUse
      else if (s.journalNames slot || s.jobNames slot) = true then refuse (s.frameEnded officeLine) .inUse
      else accept ((((s.putStock { s.stock with
          packs := s.stock.packs.set slot none, exceptions := s.stock.exceptions.filter (·.slot != slot) }).noteRecords).putAudit
            (clearAudit s.audit slot)).frameEnded officeLine) (be 2 (s.stock.exceptions.filter (·.slot == slot)).length) := by
  have h1 : (s.frameEnded officeLine).journalNames slot = s.journalNames slot := rfl
  have h2 : (s.frameEnded officeLine).jobNames slot = s.jobNames slot := rfl
  simp only [serveRequest, servePurgePack, slotOf_succ, State.frameEnded_pack, hk, State.frameEnded_stock, h1, h2,
    State.frameEnded_putStock, State.frameEnded_noteRecords, State.frameEnded_audit, State.frameEnded_putAudit]

theorem exec_purgePack (h : s.Ready officeLine) {slot : Slot} {k : Pack} (hk : s.pack slot = some k) :
    exec (.purgePack officeLine (slot.val + 1)) s = .next (
      if k.state ≠ .closed then s.said officeLine 0x35 .wrongState []
      else if (∃ r ∈ s.stock.exceptions, r.slot = slot ∧ r.isRead = false) ∨
          (∃ n : SessionId, (s.session n).state ≠ .closed ∧
            ∃ e ∈ (s.session n).journal, e.isVoided = false ∧ ∃ c ∈ e.coupons, c.slot = slot) ∨
          (∃ p : PrinterId, (s.inProgress p).any (fun g => g.job.printed.any (·.slot == slot)) = true) then
        s.said officeLine 0x35 .inUse []
      else
        let kept := s.stock.exceptions.filter (·.slot != slot)
        let low := decide (256 - (kept.length + s.stock.reservation) < 32)
        let u := s.putStock { s.stock with packs := s.stock.packs.set slot none, exceptions := kept, recordsLow := low }
        let u := if low = true ∧ s.stock.recordsLow = false then u.raise .recordsLow .nothing else u
        ((u.putAudit (if s.audit.map (·.1) = some slot then none else s.audit)).answered officeLine 0x35 .ok
          (be 2 (s.stock.exceptions.length - kept.length))).afterEvent) := by
  have hunread : s.stock.exceptions.any (fun r => r.slot == slot && !r.isRead) = true ↔
      ∃ r ∈ s.stock.exceptions, r.slot = slot ∧ r.isRead = false := by
    simp only [List.any_eq_true, Bool.and_eq_true, beq_iff_eq, Bool.not_eq_true']
  rw [exec_ready _ rfl (by decide) (.inl rfl) h, purgePack_served hk]
  simp only [← hunread, ← journalNames_iff, ← jobNames_iff, ← Bool.or_eq_true (s.journalNames slot)]
  congr 1
  split
  · exact Served.finish_of_refuse rfl
  · by_cases hu : s.stock.exceptions.any (fun r => r.slot == slot && !r.isRead) = true
    · simp only [hu, if_true, true_or]
      exact Served.finish_of_refuse rfl
    · simp only [hu, if_false, false_or, Bool.false_eq_true]
      split
      · exact Served.finish_of_refuse rfl
      · rw [← clearAudit_eq, ← removed_length]
        refine (Served.finish_of_accept rfl).trans ?_
        rw [noteRecords_putStock s { s.stock with
          packs := s.stock.packs.set slot none, exceptions := s.stock.exceptions.filter (·.slot != slot) } rfl]
        rfl

/-- Settles O11: each request by its owner's checks, with the record written or the records removed. -/
theorem packsAreClosedAndPurged : Obligations.PacksAreClosedAndPurged := by
  refine ⟨fun s h => ⟨fun slot hs => ?_, fun slot => ⟨fun hn => ?_, fun k hk => exec_closePack h hk⟩⟩,
    fun s h => ⟨fun slot hs => ?_, fun slot => ⟨fun hn => ?_, fun k hk => exec_purgePack h hk⟩⟩⟩ <;>
    rw [exec_ready _ rfl (by decide) (.inl rfl) h] <;> refine congrArg _ (Served.finish_of_refuse ?_)
  · simp only [serveRequest, serveClosePack, slotOf_out hs]
  · simp only [serveRequest, serveClosePack, slotOf_succ, State.frameEnded_pack, hn]
  · simp only [serveRequest, servePurgePack, slotOf_out hs]
  · simp only [serveRequest, servePurgePack, slotOf_succ, State.frameEnded_pack, hn]

/-! ## VOID (O4) -/

theorem exec_void {l : Line} (h : s.Ready l) (number : Nat) :
    exec (.void l number) s = .next ((serveVoid l number (s.frameEnded l)).finish l 0x11 State.closeLines) := by
  rw [exec_ready (.void l number) rfl (by decide) (.inr (by decide)) h]
  rfl

/-- The records of a VOID, and the records-low condition behind them (R22, R57). -/
theorem voided_records (s : State) (n : SessionId) (cs : List Coupon) :
    s.voidRecords n cs =
      let records := cs.map fun c =>
        (⟨c.slot, c.serial, 1, .voided, some n, (s.session n).clerk, ⟨s.clock.now, s.clock.day⟩, false⟩ : ExceptionRecord)
      let lowAfter (m : Nat) := decide (256 - (s.stock.exceptions.length + m + s.stock.reservation) < 32)
      let u := if cs.length = 0 then s
        else s.putStock { s.stock with exceptions := s.stock.exceptions ++ records, recordsLow := lowAfter cs.length }
      if 0 < cs.length ∧ lowAfter cs.length = true ∧ (s.stock.recordsLow && lowAfter 1) = false then
        u.raise .recordsLow .nothing else u := by
  cases cs with
  | nil => rfl
  | cons c cs =>
    rw [State.voidRecords_eq n (c :: cs) s (by simp)]
    simp only [List.length_cons, Nat.succ_ne_zero, if_false, Nat.zero_lt_succ, true_and]
    rfl

/-- A session's entry found behind others of other numbers. -/
theorem journal_find {x : Session} {newer older : List JournalEntry} {e : JournalEntry} (hj : x.journal = newer ++ e :: older)
    (hd : ∀ f ∈ newer ++ older, f.issue ≠ e.issue) :
    x.journal.find? (·.issue == e.issue) = some e ∧
      voidEntry x.journal e.issue = newer ++ { e with isVoided := true } :: older := by
  have hn : ∀ f ∈ newer, (f.issue == e.issue) = false := fun f hf => by
    simpa using hd f (List.mem_append_left _ hf)
  rw [hj]
  exact ⟨find?_behind newer e older hn (by simp), changeFirst_behind _ newer e older hn (by simp)⟩

/-- The session behind a VOID, in the figures of R57. -/
theorem voided_eq {x : Session} {newer older : List JournalEntry} {e : JournalEntry} (hj : x.journal = newer ++ e :: older)
    (hd : ∀ f ∈ newer ++ older, f.issue ≠ e.issue) :
    x.voided e = { x.setTally e.tender { x.tally e.tender with
        voidedTotal := (x.tally e.tender).voidedTotal + e.total, voidedCount := (x.tally e.tender).voidedCount + 1 } with
      journal := newer ++ { e with isVoided := true } :: older
      counters := x.counters.set e.kind
        { x.counters[e.kind] with voided := min (x.counters[e.kind].voided + e.coupons.length) 9999999 } } := by
  rw [Session.voided, (journal_find hj hd).2]
  rfl

/-- The effect of a VOID, its checks passed (R57, R60, R62). -/
theorem void_effect (s : State) (l : Line) (e : JournalEntry) :
    let x := s.session l
    let u := s.voidRecords l e.coupons
    (if e.tender = .cash then ((u.putSession l (x.voided e)).updateEstimate l (x.estimate - e.total) x.drawer).pulse l
      else u.putSession l (x.voided e)) =
    if e.tender = .cash then
      let left := x.estimate - e.total
      ((u.putSession l { x.voided e with estimate := left, drawer := drawerStateOf s.till.high s.till.low left }).drawerNoticed
        l x.drawer).putDrawer l true
    else u.putSession l (x.voided e) := by
  have hkeep : ∀ (cs : List Coupon) (t : State), (t.voidRecords l cs).till = t.till := fun cs => by
    induction cs with
    | nil => exact fun _ => rfl
    | cons c cs ih => exact fun t => (ih _).trans (State.addRecord_till ..)
  dsimp only
  rw [State.updateEstimate_eq, hkeep]
  rfl

theorem void_served {l : Line} {e : JournalEntry} {newer older : List JournalEntry} (ho : (s.session l).state = .opened)
    (hj : (s.session l).journal = newer ++ e :: older) (hd : ∀ f ∈ newer ++ older, f.issue ≠ e.issue) (h1 : 1 ≤ e.issue)
    (h2 : e.issue ≤ 99999) : serveVoid l e.issue (s.frameEnded l) =
      if e.isVoided = true then refuse (s.frameEnded l) .wrongState
      else if 256 - (s.stock.exceptions.length + s.stock.reservation) ≤ e.coupons.length then refuse (s.frameEnded l) .recordsFull
      else if e.tender = .cash ∧ (s.session l).estimate < e.total then refuse (s.frameEnded l) .drawerShort
      else accept (State.frameEnded (if e.tender = .cash then
          (((s.voidRecords l e.coupons).putSession l ((s.session l).voided e)).updateEstimate l
            ((s.session l).estimate - e.total) (s.session l).drawer).pulse l
        else (s.voidRecords l e.coupons).putSession l ((s.session l).voided e)) l)
          (be 3 e.issue ++ be 4 e.total ++ [byteOf e.tender.code]) := by
  have hrange : ¬ (e.issue < 1 ∨ 99999 < e.issue) := by omega
  simp only [serveVoid, State.frameEnded_session, ho, hrange, if_false, (journal_find hj hd).1, State.frameEnded_voidRecords,
    State.frameEnded_putSession, State.frameEnded_updateEstimate, State.frameEnded_pulse, State.frameEnded_stock,
    State.unreserved, exceptionCapacity]
  by_cases hc : e.tender = .cash <;> simp only [hc, if_true, if_false]

/-- Settles O4: the checks of VOID in their order, and its effect on the records, the entry, the tally and the drawer. -/
theorem voidUndoesIssue : Obligations.VoidUndoesIssue := by
  refine ⟨fun s l number h => ⟨fun hs => ?_, fun hs => ?_, fun hs hn => ?_, fun hs h1 h2 hn => ?_⟩,
    fun s l h ho newer e older hj hd h1 h2 => ?_⟩ <;> rw [exec_void h] <;> congr 1
  · exact Served.finish_of_refuse (by simp only [serveVoid, State.frameEnded_session, hs])
  · exact Served.finish_of_refuse (by simp only [serveVoid, State.frameEnded_session, hs])
  · exact Served.finish_of_refuse (by simp only [serveVoid, State.frameEnded_session, hs, hn, if_true])
  · have hfind : (s.session l).journal.find? (·.issue == number) = none := List.find?_eq_none.mpr fun e he => by simpa using hn e he
    have hrange : ¬ (number < 1 ∨ 99999 < number) := by omega
    exact Served.finish_of_refuse (by simp only [serveVoid, State.frameEnded_session, hs, hrange, if_false, hfind])
  · rw [void_served ho hj hd h1 h2]
    split
    · exact Served.finish_of_refuse rfl
    · split
      · exact Served.finish_of_refuse rfl
      · split
        · exact Served.finish_of_refuse rfl
        · refine (Served.finish_of_accept rfl).trans ?_
          rw [void_effect s l e, voided_records s l e.coupons, voided_eq hj hd]
          rfl

end Sys2Proof.Machine

/-! # DIVERT -/

namespace Sys2Proof.Machine

open Sys2Proof Sys2Proof.Machine

/-! ## A frame's end and the lanes -/

section
variable (s : State) (l : Line)

@[simp] theorem State.frameEnded_divertSuspended (a b : PrinterId) :
    (s.frameEnded l).divertSuspended a b = (s.divertSuspended a b).frameEnded l := by
  simp only [State.divertSuspended, show (s.frameEnded l).divertible a b = s.divertible a b from rfl]
  split
  · rfl
  · simp only [State.frameEnded_dropJob, State.frameEnded_lane, State.frameEnded_putLane]

@[simp] theorem State.frameEnded_moveLanes (a b : PrinterId) :
    (s.frameEnded l).moveLanes a b = (s.moveLanes a b).frameEnded l := rfl

@[simp] theorem State.frameEnded_raiseDiverted (ns : List SessionId) :
    (s.frameEnded l).raiseDiverted ns = (s.raiseDiverted ns).frameEnded l := by
  unfold State.raiseDiverted
  induction ns generalizing s with
  | nil => rfl
  | cons n ns ih => simp only [List.foldl_cons, State.frameEnded_raise, ih]

/-- A lane written twice, another's between, holds what is written last. -/
theorem State.putLane_between (a b : PrinterId) (x y z : Lanes) :
    ((s.putLane b x).putLane a y).putLane b z = (s.putLane a y).putLane b z := by
  have : (((s.lanes.set b x).set a y).set b z) = (s.lanes.set a y).set b z := by
    refine Vector.ext fun i hi => ?_
    simp only [Vector.getElem_set]
    split
    · rfl
    · split <;> simp_all
  simp only [State.putLane, this]

end

variable {s : State} {a b : PrinterId}

theorem raiseDiverted_frame {α : Type} (f : State → α) (hf : ∀ t c x, f (State.raise t c x) = f t) (ns : List SessionId) :
    ∀ t : State, f (t.raiseDiverted ns) = f t := by
  unfold State.raiseDiverted
  induction ns with
  | nil => exact fun _ => rfl
  | cons n ns ih => exact fun t => (ih _).trans (hf t _ _)

/-- What DIVERT leaves on a printer: its lanes' rest, and its job in progress if suspended (R101). -/
theorem leftOn_moveLanes (h : a ≠ b) (t : State) (ns : List SessionId) : ((t.moveLanes a b).raiseDiverted ns).leftOn a =
    ((t.lane a).office.length - (t.divertLanes a b).1.length) + ((t.lane a).window.length - (t.divertLanes a b).2.length) +
      (if (t.inProgress a).any (·.job.state == .suspended) = true then 1 else 0) := by
  have hl : ∀ u : State, (u.raiseDiverted ns).lane a = u.lane a := fun u =>
    raiseDiverted_frame (State.lane · a) (fun t c x => congrArg (·[a]) (State.raise_lanes t c x)) ns u
  have hp : ∀ u : State, (u.raiseDiverted ns).inProgress a = u.inProgress a := fun u =>
    raiseDiverted_frame (State.inProgress · a) (fun t c x => congrArg (·[a]) (State.raise_progress t c x)) ns u
  simp only [State.leftOn, hl, hp, State.moveLanes, State.putLane_lane, h, if_false, if_true, State.putLane_inProgress,
    List.length_drop]
  cases t.inProgress a <;> simp

/-- The suspended job that DIVERT takes, as a list of none or one. -/
theorem divertible_toList (s : State) (a b : PrinterId) : (s.divertible a b).toList =
    ((s.inProgress a).toList.map (·.job)).filter fun j => j.state = .suspended ∧ j.printed = [] ∧
      (if j.session = officeLine then (s.lane b).office.length < 2 else (s.lane b).window.length < 8) := by
  unfold State.divertible
  cases s.inProgress a with
  | none => rfl
  | some g =>
    have room : s.hasRoom b g.job.session = true ↔
        (if g.job.session = officeLine then (s.lane b).office.length < 2 else (s.lane b).window.length < 8) := by
      unfold State.hasRoom State.officeRoom State.windowRoom
      split <;> simp
    simp only [room, Option.toList_some, List.map_cons, List.map_nil, List.filter_cons, List.filter_nil, decide_eq_true_eq]
    exact apply_ite Option.toList _ _ _

theorem divertible_some {j : Job} (h : s.divertible a b = some j) :
    ∃ g, s.inProgress a = some g ∧ g.job = j ∧ j.state = .suspended := by
  unfold State.divertible at h
  split at h
  · cases h
  · rename_i g hg
    split at h
    · rename_i hc
      cases h
      exact ⟨g, hg, rfl, hc.1⟩
    · cases h

theorem divert_served (s : State) (a b : PrinterId) :
    serveRequest (.divert officeLine (a.val + 1) (b.val + 1)) (s.frameEnded officeLine) =
      if a = b ∨ (s.config a).kind = none ∨ (s.config b).kind ≠ (s.config a).kind then refuse (s.frameEnded officeLine) .badParameter
      else
        let s1 := s.divertSuspended a b
        let moved := s1.divertLanes a b
        let sessions := (s.divertible a b).toList.map (·.session) ++ (moved.1 ++ moved.2).map (·.session)
        accept (((s1.moveLanes a b).raiseDiverted sessions).frameEnded officeLine)
          [byteOf sessions.length, byteOf (((s1.moveLanes a b).raiseDiverted sessions).leftOn a)] := by
  have h1 : (s.frameEnded officeLine).divertible a b = s.divertible a b := rfl
  have h2 : ∀ t : State, (t.frameEnded officeLine).divertLanes a b = t.divertLanes a b := fun _ => rfl
  have h3 : ∀ t : State, (t.frameEnded officeLine).leftOn a = t.leftOn a := fun _ => rfl
  simp only [serveRequest, serveDivert, printerOf_succ, State.frameEnded_config, State.frameEnded_divertSuspended, h1, h2,
    State.frameEnded_moveLanes, State.frameEnded_raiseDiverted, h3]

/-- The job that leaves its printer suspended: its record cleared, its reservation released, the records-low condition
following (R21, R22, R101). -/
theorem dropJob_of_inProgress {g : Progress} (hg : s.inProgress a = some g) : s.dropJob a =
    let reserved := s.stock.reservation - g.job.reservation
    let low := decide (256 - (s.stock.exceptions.length + reserved) < 32)
    let u := (s.putProgress a none).putStock { s.stock with reservation := reserved, recordsLow := low }
    if low = true ∧ s.stock.recordsLow = false then u.raise .recordsLow .nothing else u := by
  simp only [State.dropJob, hg]
  exact noteRecords_putStock (s.putProgress a none) { s.stock with reservation := s.stock.reservation - g.job.reservation } rfl

theorem dropJob_lane (q : PrinterId) : (s.dropJob a).lane q = s.lane q := congrArg (·[q]) (s.dropJob_lanes a)

theorem raiseDiverted_jobs (js : List Job) (t : State) :
    t.raiseDiverted (js.map (·.session)) = js.foldl (fun t j => t.raise .jobsDiverted (.session j.session)) t := by
  unfold State.raiseDiverted
  rw [List.foldl_map]

theorem dropJob_inProgress_self : (s.dropJob a).inProgress a = none := by
  cases hg : s.inProgress a with
  | none => simp only [State.dropJob, hg]
  | some g =>
    have hr : ∀ t : State, (t.raise .recordsLow .nothing).inProgress a = t.inProgress a := fun t =>
      congrArg (·[a]) (t.raise_progress .recordsLow .nothing)
    rw [dropJob_of_inProgress hg]
    dsimp only
    split <;> simp [hr]

/-- A job moved to a printer joins the lane of its session (R89, R101). -/
theorem join_movedTo (x : Lanes) (j : Job) : x.join (j.movedTo b) =
    ⟨x.office ++ ([j].filter (·.session = officeLine)).map (·.movedTo b),
      x.window ++ ([j].filter (·.session ≠ officeLine)).map (·.movedTo b)⟩ := by
  unfold Lanes.join
  by_cases hj : j.session = officeLine <;> simp [hj, Job.movedTo]

/-- Settles O16: the suspended job first, if it may move, then the lanes' jobs as far as there is room. -/
theorem divertMovesJobs : Obligations.DivertMovesJobs := by
  refine fun s h => ⟨fun x y hxy => ?_, fun a b => ?_⟩ <;> rw [exec_ready _ rfl (by decide) (.inl rfl) h] <;> congr 1
  · refine Served.finish_of_refuse ?_
    have hout : printerOf x = none ∨ printerOf y = none := by
      rcases hxy with hx | hx | hy | hy
      · exact .inl (printerOf_out (.inl hx))
      · exact .inl (printerOf_out (.inr hx))
      · exact .inr (printerOf_out (.inl hy))
      · exact .inr (printerOf_out (.inr hy))
    rcases hout with hx | hy
    · simp only [serveRequest, serveDivert, hx]
    · simp only [serveRequest, serveDivert, hy]
      cases printerOf x <;> rfl
  · rw [divert_served]
    split
    · exact Served.finish_of_refuse rfl
    · rename_i hc
      have hne : a ≠ b := fun e => hc (.inl e)
      refine (Served.finish_of_accept rfl).trans ?_
      simp only [← divertible_toList, leftOn_moveLanes hne]
      cases hd : s.divertible a b with
      | none =>
        have hs : s.divertSuspended a b = s := by simp only [State.divertSuspended, hd]
        simp only [hs, Option.toList_none, List.map_nil, List.nil_append, List.filter_nil, List.append_nil, raiseDiverted_jobs,
          List.length_map, if_true, ne_eq, not_true_eq_false, false_and, if_false, true_and]
        rfl
      | some j =>
        obtain ⟨g, hg, rfl, hsusp⟩ := divertible_some hd
        have hs : s.divertSuspended a b = (s.dropJob a).putLane b ((s.lane b).join (g.job.movedTo b)) := by
          simp only [State.divertSuspended, hd, dropJob_lane]
        simp only [hs, Option.toList_some, ← List.map_append, raiseDiverted_jobs, ← List.append_assoc, List.length_map,
          State.moveLanes, State.divertLanes, State.putLane_lane, hne, if_true, if_false, dropJob_lane, State.putLane_between,
          State.putLane_inProgress, dropJob_inProgress_self, Option.any_none, Bool.false_eq_true, ne_eq, reduceCtorEq,
          not_false_eq_true, true_and, false_and, join_movedTo]
        rw [dropJob_of_inProgress hg]
        rfl

end Sys2Proof.Machine

/-! # LOAD PACK begins -/

namespace Sys2Proof.Machine

open Sys2Proof Sys2Proof.Machine

section
variable (s : State) (p : PrinterId)

@[simp] theorem State.putCtl_putCtl (x y : Controller) : (s.putCtl p x).putCtl p y = s.putCtl p y := by
  simp [State.putCtl]

/-- A printer that stays in its service group takes its state without a notice (R185). -/
theorem State.setPrinterState_inGroup (st : PrinterState) (h : st.group = (s.ctl p).state.group) :
    s.setPrinterState p st = s.putCtl p ((s.ctl p).enter st) := by
  simp only [State.setPrinterState, h, if_true, State.mapCtl]

/-- An operation is sent at once when none is outstanding and none waits (R104). -/
theorem State.sendOp_free (op : Operation) (w : Purpose) (h1 : (s.ctl p).outstanding = none) (h2 : (s.ctl p).waiting = []) :
    s.sendOp p op w = s.putCtl p { s.ctl p with
      outstanding := some ⟨op, w, (s.ctl p).sendsOnce op⟩, sending := some op.frame } := by
  simp [State.sendOp, h1, h2, State.transmit, State.mapCtl, Controller.puts]

end

variable {s : State} {p : PrinterId}

/-- A printer that leaves IDLE for a state of its work withdraws an idle LIFT (R104, R122). -/
theorem Controller.enter_work (c : Controller) {st : PrinterState} (h : st.busy = true) :
    c.enter st = { c with state := st, idleLift := false, waiting := c.waiting.filter (!·.isIdleLift) } := by
  cases st <;> cases h <;> simp [Controller.enter]

theorem State.showLoad_eq (g : Load) (st : PrinterState) (hst : st.group = .inService) (hg : g.takenIn = (s.ctl p).state) :
    s.showLoad p g st = s.putCtl p (if (s.ctl p).state = .idle then (s.ctl p).enter st else s.ctl p) := by
  unfold State.showLoad
  rw [hg]
  split <;> rename_i hi
  · exact s.setPrinterState_inGroup p st (by rw [hi, hst]; rfl)
  · simp [State.putCtl, State.ctl]

/-- A load or a loop that begins goes behind a LIFT, outstanding or waiting but for an idle LIFT, which is withdrawn (R104,
R122). -/
theorem Controller.liftAhead_eq (c : Controller) : c.liftAhead =
    (c.outstanding.any (·.op == .lift) || (c.waiting.filter (!·.isIdleLift)).any fun w => match w with
      | .op .lift _ => true
      | _ => false) := by
  have each : ∀ w : Waiting, (match w with
      | .op .lift purpose => purpose != .idleLift
      | _ => false) = ((!w.isIdleLift) && (match w with
      | .op .lift _ => true
      | _ => false)) := by
    intro w
    cases w with
    | op o purpose => cases o <;> cases purpose <;> rfl
    | _ => rfl
  unfold Controller.liftAhead
  rw [List.any_filter]
  congr 2
  funext w
  exact each w

theorem Controller.headFound_lifted_iff (c : Controller) : c.headFound = .lifted ↔ c.head = .lifted ∨ c.liftAhead = true := by
  unfold Controller.headFound
  split <;> simp_all

/-- The controller of a printer whose load begins: the load in hand, the state shown, and its first operation outstanding or
its start waiting (R8, R104). -/
def Controller.loading (c : Controller) (slot : Slot) : Controller :=
  let c := { c with load := some ⟨slot, 0, c.state⟩ }
  let waiting := c.waiting.filter (!·.isIdleLift)
  let behindLift := c.outstanding.any (·.op == .lift) || waiting.any fun w => match w with
    | .op .lift _ => true
    | _ => false
  let c := if c.state = .idle then
      { c with
        state := if c.head = .lifted ∨ behindLift = true then .engaging else .reading
        idleLift := false
        waiting := waiting }
    else c
  if c.outstanding.isSome then { c with waiting := c.waiting ++ [.loadStep] }
  else
    let op : Operation := if c.head = .lifted then .engage else .readStrip
    { c with outstanding := some ⟨op, .load, false⟩, sending := some op.frame }

/-- A load's step with the line free sends its operation and shows it (R104). -/
theorem State.loadStep_free {g : Load} (hg : (s.ctl p).load = some g) (ht : g.takenIn = (s.ctl p).state)
    (ho : (s.ctl p).outstanding = none) (hw : (s.ctl p).waiting = []) : s.loadStep p =
      let op : Operation := if (s.ctl p).head = .lifted then .engage else .readStrip
      let st : PrinterState := if (s.ctl p).head = .lifted then .engaging else .reading
      let d := if (s.ctl p).state = .idle then (s.ctl p).enter st else s.ctl p
      s.putCtl p { d with outstanding := some ⟨op, .load, false⟩, sending := some op.frame } := by
  have free : ∀ st : PrinterState, st ≠ .idle →
      (if (s.ctl p).state = .idle then (s.ctl p).enter st else s.ctl p).outstanding = none ∧
        (if (s.ctl p).state = .idle then (s.ctl p).enter st else s.ctl p).waiting = [] := by
    intro st hst
    split <;> simp [Controller.enter, ho, hw]
  have sent : ∀ (op : Operation) (st : PrinterState), st.group = .inService → st ≠ .idle → (op == .enquire) = false →
      (s.showLoad p g st).sendOp p op .load =
        s.putCtl p { (if (s.ctl p).state = .idle then (s.ctl p).enter st else s.ctl p) with
          outstanding := some ⟨op, .load, false⟩, sending := some op.frame } := by
    intro op st hst hne hop
    obtain ⟨f1, f2⟩ := free st hne
    rw [State.showLoad_eq g st hst ht, State.sendOp_free _ _ _ _ (by rw [State.putCtl_ctl, if_pos rfl]; exact f1)
      (by rw [State.putCtl_ctl, if_pos rfl]; exact f2), State.putCtl_putCtl, State.putCtl_ctl, if_pos rfl]
    simp only [Controller.sendsOnce, hop, Bool.false_and]
  simp only [State.loadStep, hg]
  split
  · exact sent .engage .engaging rfl (by simp) rfl
  · exact sent .readStrip .reading rfl (by simp) rfl

theorem State.beginLoad_eq (slot : Slot) (h : (s.ctl p).outstanding.isSome ∨ (s.ctl p).waiting = []) :
    s.beginLoad p slot = s.putCtl p ((s.ctl p).loading slot) := by
  have taken : (s.mapCtl p fun c => { c with load := some ⟨slot, 0, (s.ctl p).state⟩ }).ctl p =
      { s.ctl p with load := some ⟨slot, 0, (s.ctl p).state⟩ } := by simp [State.mapCtl]
  have hput : ∀ x, (s.mapCtl p fun c => { c with load := some ⟨slot, 0, (s.ctl p).state⟩ }).putCtl p x = s.putCtl p x :=
    fun x => State.putCtl_putCtl ..
  unfold State.beginLoad
  dsimp only
  generalize (s.mapCtl p fun c => { c with load := some ⟨slot, 0, (s.ctl p).state⟩ }) = t at taken hput
  generalize s.ctl p = c at *
  cases ho : c.outstanding with
  | none =>
    have hw : c.waiting = [] := by simpa [ho] using h
    rw [Option.isNone_none, if_pos rfl, State.loadStep_free (g := ⟨slot, 0, c.state⟩) (by rw [taken]) (by rw [taken])
      (by rw [taken]; exact ho) (by rw [taken]; exact hw), hput, taken]
    simp only [Controller.loading, ho, hw]
    rw [Controller.enter_work _ (by split <;> rfl)]
    simp only [List.filter_nil, List.any_nil, Option.any_none, Bool.or_false, Bool.false_eq_true, or_false]
    split <;> rfl
  | some o =>
    have hb := c.liftAhead_eq
    rw [ho] at hb
    rw [Option.isNone_some, if_neg (by simp), State.showLoad_eq _ _ (by split <;> rfl) (by rw [taken]), hput, taken]
    simp only [State.mapCtl, State.putCtl_ctl, if_true, State.putCtl_putCtl, Controller.loading, ho, c.headFound_lifted_iff, hb]
    rw [Controller.enter_work _ (by split <;> rfl)]
    by_cases hi : c.state = .idle
    · simp only [hi, if_true, Option.isSome_some] <;> rfl
    · simp only [hi, if_false, Option.isSome_some, if_true] <;> rfl

/-! ## The checks of LOAD PACK -/

theorem mayLoad_false_iff : s.mayLoad p = false ↔ (s.ctl p).state ∉ [.idle, .offline, .held] ∨
    ((s.ctl p).state = .held ∧ (s.openEntry p).map (·.kind) ≠ some .noPack) := by
  unfold State.mayLoad
  cases (s.ctl p).state <;> simp
  cases s.openEntry p <;> simp

theorem loadPack_served {slot : Slot} {k : Pack} (hk : s.pack slot = some k) (h : (s.ctl p).outstanding.isSome ∨ (s.ctl p).waiting = []) :
    serveRequest (.loadPack officeLine (slot.val + 1) (p.val + 1)) (s.frameEnded officeLine) =
      if k.state ≠ .received ∧ k.state ≠ .unloaded then refuse (s.frameEnded officeLine) .wrongState
      else if (s.loaded p).isSome then refuse (s.frameEnded officeLine) .inUse
      else if (s.config p).kind ≠ some k.kind then refuse (s.frameEnded officeLine) .badParameter
      else if s.mayLoad p = false then refuse (s.frameEnded officeLine) .wrongState
      else ⟨((s.frameEnded officeLine).holdDeferred (.loadPack p)).putCtl p ((s.ctl p).loading slot), none⟩ := by
  have hb : ((s.frameEnded officeLine).holdDeferred (.loadPack p)).beginLoad p slot =
      ((s.frameEnded officeLine).holdDeferred (.loadPack p)).putCtl p ((s.ctl p).loading slot) := State.beginLoad_eq slot h
  have hm : (s.frameEnded officeLine).mayLoad p = s.mayLoad p := rfl
  simp only [serveRequest, serveLoadPack, slotOf_succ, printerOf_succ, State.frameEnded_pack, hk, State.frameEnded_loaded,
    State.frameEnded_config, hm, hb, Bool.not_eq_true']

/-- Settles O9: the checks of LOAD PACK in their order, and how its load begins. -/
theorem loadPackBegins : Obligations.LoadPackBegins := by
  refine fun s h => ⟨fun slot printer hout => ?_, fun slot p => ⟨fun hn => ?_, fun k hk hw => ?_⟩⟩ <;>
    rw [exec_ready _ rfl (by decide) (.inl rfl) h] <;> congr 1
  · refine Served.finish_of_refuse ?_
    have hnone : slotOf slot = none ∨ printerOf printer = none := by
      rcases hout with hx | hx | hx | hx
      · exact .inl (slotOf_out (.inl hx))
      · exact .inl (slotOf_out (.inr hx))
      · exact .inr (printerOf_out (.inl hx))
      · exact .inr (printerOf_out (.inr hx))
    rcases hnone with hx | hy
    · simp only [serveRequest, serveLoadPack, hx]
    · simp only [serveRequest, serveLoadPack, hy]
      cases slotOf slot <;> rfl
  · exact Served.finish_of_refuse (by simp only [serveRequest, serveLoadPack, slotOf_succ, printerOf_succ, State.frameEnded_pack, hn])
  · rw [loadPack_served hk hw]
    simp only [← mayLoad_false_iff]
    split
    · exact Served.finish_of_refuse rfl
    · split
      · exact Served.finish_of_refuse rfl
      · split
        · exact Served.finish_of_refuse rfl
        · split
          · exact Served.finish_of_refuse rfl
          · rfl

end Sys2Proof.Machine

/-! # A failed form, and the settle of an issue -/

namespace Sys2Proof.Machine

open Sys2Proof Sys2Proof.Machine

/-! ## Notices among the updates of other blocks -/

section
variable (s : State) (c : NoticeClass) (sub : Subject)

theorem State.raise_putPack (slot : Slot) (x : Option Pack) :
    (s.raise c sub).putPack slot x = (s.putPack slot x).raise c sub := by
  have := State.raise_putStock s c sub { s.stock with packs := s.stock.packs.set slot x }
  simpa only [State.putPack, State.raise_stock] using this

theorem State.raise_putProgress (p : PrinterId) (x : Option Progress) :
    (s.raise c sub).putProgress p x = (s.putProgress p x).raise c sub := by
  unfold State.raise; split <;> split <;> first | rfl | contradiction

@[simp] theorem State.raise_inProgress (p : PrinterId) : (s.raise c sub).inProgress p = s.inProgress p :=
  congrArg (·[p]) (s.raise_progress c sub)

theorem State.raise_mapJob (p : PrinterId) (f : Job → Job) : (s.raise c sub).mapJob p f = (s.mapJob p f).raise c sub := by
  simp only [State.mapJob, State.raise_inProgress]
  split
  · rfl
  · exact State.raise_putProgress ..

theorem State.raise_putSession (n : SessionId) (x : Session) :
    (s.raise c sub).putSession n x = (s.putSession n x).raise c sub := by
  unfold State.raise; split <;> split <;> first | rfl | contradiction

@[simp] theorem State.raise_session (n : SessionId) : (s.raise c sub).session n = s.session n :=
  congrArg (fun t : Till => t.sessions[n]) (s.raise_till c sub)

@[simp] theorem State.raise_pack (slot : Slot) : (s.raise c sub).pack slot = s.pack slot :=
  congrArg (fun t : Stock => t.packs[slot]) (s.raise_stock c sub)

@[simp] theorem State.raise_loaded (p : PrinterId) : (s.raise c sub).loaded p = s.loaded p :=
  congrArg (fun t : Stock => t.loaded[p]) (s.raise_stock c sub)

@[simp] theorem State.raise_kind (k : Kind) : (s.raise c sub).kind k = s.kind k :=
  congrArg (fun t : Stock => t.kinds[k]) (s.raise_stock c sub)

theorem State.raise_countKind (n : SessionId) (k : Kind) (f : KindCounters → KindCounters) :
    (s.raise c sub).countKind n k f = (s.countKind n k f).raise c sub := by
  simp only [State.countKind, State.raise_session, State.raise_putSession]

@[simp] theorem State.raise_clock : (s.raise c sub).clock = s.clock := congrArg Settings.clock (s.raise_settings c sub)

@[simp] theorem State.raise_phase : (s.raise c sub).phase = s.phase := congrArg Settings.phase (s.raise_settings c sub)

/-- A notice concerns the pending classes of a line alone. -/
theorem LineState.receive_frame (ln : LineState) : (ln.receive c).outcomes = ln.outcomes ∧ (ln.receive c).replies = ln.replies ∧
    (ln.receive c).deferred = ln.deferred := by
  unfold LineState.receive; split <;> exact ⟨rfl, rfl, rfl⟩

@[simp] theorem State.raise_outcomes (l : Line) : ((s.raise c sub).line l).outcomes = (s.line l).outcomes := by
  rw [State.raise_line]
  split
  · exact (LineState.receive_frame ..).1
  · rfl

end

variable {s : State} {p : PrinterId}

/-! ## The records-low condition -/

/-- RECORDS LOW is raised where the condition was not there before (R22). -/
def State.notedLow (u : State) (before : Bool) : State :=
  if u.stock.recordsLow = true ∧ before = false then u.raise .recordsLow .nothing else u

/-- A stock table whose records-low condition follows its records. -/
def Stock.noted (x : Stock) : Stock := { x with recordsLow := decide (256 - (x.exceptions.length + x.reservation) < 32) }

theorem State.noteRecords_eq (s : State) : s.noteRecords = (s.putStock s.stock.noted).notedLow s.stock.recordsLow := by
  simp only [State.noteRecords, State.unreserved, exceptionCapacity, State.notedLow, State.putStock_stock, Stock.noted,
    Bool.and_eq_true, Bool.not_eq_true']
  congr

section
variable (u : State) (b : Bool)

theorem State.notedLow_cases : u.notedLow b = u.raise .recordsLow .nothing ∨ u.notedLow b = u := by
  unfold State.notedLow; split
  · exact .inl rfl
  · exact .inr rfl

/-- What a notice passes over, RECORDS LOW passes over. -/
theorem State.notedLow_commute (f : State → State) (hf : f (u.raise .recordsLow .nothing) = (f u).raise .recordsLow .nothing)
    (hs : (f u).stock.recordsLow = u.stock.recordsLow) : f (u.notedLow b) = (f u).notedLow b := by
  simp only [State.notedLow, hs]
  split
  · exact hf
  · rfl

/-- What a notice leaves, RECORDS LOW leaves. -/
theorem State.notedLow_frame {α : Type} (f : State → α) (hf : f (u.raise .recordsLow .nothing) = f u) : f (u.notedLow b) = f u := by
  rcases u.notedLow_cases b with h | h <;> rw [h]
  exact hf

@[simp] theorem State.notedLow_pack (slot : Slot) : (u.notedLow b).pack slot = u.pack slot :=
  u.notedLow_frame b (State.pack · slot) (State.raise_pack ..)
@[simp] theorem State.notedLow_kind (k : Kind) : (u.notedLow b).kind k = u.kind k :=
  u.notedLow_frame b (State.kind · k) (State.raise_kind ..)
@[simp] theorem State.notedLow_inProgress (p : PrinterId) : (u.notedLow b).inProgress p = u.inProgress p :=
  u.notedLow_frame b (State.inProgress · p) (State.raise_inProgress ..)
@[simp] theorem State.notedLow_session (n : SessionId) : (u.notedLow b).session n = u.session n :=
  u.notedLow_frame b (State.session · n) (State.raise_session ..)
@[simp] theorem State.notedLow_stock : (u.notedLow b).stock = u.stock := u.notedLow_frame b State.stock (State.raise_stock ..)
@[simp] theorem State.notedLow_outcomes (l : Line) : ((u.notedLow b).line l).outcomes = (u.line l).outcomes :=
  u.notedLow_frame b (fun t => (t.line l).outcomes) (State.raise_outcomes ..)

theorem State.notedLow_putPack (slot : Slot) (x : Option Pack) : (u.notedLow b).putPack slot x = (u.putPack slot x).notedLow b :=
  u.notedLow_commute b (State.putPack · slot x) (State.raise_putPack ..) rfl
theorem State.notedLow_countKind (n : SessionId) (k : Kind) (f : KindCounters → KindCounters) :
    (u.notedLow b).countKind n k f = (u.countKind n k f).notedLow b :=
  u.notedLow_commute b (State.countKind · n k f) (State.raise_countKind ..) rfl
theorem State.notedLow_mapJob (p : PrinterId) (f : Job → Job) : (u.notedLow b).mapJob p f = (u.mapJob p f).notedLow b :=
  u.notedLow_commute b (State.mapJob · p f) (State.raise_mapJob ..) (by rw [State.mapJob_stock])

end

/-! ## Records of a job, and the cursor -/

/-- The stock table with one record more, taken from a job's reservation. -/
def Stock.withRecord (x : Stock) (r : ExceptionRecord) : Stock :=
  { x with
    exceptions := x.exceptions ++ [r], reservation := x.reservation - 1
    recordsLow := decide (256 - (x.exceptions.length + 1 + (x.reservation - 1)) < 32) }

/-- A record of the job in progress is taken from its reservation (R21, R22). -/
theorem addJobRecord_eq {g : Progress} (hg : s.inProgress p = some g) (slot : Slot) (first span : Nat) (reason : Reason) :
    s.addJobRecord p slot first span reason =
      ((s.putStock (s.stock.withRecord
        (s.newRecord slot first span reason (some g.job.session) (s.session g.job.session).clerk))).putProgress p
          (some { g with job := { g.job with reservation := g.job.reservation - 1 } })).notedLow s.stock.recordsLow := by
  simp only [State.addJobRecord, hg, State.mapJob, State.putStock_inProgress, State.noteRecords_eq, Stock.noted, Stock.withRecord,
    State.putProgress_stock, State.putStock_stock, List.length_append, List.length_singleton]
  rfl

/-- A cursor movement sets the state and the flag by what remains, and raises STOCK LOW for the pack's printer (R11-R13). -/
theorem moveCursor_eq {slot : Slot} {k : Pack} (hk : s.pack slot = some k) (hst : k.state = .loaded) (serial : Nat) :
    s.moveCursor slot serial =
      let threshold := (s.kind k.kind).threshold
      let warns := decide (threshold < k.first + k.count - k.cursor ∧ k.first + k.count - serial ≤ threshold ∧ k.lowFlag = false)
      let u := s.putPack slot (some { k with
        cursor := serial, lowFlag := k.lowFlag || warns
        state := if serial = k.first + k.count then PackState.spent else PackState.loaded })
      match k.location with
      | some q => if warns then u.raise .stockLow (.printer q) else u
      | none => u := by
  have hwarn : (decide ((s.kind k.kind).threshold < k.remaining) && decide (k.endSerial - serial ≤ (s.kind k.kind).threshold) &&
      !k.lowFlag) = decide ((s.kind k.kind).threshold < k.first + k.count - k.cursor ∧
        k.first + k.count - serial ≤ (s.kind k.kind).threshold ∧ k.lowFlag = false) := by
    rw [Bool.eq_iff_iff]
    simp only [Bool.and_eq_true, decide_eq_true_eq, Bool.not_eq_true', and_assoc]
    rfl
  dsimp only
  generalize decide ((s.kind k.kind).threshold < k.first + k.count - k.cursor ∧
    k.first + k.count - serial ≤ (s.kind k.kind).threshold ∧ k.lowFlag = false) = w at hwarn ⊢
  simp only [State.moveCursor, hk, hst, if_true, hwarn]
  cases w <;> cases k.location <;> rfl

/-- A failed form behind its record and its pack's movement: the two counts (R19, R52). -/
theorem failed_counts (s : State) (x : Stock) (slot : Slot) (m : Option Pack) (g : Progress) :
    ((((s.putStock x).putProgress p (some { g with job := { g.job with reservation := g.job.reservation - 1 } })).putPack
        slot m).countKind g.job.session g.job.kind fun c => { c with failed := bump c.failed 1 }).mapJob p
          (fun j => { j with failures := j.failures + 1 }) =
      (((s.putStock x).putPack slot m).putSession g.job.session { s.session g.job.session with
        counters := (s.session g.job.session).counters.set g.job.kind { (s.session g.job.session).counters[g.job.kind] with
          failed := min ((s.session g.job.session).counters[g.job.kind].failed + 1) 9999999 } }).putProgress p
        (some { g with job := { g.job with reservation := g.job.reservation - 1, failures := g.job.failures + 1 } }) := by
  simp only [State.countKind, State.mapJob, State.putSession_inProgress, State.putPack_inProgress, State.putProgress_inProgress,
    if_true, State.putPack_session, State.putProgress_session, State.putStock_session, bump]
  simp [State.putProgress, State.putPack, State.putSession, State.putStock, State.putTill]

/-- Settles O48: the record of the job's reservation, the cursor behind it, and the two counts. -/
theorem jobFormFails : Obligations.JobFormFails := by
  intro s p reason span g hg slot k hk hst
  obtain ⟨-, hk⟩ := State.PacksAre.pack_of_loadedPack hk
  simp only [State.failForm, hg, addJobRecord_eq hg]
  rw [moveCursor_eq (k := k) (by rw [State.notedLow_pack]; exact hk) hst]
  simp only [State.notedLow_kind, State.notedLow_putPack]
  cases k.location with
  | none =>
    simp only [State.notedLow_countKind, State.notedLow_mapJob, failed_counts]
    rfl
  | some q =>
    dsimp only
    have hkind : (((s.putStock (s.stock.withRecord (s.newRecord slot k.cursor span reason (some g.job.session)
      (s.session g.job.session).clerk))).putProgress p
        (some { g with job := { g.job with reservation := g.job.reservation - 1 } })).kind k.kind) = s.kind k.kind := rfl
    rw [hkind]
    split <;> simp only [State.notedLow_countKind, State.notedLow_mapJob, State.raise_countKind, State.raise_mapJob, failed_counts]
    · rfl
    · rfl

end Sys2Proof.Machine

/-! # The settle of an issue, and a job that ends unsettled -/

namespace Sys2Proof.Machine

open Sys2Proof Sys2Proof.Machine

variable {s : State} {p : PrinterId}

/-- The record of a job that is gone is cleared, and its reservation released (R21, R22). -/
theorem dropJob_eq {g : Progress} (hg : s.inProgress p = some g) : s.dropJob p =
    ((s.putProgress p none).putStock (Stock.noted { s.stock with
      reservation := s.stock.reservation - g.job.reservation })).notedLow s.stock.recordsLow := by
  simp only [State.dropJob, hg, State.noteRecords_eq]
  rfl

theorem settleTill_eq (s : State) (j : Job) : s.settleTill j =
    let n := j.session
    let x := s.session n
    let t := x.tally j.tender
    let settled := { x.setTally j.tender { t with
        pendingTotal := t.pendingTotal - j.total, pendingCount := t.pendingCount - 1
        settledTotal := t.settledTotal + j.total, settledCount := t.settledCount + 1 } with
      journal := (⟨j.issue, j.kind, j.tender, j.total, j.passengers, j.index, j.printed, j.reference,
        ⟨s.clock.now, s.clock.day⟩, false⟩ :: x.journal).take 32 }
    if j.tender = .cash then
      ((s.putSession n { settled with
        estimate := x.estimate + j.total, drawer := drawerStateOf s.till.high s.till.low (x.estimate + j.total) }).drawerNoticed
          n x.drawer).putDrawer n true
    else s.putSession n settled := by
  simp only [State.settleTill, State.updateEstimate_eq, State.pulse]
  rfl

/-- Settles O44: the charge, the journal entry and the drawer, then the reservation, the outcome and the notice. -/
theorem issueSettles : Obligations.IssueSettles := by
  intro s p _ g hg
  have hu : (s.settleTill g.job).inProgress p = some g := (congrArg (·[p]) (s.settleTill_progress g.job)).trans hg
  have hlines : ((s.settleTill g.job).line g.job.session).outcomes = (s.line g.job.session).outcomes := by
    unfold State.settleTill State.updateEstimate
    dsimp only
    repeat' split
    all_goals simp [State.pulse]
  simp only [State.settleJob, hg, dropJob_eq hu, State.settleTill_stock, State.handOver]
  have hkeep : (((((s.settleTill g.job).putProgress p none).putStock (Stock.noted { s.stock with
      reservation := s.stock.reservation - g.job.reservation })).notedLow s.stock.recordsLow).line g.job.session).outcomes =
        (s.line g.job.session).outcomes := (State.notedLow_outcomes ..).trans hlines
  simp only [Job.outcome, hkeep]
  rw [settleTill_eq]
  rfl

/-! ## Records of a job, and what they leave -/

/-- A record of one form of a session's job (R19). -/
def State.formRecord (s : State) (n : SessionId) (reason : Reason) (c : Coupon) : ExceptionRecord :=
  s.newRecord c.slot c.serial 1 reason (some n) (s.session n).clerk

/-- Records of the forms of a printer's job have been written from its reservation, and the counters of its session set. -/
structure State.Recorded (s t : State) (p : PrinterId) (g : Progress) (rs : List ExceptionRecord)
    (counters : Vector KindCounters 8) : Prop where
  job : t.inProgress p = some { g with job := { g.job with reservation := g.job.reservation - rs.length } }
  jobs : ∀ q, q ≠ p → t.inProgress q = s.inProgress q
  exceptions : t.stock.exceptions = s.stock.exceptions ++ rs
  reservation : t.stock.reservation = s.stock.reservation - rs.length
  loaded : t.stock.loaded = s.stock.loaded
  session : t.session g.job.session = { s.session g.job.session with counters := counters }
  sessions : ∀ m, m ≠ g.job.session → t.session m = s.session m
  outcomes : ∀ l, (t.line l).outcomes = (s.line l).outcomes
  settings : t.settings = s.settings
  lanes : t.lanes = s.lanes
  controllers : t.controllers = s.controllers
  log : t.log = s.log
  drawers : t.drawers = s.drawers

namespace State.Recorded

variable {t : State} {g : Progress} {rs : List ExceptionRecord} {v : Vector KindCounters 8}

theorem start (hg : s.inProgress p = some g) : s.Recorded s p g [] (s.session g.job.session).counters where
  job := hg
  jobs _ _ := rfl
  exceptions := (List.append_nil _).symm
  reservation := rfl
  loaded := rfl
  session := rfl
  sessions _ _ := rfl
  outcomes _ := rfl
  settings := rfl
  lanes := rfl
  controllers := rfl
  log := rfl
  drawers := rfl

theorem add (h : s.Recorded t p g rs v) (c : Coupon) (reason : Reason) :
    s.Recorded (t.addJobRecord p c.slot c.serial 1 reason) p g (rs ++ [s.formRecord g.job.session reason c]) v := by
  have hr : t.newRecord c.slot c.serial 1 reason (some g.job.session) (t.session g.job.session).clerk =
      s.formRecord g.job.session reason c := by
    have hclock : t.clock = s.clock := congrArg Settings.clock h.settings
    rw [h.session]
    simp only [State.formRecord, State.newRecord, State.stampNow, hclock]
  have e := addJobRecord_eq h.job c.slot c.serial 1 reason
  dsimp only at e
  rw [hr] at e
  exact {
    job := by
      rw [e]
      simp only [State.notedLow_inProgress, State.putProgress_inProgress, if_true, List.length_append, List.length_singleton]
      rw [Nat.sub_sub]
    jobs := fun q hq => by
      rw [e]
      simp only [State.notedLow_inProgress, State.putProgress_inProgress, hq, if_false, State.putStock_inProgress]
      exact h.jobs q hq
    exceptions := by rw [e]; simp [Stock.withRecord, h.exceptions]
    reservation := by rw [e]; simp [Stock.withRecord, h.reservation, Nat.sub_sub]
    loaded := by rw [e]; simp [Stock.withRecord, h.loaded]
    session := by rw [e]; simp [h.session]
    sessions := fun m hm => by rw [e]; simp [h.sessions m hm]
    outcomes := fun l => by rw [e, State.notedLow_outcomes]; exact h.outcomes l
    settings := (State.addJobRecord_settings ..).trans h.settings
    lanes := (State.addJobRecord_lanes ..).trans h.lanes
    controllers := (State.addJobRecord_controllers ..).trans h.controllers
    log := (State.addJobRecord_log ..).trans h.log
    drawers := (State.addJobRecord_drawers ..).trans h.drawers }

theorem move (h : s.Recorded t p g rs v) (slot : Slot) (serial : Nat) : s.Recorded (t.moveCursor slot serial) p g rs v := by
  have hprog := State.moveCursor_progress t slot serial
  have htill := State.moveCursor_till t slot serial
  have hkeep : (t.moveCursor slot serial).stock.exceptions = t.stock.exceptions ∧
      (t.moveCursor slot serial).stock.reservation = t.stock.reservation ∧
      (t.moveCursor slot serial).stock.loaded = t.stock.loaded ∧
      ∀ l, ((t.moveCursor slot serial).line l).outcomes = (t.line l).outcomes := by
    unfold State.moveCursor
    split
    · exact ⟨rfl, rfl, rfl, fun _ => rfl⟩
    · split
      · dsimp only
        split <;> simp [State.putPack]
      · exact ⟨rfl, rfl, rfl, fun _ => rfl⟩
  obtain ⟨k1, k2, k3, k4⟩ := hkeep
  exact { h with
    job := (congrArg (·[p]) hprog).trans h.job
    jobs := fun q hq => (congrArg (·[q]) hprog).trans (h.jobs q hq)
    exceptions := k1.trans h.exceptions
    reservation := k2.trans h.reservation
    loaded := k3.trans h.loaded
    session := (congrArg (fun x : Till => x.sessions[g.job.session]) htill).trans h.session
    sessions := fun m hm => (congrArg (fun x : Till => x.sessions[m]) htill).trans (h.sessions m hm)
    outcomes := fun l => (k4 l).trans (h.outcomes l)
    settings := (State.moveCursor_settings ..).trans h.settings
    lanes := (State.moveCursor_lanes ..).trans h.lanes
    controllers := (State.moveCursor_controllers ..).trans h.controllers
    log := (State.moveCursor_log ..).trans h.log
    drawers := (State.moveCursor_drawers ..).trans h.drawers }

theorem count (h : s.Recorded t p g rs v) (k : Kind) (f : KindCounters → KindCounters) :
    s.Recorded (t.countKind g.job.session k f) p g rs (v.set k (f v[k])) :=
  { h with
    session := by simp only [State.countKind, State.putSession_session, if_true, h.session]
    sessions := fun m hm => by simp only [State.countKind, State.putSession_session, hm, if_false, h.sessions m hm] }

/-- The INCOMPLETE records of the printed coupons, each counted (R19, R52, R95). -/
theorem undo (k : Kind) (cs : List Coupon) : ∀ {t : State} {rs : List ExceptionRecord} {v : Vector KindCounters 8},
    s.Recorded t p g rs v → s.Recorded (t.undoCoupons p g.job.session k cs) p g
      (rs ++ cs.map (s.formRecord g.job.session .incomplete))
      (v.set k { v[k] with
        incomplete := if cs = [] then v[k].incomplete else min (v[k].incomplete + cs.length) 9999999 }) := by
  induction cs with
  | nil =>
    intro t rs v h
    have hset : v.set k v[k] = v := Vector.set_getElem_self _
    simp only [State.undoCoupons, List.map_nil, List.append_nil, if_true]
    rwa [show ({ v[k] with incomplete := v[k].incomplete } : KindCounters) = v[k] from rfl, hset]
  | cons c cs ih =>
    intro t rs v h
    have := ih ((h.add c .incomplete).count k fun x => { x with incomplete := bump x.incomplete 1 })
    simp only [State.undoCoupons, List.map_cons, List.append_assoc, List.singleton_append, List.length_cons, reduceCtorEq,
      if_false] at this ⊢
    have hcount : ∀ x : Nat, (if cs = [] then bump x 1 else min (bump x 1 + cs.length) 9999999) =
        min (x + (cs.length + 1)) 9999999 := by
      intro x
      unfold bump
      split
      · rename_i e; subst e; rfl
      · omega
    simpa [hcount] using this

/-- The LOST record of the form in hand, and its count (R19, R52, R115). -/
theorem lose (h : s.Recorded t p g rs v) {slot : Slot} {k : Pack} (hload : t.loadedPack p = some (slot, k))
    (hand : g.formInHand = true) : s.Recorded (t.loseForm p) p g (rs ++ [s.formRecord g.job.session .lost ⟨slot, k.cursor⟩])
      (v.set g.job.kind { v[g.job.kind] with failed := min (v[g.job.kind].failed + 1) 9999999 }) := by
  simp only [State.loseForm, h.job, hload, hand, if_true]
  exact ((h.add ⟨slot, k.cursor⟩ .lost).move slot (k.cursor + 1)).count g.job.kind fun x => { x with failed := bump x.failed 1 }

end State.Recorded

/-! ## The packs and the kinds behind records -/

section
variable (s : State) (p : PrinterId)

@[simp] theorem State.noteRecords_packs : s.noteRecords.stock.packs = s.stock.packs := by
  rw [State.noteRecords_eq]; simp [Stock.noted]

@[simp] theorem State.addJobRecord_packs (slot : Slot) (first span : Nat) (reason : Reason) :
    (s.addJobRecord p slot first span reason).stock.packs = s.stock.packs := by
  unfold State.addJobRecord; split <;> simp

@[simp] theorem State.undoCoupons_packs (n : SessionId) (k : Kind) (cs : List Coupon) :
    (s.undoCoupons p n k cs).stock.packs = s.stock.packs := by
  induction cs generalizing s with
  | nil => rfl
  | cons c cs ih => exact (ih _).trans (by simp)

@[simp] theorem State.dropJob_packs : (s.dropJob p).stock.packs = s.stock.packs := by
  unfold State.dropJob; split <;> simp

end

theorem pack_of_packs {s t : State} (h : t.stock.packs = s.stock.packs) (slot : Slot) : t.pack slot = s.pack slot :=
  congrArg (fun v : Vector (Option Pack) 64 => v[slot]) h

theorem kind_of_kinds {s t : State} (h : t.stock.kinds = s.stock.kinds) (k : Kind) : t.kind k = s.kind k :=
  congrArg (fun v : Vector StockKind 8 => v[k]) h

theorem loadedPack_of_stock {s t : State} (h1 : t.stock.packs = s.stock.packs) (h2 : t.stock.loaded = s.stock.loaded) :
    t.loadedPack p = s.loadedPack p := by
  have h3 : t.loaded p = s.loaded p := congrArg (fun v : Vector (Option Slot) 4 => v[p]) h2
  unfold State.loadedPack
  rw [h3]
  split
  · rfl
  · rw [pack_of_packs h1]

/-- A movement past one form leaves the pack as R11-R13 say, and the other packs alone. -/
theorem moveCursor_pastOne {slot : Slot} {k : Pack} (hk : s.pack slot = some k) (a : Slot) :
    (s.moveCursor slot (k.cursor + 1)).pack a = if a = slot then some (k.pastOne (s.kind k.kind).threshold) else s.pack a := by
  by_cases hst : k.state = .loaded
  · rw [moveCursor_eq hk hst]
    have hflag : (k.lowFlag || decide ((s.kind k.kind).threshold < k.first + k.count - k.cursor ∧
          k.first + k.count - (k.cursor + 1) ≤ (s.kind k.kind).threshold ∧ k.lowFlag = false)) =
        (k.lowFlag || (decide ((s.kind k.kind).threshold < k.first + k.count - k.cursor) &&
          decide (k.first + k.count - (k.cursor + 1) ≤ (s.kind k.kind).threshold))) := by
      cases k.lowFlag <;> simp
    have hpast : k.pastOne (s.kind k.kind).threshold = { k with
        cursor := k.cursor + 1
        lowFlag := k.lowFlag || decide ((s.kind k.kind).threshold < k.first + k.count - k.cursor ∧
          k.first + k.count - (k.cursor + 1) ≤ (s.kind k.kind).threshold ∧ k.lowFlag = false)
        state := if k.cursor + 1 = k.first + k.count then PackState.spent else PackState.loaded } := by
      rw [hflag, Pack.pastOne, if_pos hst]
    rw [hpast]
    cases k.location with
    | none => simp
    | some q => dsimp only; split <;> simp
  · have hstay : s.moveCursor slot (k.cursor + 1) = s := by simp only [State.moveCursor, hk, hst, if_false]
    have hpast : k.pastOne (s.kind k.kind).threshold = k := if_neg hst
    rw [hstay, hpast]
    split <;> simp_all

/-! ## Notices that stand -/

/-- Every class pending on a line is pending still. -/
def State.Heard (s t : State) : Prop := ∀ l b, (s.line l).pendingSet.getLsbD b = true → (t.line l).pendingSet.getLsbD b = true

theorem NoticeClass.set_bit (c : NoticeClass) : c.set.getLsbD c.bit = true := by cases c <;> decide

/-- A class received is pending. -/
theorem LineState.receive_pending (ln : LineState) (c : NoticeClass) : (ln.receive c).pendingSet.getLsbD c.bit = true := by
  unfold LineState.receive
  split
  · assumption
  · simp [c.set_bit]

theorem LineState.receive_heard (ln : LineState) (c : NoticeClass) (b : Nat) (h : ln.pendingSet.getLsbD b = true) :
    (ln.receive c).pendingSet.getLsbD b = true := by
  unfold LineState.receive
  split
  · exact h
  · simp [h]

namespace State.Heard

theorem refl (s : State) : s.Heard s := fun _ _ h => h

theorem trans {s t u : State} (h1 : s.Heard t) (h2 : t.Heard u) : s.Heard u := fun l b h => h2 l b (h1 l b h)

theorem of_lines {s t : State} (h : t.lines = s.lines) : s.Heard t := fun l b hb => by
  rwa [show t.line l = s.line l from congrArg (·[l]) h]

theorem raise (s : State) (c : NoticeClass) (sub : Subject) : s.Heard (s.raise c sub) := fun l b hb => by
  rw [State.raise_line]
  split
  · exact LineState.receive_heard _ c b hb
  · exact hb

theorem notedLow (s : State) (b : Bool) : s.Heard (s.notedLow b) := by
  rcases s.notedLow_cases b with h | h <;> rw [h]
  · exact raise s _ _
  · exact refl s

theorem noteRecords (s : State) : s.Heard s.noteRecords := by
  rw [State.noteRecords_eq]
  refine trans ?_ (notedLow _ _)
  exact of_lines rfl

theorem dropJob (s : State) (p : PrinterId) : s.Heard (s.dropJob p) := by
  unfold State.dropJob
  split
  · exact refl s
  · refine trans ?_ (noteRecords _)
    exact of_lines rfl

theorem handOver (s : State) (o : Outcome) : s.Heard (s.handOver o) := fun l b hb => by
  rw [State.handOver_line]
  split <;> exact hb

end State.Heard

/-- A class raised while the lines are open is pending on each line that receives it (R184, R186). -/
theorem State.raise_pending {s : State} (c : NoticeClass) (sub : Subject) (l : Line) (hr : s.phase = .running)
    (hl : s.receives l c sub = true) : ((s.raise c sub).line l).pendingSet.getLsbD c.bit = true := by
  rw [State.raise_line, if_pos ⟨hr, hl⟩]
  exact LineState.receive_pending ..

/-- ISSUE FAILED reaches the session's own line and the office line (R184). -/
theorem receives_issueFailed (s : State) (n : SessionId) :
    s.receives n .issueFailed (.session n) = true ∧ s.receives officeLine .issueFailed (.session n) = true := by
  refine ⟨?_, by simp [State.receives, officeReceives]⟩
  unfold State.receives
  split
  · rfl
  · simp [State.windowReceives]

/-! ## A job that ends unsettled -/

/-- The end of a job behind the records of its forms: charge, reservation, outcome, notice (R95, R96, R98). -/
def State.ended (u : State) (p : PrinterId) (j : Job) (r : JobResult) : State :=
  (((u.releaseCharge j).dropJob p).handOver (j.outcome r)).raise .issueFailed (.session j.session)

/-- The forms of a job that ends unsettled: its printed coupons undone, and with PRINTER RESET the form in hand lost (R95,
R98). -/
def State.formsUndone (s : State) (p : PrinterId) (g : Progress) (r : JobResult) : State :=
  if r = .printerReset then (s.undoCoupons p g.job.session g.job.kind g.job.printed).loseForm p
  else s.undoCoupons p g.job.session g.job.kind g.job.printed

theorem endJob_eq {g : Progress} (hg : s.inProgress p = some g) (r : JobResult) :
    s.endJob p r = (s.formsUndone p g r).ended p g.job r := by
  simp only [State.endJob, hg]
  rfl

section
variable {u : State} {g : Progress} {rs : List ExceptionRecord} {v : Vector KindCounters 8}

theorem ended_stock (h : s.Recorded u p g rs v) (r : JobResult) : (u.ended p g.job r).stock =
    Stock.noted { u.stock with reservation := u.stock.reservation - (g.job.reservation - rs.length) } := by
  have hu : (u.releaseCharge g.job).inProgress p = some _ := h.job
  rw [State.ended, State.raise_stock, State.handOver_stock, dropJob_eq hu]
  simp

theorem ended_inProgress (h : s.Recorded u p g rs v) (r : JobResult) (q : PrinterId) :
    (u.ended p g.job r).inProgress q = if q = p then none else s.inProgress q := by
  have hu : (u.releaseCharge g.job).inProgress p = some _ := h.job
  have ho : ∀ (t : State) (o : Outcome), (t.handOver o).inProgress q = t.inProgress q := fun t o =>
    congrArg (·[q]) (t.handOver_progress o)
  rw [State.ended, State.raise_inProgress, ho, dropJob_eq hu, State.notedLow_inProgress, State.putStock_inProgress,
    State.putProgress_inProgress]
  split
  · rfl
  · rename_i hq; exact h.jobs q hq

theorem ended_session (h : s.Recorded u p g rs v) (r : JobResult) (m : SessionId) :
    (u.ended p g.job r).session m = if m = g.job.session then
      { (s.session m).setTally g.job.tender (((s.session m).tally g.job.tender).releasePending g.job.total) with counters := v }
    else s.session m := by
  have ho : ∀ t : State, (t.dropJob p).session m = t.session m := fun t =>
    congrArg (fun x : Till => x.sessions[m]) (t.dropJob_till p)
  have hd : ∀ (t : State) (o : Outcome), (t.handOver o).session m = t.session m := fun t o =>
    congrArg (fun x : Till => x.sessions[m]) (t.handOver_till o)
  rw [State.ended, State.raise_session, hd, ho, State.releaseCharge]
  simp only [State.putSession_session, h.session]
  split
  · rename_i hm
    rw [hm]
    cases g.job.tender <;> rfl
  · rename_i hm; exact h.sessions m hm

theorem ended_outcomes (h : s.Recorded u p g rs v) (r : JobResult) (l : Line) : ((u.ended p g.job r).line l).outcomes =
    if g.job.session ≠ officeLine ∧ l = g.job.session then joinOutcome (s.line l).outcomes (g.job.outcome r)
    else (s.line l).outcomes := by
  have hu : (u.releaseCharge g.job).inProgress p = some _ := h.job
  have hd : (((u.releaseCharge g.job).dropJob p).line l).outcomes = (s.line l).outcomes := by
    rw [dropJob_eq hu, State.notedLow_outcomes]
    exact h.outcomes l
  rw [State.ended, State.raise_outcomes, State.handOver_line]
  by_cases hl : l = g.job.session
  · subst hl
    by_cases hn : g.job.session = officeLine
    · simp only [Job.outcome, hn, not_true_eq_false, ne_eq, false_and, if_false]
      rw [← hn, hd]
    · simp [hn, hd, Job.outcome]
  · have : ¬ (Job.outcome g.job r).session = l := fun e => hl e.symm
    simp [hl, this, hd]

theorem ended_frame (h : s.Recorded u p g rs v) (r : JobResult) : (u.ended p g.job r).lanes = s.lanes ∧
    (u.ended p g.job r).controllers = s.controllers ∧ (u.ended p g.job r).log = s.log ∧
    (u.ended p g.job r).settings = s.settings ∧ (u.ended p g.job r).drawers = s.drawers := by
  simp [State.ended, h.lanes, h.controllers, h.log, h.settings, h.drawers]

theorem ended_heard (r : JobResult) : u.Heard (u.ended p g.job r) :=
  have h1 : u.Heard (u.releaseCharge g.job) := State.Heard.of_lines rfl
  ((h1.trans (.dropJob _ _)).trans (.handOver _ _)).trans (.raise _ _ _)

theorem ended_pending (h : s.Recorded u p g rs v) (r : JobResult) (hrun : s.phase = .running) :
    ((u.ended p g.job r).line g.job.session).pendingSet.getLsbD 1 = true ∧
      ((u.ended p g.job r).line officeLine).pendingSet.getLsbD 1 = true := by
  have hphase : (((u.releaseCharge g.job).dropJob p).handOver (g.job.outcome r)).phase = .running := by
    refine (congrArg Settings.phase (?_ : State.settings _ = s.settings)).trans hrun
    simp [h.settings]
  obtain ⟨h1, h2⟩ := receives_issueFailed (((u.releaseCharge g.job).dropJob p).handOver (g.job.outcome r)) g.job.session
  exact ⟨State.raise_pending _ _ _ hphase h1, State.raise_pending _ _ _ hphase h2⟩

end

/-- The coupon whose form PRINTER RESET loses (R98, R115). -/
def State.lostForm (s : State) (p : PrinterId) (g : Progress) (r : JobResult) : List Coupon :=
  if r = .printerReset ∧ g.formInHand = true then (s.loadedPack p).toList.map fun k => (⟨k.1, k.2.cursor⟩ : Coupon) else []

theorem lostForm_loaded {g : Progress} {r : JobResult} (h : s.lostForm p g r ≠ []) : ∃ x, s.loadedPack p = some x := by
  unfold State.lostForm at h
  split at h
  · cases hk : s.loadedPack p with
    | none => rw [hk] at h; exact absurd rfl h
    | some x => exact ⟨x, rfl⟩
  · exact absurd rfl h

theorem loseForm_stays {u : State} {g : Progress} (hg : u.inProgress p = some g)
    (h : g.formInHand = false ∨ u.loadedPack p = none) : u.loseForm p = u := by
  simp only [State.loseForm, hg]
  cases hk : u.loadedPack p with
  | none => rfl
  | some x =>
    rw [hk] at h
    simp [h.resolve_right (by simp)]

/-- The lost form's pack moves past it, and STOCK LOW is raised where its warning comes true (R11-R13, R115). -/
theorem loseForm_pack {u : State} {g : Progress} (hg : u.inProgress p = some g) (hand : g.formInHand = true) {slot : Slot}
    {k : Pack} (hload : u.loadedPack p = some (slot, k)) :
    (∀ a, (u.loseForm p).pack a = if a = slot then some (k.pastOne (u.kind k.kind).threshold) else u.pack a) ∧
      ∀ q, k.location = some q → u.phase = .running → k.lowFlag = false → (k.pastOne (u.kind k.kind).threshold).lowFlag = true →
        ((u.loseForm p).line officeLine).pendingSet.getLsbD NoticeClass.stockLow.bit = true := by
  obtain ⟨-, hk⟩ := State.PacksAre.pack_of_loadedPack hload
  have hk1 : (u.addJobRecord p slot k.cursor 1 .lost).pack slot = some k := (pack_of_packs (by simp) slot).trans hk
  have hkind : (u.addJobRecord p slot k.cursor 1 .lost).kind k.kind = u.kind k.kind := kind_of_kinds (by simp) _
  simp only [State.loseForm, hg, hload, hand, if_true]
  refine ⟨fun a => ?_, fun q hq hrun hlow hpast => ?_⟩
  · rw [show ∀ t : State, (t.countKind g.job.session g.job.kind fun c => { c with failed := bump c.failed 1 }).pack a = t.pack a
      from fun _ => rfl, moveCursor_pastOne hk1, hkind]
    split
    · rfl
    · exact pack_of_packs (by simp) a
  · have hst : k.state = .loaded := by
      by_contra hne
      rw [show k.pastOne (u.kind k.kind).threshold = k from if_neg hne, hlow] at hpast
      cases hpast
    have hwarn : (u.kind k.kind).threshold < k.first + k.count - k.cursor ∧
        k.first + k.count - (k.cursor + 1) ≤ (u.kind k.kind).threshold ∧ k.lowFlag = false := by
      simpa [Pack.pastOne, hst, hlow] using hpast
    have hphase : (u.addJobRecord p slot k.cursor 1 .lost).phase = .running :=
      (congrArg Settings.phase (State.addJobRecord_settings ..)).trans hrun
    show (((State.moveCursor _ _ _).line officeLine).pendingSet).getLsbD _ = true
    rw [moveCursor_eq hk1 hst, hq, hkind]
    simp only [hwarn, and_self, decide_true, if_true]
    exact State.raise_pending _ _ _ hphase rfl

/-- The records an unsettled end leaves, with the counters of its session. -/
theorem formsUndone_recorded {g : Progress} (hg : s.inProgress p = some g) (r : JobResult) :
    s.Recorded (s.formsUndone p g r) p g (g.job.printed.map (s.formRecord g.job.session .incomplete) ++
          (s.lostForm p g r).map (s.formRecord g.job.session .lost))
        ((s.session g.job.session).counters.set g.job.kind { (s.session g.job.session).counters[g.job.kind] with
          incomplete := if g.job.printed = [] then (s.session g.job.session).counters[g.job.kind].incomplete
            else min ((s.session g.job.session).counters[g.job.kind].incomplete + g.job.printed.length) 9999999
          failed := if s.lostForm p g r = [] then (s.session g.job.session).counters[g.job.kind].failed
            else min ((s.session g.job.session).counters[g.job.kind].failed + 1) 9999999 }) ∧
      (s.lostForm p g r = [] → (s.formsUndone p g r).stock.packs = s.stock.packs) ∧
      ∀ slot k, s.loadedPack p = some (slot, k) → s.lostForm p g r ≠ [] →
        (∀ a, (s.formsUndone p g r).pack a = if a = slot then some (k.pastOne (s.kind k.kind).threshold) else s.pack a) ∧
        ∀ q, k.location = some q → s.phase = .running → k.lowFlag = false →
          (k.pastOne (s.kind k.kind).threshold).lowFlag = true →
          ((s.formsUndone p g r).line officeLine).pendingSet.getLsbD NoticeClass.stockLow.bit = true := by
  have h1 := State.Recorded.undo g.job.kind g.job.printed (State.Recorded.start hg)
  rw [List.nil_append] at h1
  have hload : (s.undoCoupons p g.job.session g.job.kind g.job.printed).loadedPack p = s.loadedPack p :=
    loadedPack_of_stock (by simp) (by simp)
  have hkinds : (s.undoCoupons p g.job.session g.job.kind g.job.printed).kind = s.kind := funext (kind_of_kinds (by simp))
  have hpacks : (s.undoCoupons p g.job.session g.job.kind g.job.printed).stock.packs = s.stock.packs := by simp
  have hphase : (s.undoCoupons p g.job.session g.job.kind g.job.printed).phase = s.phase := congrArg Settings.phase h1.settings
  unfold State.formsUndone
  by_cases hlose : (r = .printerReset ∧ g.formInHand = true) ∧ s.loadedPack p ≠ none
  · obtain ⟨⟨hr, hand⟩, hne⟩ := hlose
    obtain ⟨⟨slot, k⟩, hk⟩ := Option.ne_none_iff_exists'.mp hne
    have hlost : s.lostForm p g r = [⟨slot, k.cursor⟩] := by simp [State.lostForm, hr, hand, hk]
    have h2 := h1.lose (hload.trans hk) hand
    obtain ⟨hpack, hpend⟩ := loseForm_pack h1.job hand (hload.trans hk)
    rw [if_pos hr, hlost]
    refine ⟨?_, by simp, fun slot' k' hk' _ => ?_⟩
    · simpa using h2
    · obtain ⟨rfl, rfl⟩ : slot = slot' ∧ k = k' := by rw [hk] at hk'; simpa using hk'
      rw [hkinds] at hpack hpend
      refine ⟨fun a => (hpack a).trans ?_, fun q hq hrun => hpend q hq (hphase.trans hrun)⟩
      rw [pack_of_packs hpacks]
  · have hlost : s.lostForm p g r = [] := by
      unfold State.lostForm
      split
      · rename_i hc
        have : s.loadedPack p = none := by simpa [hc] using hlose
        rw [this]; rfl
      · rfl
    have hstay : (if r = .printerReset then (s.undoCoupons p g.job.session g.job.kind g.job.printed).loseForm p
        else s.undoCoupons p g.job.session g.job.kind g.job.printed) =
          s.undoCoupons p g.job.session g.job.kind g.job.printed := by
      split
      · rename_i hr
        refine loseForm_stays h1.job ?_
        rw [hload]
        by_contra hc
        simp only [not_or, Bool.not_eq_false] at hc
        exact hlose ⟨⟨hr, hc.1⟩, hc.2⟩
      · rfl
    rw [hstay, hlost]
    refine ⟨by simpa using h1, fun _ => hpacks, fun _ _ _ h => absurd rfl h⟩

/-- Settles O20: the records and their counts first, then the end itself, field by field. -/
theorem jobEndsUnsettled : Obligations.JobEndsUnsettled := by
  intro s p r g hg hres hall
  obtain ⟨h, hstay, hlose⟩ := formsUndone_recorded hg r
  have hu := endJob_eq hg r
  generalize s.formsUndone p g r = u at h hstay hlose hu
  have hlost : s.lostForm p g r = if r = .printerReset ∧ g.formInHand then
      (s.loadedPack p).toList.map fun k => (⟨k.1, k.2.cursor⟩ : Coupon) else [] := rfl
  dsimp only
  rw [hu, ← hlost]
  have hlen : (s.lostForm p g r).length ≤ if r = .printerReset ∧ g.formInHand = true then 1 else 0 := by
    rw [hlost]; split
    · cases s.loadedPack p <;> simp
    · simp
  obtain ⟨hlanes, hctls, hlog, hset, hdraw⟩ := ended_frame h r
  have hstock := ended_stock h r
  have hpack : ∀ a, (u.ended p g.job r).pack a = u.pack a := pack_of_packs (by rw [hstock]; rfl)
  have packs : ∀ a, (u.ended p g.job r).pack a = if s.lostForm p g r ≠ [] ∧ s.loaded p = some a then
      (s.pack a).map fun k => k.pastOne (s.kind k.kind).threshold else s.pack a := by
    intro a
    rw [hpack]
    by_cases hl : s.lostForm p g r = []
    · rw [if_neg (by simp [hl])]
      exact pack_of_packs (hstay hl) a
    · obtain ⟨⟨slot, k⟩, hk⟩ := lostForm_loaded hl
      obtain ⟨hloaded, hslot⟩ := State.PacksAre.pack_of_loadedPack hk
      rw [(hlose slot k hk hl).1 a]
      by_cases ha : a = slot
      · subst ha; simp [hl, hloaded, hslot]
      · have : ¬ slot = a := fun e => ha e.symm
        simp [ha, this, hloaded]
  refine ⟨by rw [ended_inProgress h, if_pos rfl], fun q hq => by rw [ended_inProgress h, if_neg hq], hlanes, hctls, hlog,
    congrArg Settings.clock hset, hdraw, ?_, ?_, ?_, ?_, ?_, ?_, ?_, ?_, ?_, ?_, ?_⟩
  · rw [hstock]
    simp only [Stock.noted, h.exceptions, List.append_assoc]
    rfl
  · rw [hstock]
    simp only [Stock.noted, h.reservation, List.length_append, List.length_map]
    omega
  · rw [hstock]; exact h.loaded
  · rw [hstock]; rfl
  · intro slot k hk
    rw [packs, hk]
    split <;> rfl
  · intro slot hk
    rw [packs, hk]
    split <;> rfl
  · intro slot k hk q hq hrun hl hlow hpast
    exact ended_heard r officeLine _ ((hlose slot k hk hl).2 q hq hrun hlow hpast)
  · intro m hm; rw [ended_session h, if_neg hm]
  · rw [ended_session h, if_pos rfl]; rfl
  · exact ended_outcomes h r
  · exact ended_pending h r

end Sys2Proof.Machine

/-! # Frames that are no request, and ABORT -/

namespace Sys2Proof.Machine

open Sys2Proof Sys2Proof.Machine

/-! ## Frames that are no request -/

theorem isRequestCode_of_mem {code : Byte} (h : code.toNat ∈ requestCodes) : isRequestCode code = true := by
  unfold isRequestCode
  simp only [requestCodes, List.mem_cons, List.not_mem_nil, or_false] at h
  generalize code.toNat = n at *
  simp only [Bool.or_eq_true, Bool.and_eq_true, decide_eq_true_eq]
  omega

/-- The code of an unknown request is not ABORT's. -/
theorem ne_abortCode {code : Byte} (h : isRequestCode code = false) : code ≠ abortCode := by
  rintro rfl; cases h

section
variable (s : State) (l : Line)

@[simp] theorem State.putLine_putLine (x y : LineState) : (s.putLine l x).putLine l y = s.putLine l y := by
  simp [State.putLine]

theorem exec_unknownRequest {code : Byte} (h : isRequestCode code = false) : exec (.unknownRequest l code) s = .next (
    if s.phase = .halted then s
    else if 4 ≤ (s.line l).replies.length then s.frameEnded l
    else s.said l code (if s.phase ≠ .running then .starting else if (s.line l).deferred ≠ none then .busy
      else .unknownRequest) []) := by
  have hn : code.toNat ∉ requestCodes := fun e => by rw [isRequestCode_of_mem e] at h; cases h
  show Host.Outcome.next (if code.toNat ∈ requestCodes then s else _) = _
  rw [if_neg hn]
  congr 1
  by_cases hp : s.phase = .halted
  · rw [if_pos hp, State.request_halted _ _ _ _ _ hp]
  · by_cases hf : 4 ≤ (s.line l).replies.length
    · rw [if_neg hp, if_pos hf, State.request_full _ _ _ _ _ hp hf]
    · rw [if_neg hp, if_neg hf]
      have hd : ((s.line l).deferred.isSome = true) = ((s.line l).deferred ≠ none) := by
        rw [Option.isSome_iff_ne_none]
      have ht : (s.frameEnded l).lineTest l code = some (if s.phase ≠ .running then .starting
          else if (s.line l).deferred ≠ none then .busy else .unknownRequest) := by
        simp only [State.lineTest, State.frameEnded_phase, State.frameEnded_line, if_true, hn, hd, ne_abortCode h, ne_eq,
          not_false_eq_true, and_true]
        repeat' split
        all_goals trivial
      rw [State.request_test _ _ _ _ _ _ hp (by omega) ht]

theorem exec_rejected (first : Option Byte) : exec (.rejected l first) s = .next (
    if s.phase = .halted then s
    else if 4 ≤ (s.line l).replies.length then s.frameEnded l
    else s.said l (first.getD 0x80) .rejected []) := by
  have hb : replyBody (first.getD 0) .rejected [] = replyBody (first.getD 0x80) .rejected [] := by cases first <;> rfl
  show Host.Outcome.next (s.rejectFrame l first) = _
  congr 1
  unfold State.rejectFrame State.said State.answered
  simp only [hb, State.replyFull, State.frameEnded_line, if_true, decide_eq_true_eq]

theorem exec_frameSent : exec (.frameSent l) s = .next (
    let ln := s.line l
    match ln.sending with
    | none => s
    | some f =>
      match f.second with
      | some frame => s.putLine l { ln with sending := some ⟨frame, none⟩ }
      | none =>
        match ln.replies with
        | first :: rest => s.putLine l { ln with
            replies := rest, sending := some ⟨frameOf 0xA5 first.body, first.second.map (frameOf 0xA5)⟩ }
        | [] =>
          if ln.notice = true ∧ ln.pendingSet ≠ 0 then
            s.putLine l { ln with
              notice := false
              sending := some ⟨frameOf 0xA6 (be 2 ln.pendingSet.toNat ++ [byteOf s.startResult.code]), none⟩ }
          else s.putLine l { ln with notice := false, sending := none }) := by
  show Host.Outcome.next (s.frameSent l) = _
  congr 1
  unfold State.frameSent
  dsimp only
  cases hs : (s.line l).sending with
  | none => rfl
  | some f =>
    have hres : ∀ x, (s.putLine l x).startResult = s.startResult := fun _ => rfl
    simp only [State.pump, State.putLine_line, if_true, State.putLine_putLine, hres]
    cases h2 : f.second with
    | some frame => rfl
    | none =>
      cases hr : (s.line l).replies with
      | cons first rest => 
        simp only [LineState.pump, Option.map_none]
        rfl
      | nil =>
        simp only [LineState.pump, Option.map_none]
        cases hn : (s.line l).notice with
        | false => simp
        | true =>
          by_cases hz : (s.line l).pendingSet = 0
          · simp [hz]
          · simp only [hz, if_true, if_false, ne_eq, not_false_eq_true, and_self]
            rfl

/-! ## ABORT -/

/-- The deferred request of the office line is done with. -/
def State.undeferred (s : State) : State := s.putLine officeLine { s.line officeLine with deferred := none }

/-- The owner of an ABORT acts alike behind the end of the request's frame and with the deferred request gone. -/
structure BlindTo (f : State → State) : Prop where
  frameEnded : ∀ s l, f (s.frameEnded l) = (f s).frameEnded l
  undeferred : ∀ s, f s.undeferred = (f s).undeferred

theorem BlindTo.comp {f g : State → State} (hf : BlindTo f) (hg : BlindTo g) : BlindTo (fun s => g (f s)) :=
  ⟨fun s l => by rw [hf.frameEnded, hg.frameEnded], fun s => by rw [hf.undeferred, hg.undeferred]⟩

theorem State.undeferred_raise (c : NoticeClass) (sub : Subject) : s.undeferred.raise c sub = (s.raise c sub).undeferred := by
  apply State.ext_lines
  · unfold State.raise
    by_cases hr : s.phase = .running
    · rw [if_pos hr, if_pos (show s.undeferred.phase = .running from hr)]; rfl
    · rw [if_neg hr, if_neg (show ¬s.undeferred.phase = .running from hr)]
  · intro m
    have hr : s.undeferred.receives m c sub = s.receives m c sub := rfl
    have hp : s.undeferred.phase = s.phase := rfl
    have hc : ∀ ln : LineState, LineState.receive { ln with deferred := none } c = { ln.receive c with deferred := none } := by
      intro ln; simp only [LineState.receive]; split <;> rfl
    simp only [State.raise_line, hr, hp]
    simp only [State.undeferred, State.putLine_line, State.raise_line]
    by_cases hm : m = officeLine
    · subst hm; simp only [if_true]; split <;> simp [hc]
    · simp [hm]

theorem BlindTo.setPrinterState (p : PrinterId) (st : PrinterState) : BlindTo (·.setPrinterState p st) := by
  constructor
  · intro s l
    simp only [State.setPrinterState, show (s.frameEnded l).ctl p = s.ctl p from rfl,
      show (s.frameEnded l).mapCtl p (·.enter st) = (s.mapCtl p (·.enter st)).frameEnded l from rfl, State.frameEnded_raise]
    split <;> rfl
  · intro s
    simp only [State.setPrinterState, show s.undeferred.ctl p = s.ctl p from rfl,
      show s.undeferred.mapCtl p (·.enter st) = (s.mapCtl p (·.enter st)).undeferred from rfl, State.undeferred_raise]
    split <;> rfl

theorem BlindTo.liftOffline (p : PrinterId) : BlindTo (·.liftOffline p) := by
  constructor
  · intro s l
    simp only [State.liftOffline, State.sendOp, show (s.frameEnded l).ctl p = s.ctl p from rfl]
    repeat' split
    all_goals rfl
  · intro s
    simp only [State.liftOffline, State.sendOp, show s.undeferred.ctl p = s.ctl p from rfl]
    repeat' split
    all_goals rfl

theorem BlindTo.mapCtl (p : PrinterId) (f : Controller → Controller) : BlindTo (·.mapCtl p f) := ⟨fun _ _ => rfl, fun _ => rfl⟩

theorem BlindTo.returnFromLoad (p : PrinterId) (g : Load) : BlindTo (·.returnFromLoad p g) := by
  have hm := BlindTo.mapCtl p fun c => { c with load := none }
  unfold State.returnFromLoad
  dsimp only
  cases g.takenIn
  case idle => exact hm.comp (.setPrinterState p .idle)
  case offline => exact hm.comp (.liftOffline p)
  all_goals exact hm

/-- ABORT with nothing deferred replies OK. -/
theorem exec_abort_none (hr : s.phase = .running) (hq : (s.line l).replies.length < 4) (hd : (s.line l).deferred = none) :
    exec (.abort l) s = .next ((s.answered l 0x04 .ok []).afterEvent) := by
  rw [exec_ready (.abort l) (l := l) rfl (by decide) (.inr (by decide)) ⟨hr, hd, hq⟩]
  congr 1
  refine Served.finish_of_accept (u := s) ?_
  simp [serveRequest, serveAbort, hd]

/-- ABORT stops the office line's deferred request, whose reply joins the queue before ABORT's own. -/
theorem exec_abort_some {d : Deferred} (hr : s.phase = .running) (hq : (s.line officeLine).replies.length < 4)
    (hd : (s.line officeLine).deferred = some d) (hb : BlindTo (·.stopDeferred d))
    (hk : ((s.stopDeferred d).line officeLine).deferred = some d) :
    exec (.abort officeLine) s = .next
      ((((s.undeferred.stopDeferred d).answered officeLine d.code .aborted []).answered officeLine 0x04 .ok []).afterEvent) := by
  show Host.Outcome.next (s.request officeLine 0x04 State.afterEvent (serveAbort officeLine)) = _
  congr 1
  have hp : s.phase ≠ .halted := by rw [hr]; simp
  have ht : (s.frameEnded officeLine).lineTest officeLine 0x04 = none := by
    simp [State.lineTest, hr, requestCodes, officeCodes, abortCode]
  have hs : (s.frameEnded officeLine).stopDeferred d = (s.stopDeferred d).frameEnded officeLine := hb.frameEnded s officeLine
  have hu : s.undeferred.stopDeferred d = (s.stopDeferred d).undeferred := hb.undeferred s
  simp only [State.request, hp, if_false, State.replyFull, State.frameEnded_line, if_true, Nat.not_le.mpr hq, decide_false,
    Bool.false_eq_true, ht, serveAbort, hd, hs, State.endDeferred, hk, accept, Served.tookEffect, beq_self_eq_true, hu]
  congr 1
  simp [State.answered, State.queueReply, State.frameEnded, State.undeferred, Answered.reply]

theorem BlindTo.abortLoad (p : PrinterId) : BlindTo (·.abortLoad p) := by
  constructor
  · intro s l
    simp only [State.abortLoad, show (s.frameEnded l).ctl p = s.ctl p from rfl]
    split
    · rfl
    · rename_i g hg
      exact ((BlindTo.mapCtl p _).comp (.returnFromLoad p g)).frameEnded s l
  · intro s
    simp only [State.abortLoad, show s.undeferred.ctl p = s.ctl p from rfl]
    split
    · rfl
    · rename_i g hg
      exact ((BlindTo.mapCtl p _).comp (.returnFromLoad p g)).undeferred s

theorem State.raise_deferred (c : NoticeClass) (sub : Subject) : ((s.raise c sub).line l).deferred = (s.line l).deferred := by
  rw [State.raise_line]
  split
  · exact (LineState.receive_frame _ _).2.2
  · rfl

theorem State.setPrinterState_deferred (p : PrinterId) (st : PrinterState) :
    ((s.setPrinterState p st).line l).deferred = (s.line l).deferred := by
  simp only [State.setPrinterState]
  split
  · rfl
  · exact State.raise_deferred _ _ _ _

theorem State.liftOffline_deferred (p : PrinterId) : ((s.liftOffline p).line l).deferred = (s.line l).deferred := by
  simp only [State.liftOffline, State.sendOp]
  repeat' split
  all_goals rfl

/-- The return from a load leaves the deferred request to its end. -/
theorem State.returnFromLoad_deferred (p : PrinterId) (g : Load) :
    ((s.returnFromLoad p g).line l).deferred = (s.line l).deferred := by
  unfold State.returnFromLoad
  dsimp only
  split
  · exact State.setPrinterState_deferred _ _ _ _
  · exact State.liftOffline_deferred _ _ _
  · rfl

theorem State.abortLoad_deferred (p : PrinterId) : ((s.abortLoad p).line l).deferred = (s.line l).deferred := by
  unfold State.abortLoad
  split
  · rfl
  · exact State.returnFromLoad_deferred _ _ _ _

/-- An aborted load's printer: no operation of the load waits, and the answer to one sent will be set aside (R10). -/
def Controller.loadStopped (c : Controller) : Controller :=
  { c with
    load := none
    settling := false
    waiting := c.waiting.filter (!·.isWork)
    outstanding := c.outstanding.map fun o => if o.purpose = .load then { o with purpose := .stopped } else o }

theorem State.abortLoad_eq {p : PrinterId} {g : Load} (hg : (s.ctl p).load = some g) : s.abortLoad p =
    match g.takenIn with
    | .idle => (s.putCtl p (s.ctl p).loadStopped).setPrinterState p .idle
    | .offline => (s.putCtl p (s.ctl p).loadStopped).liftOffline p
    | _ => s.putCtl p (s.ctl p).loadStopped := by
  simp only [State.abortLoad, hg, State.returnFromLoad, State.mapCtl, State.putCtl_putCtl, State.putCtl_ctl, if_true] <;> rfl

/-- Settles O27: the frames that are no request, the end of a frame sent, and ABORT. -/
theorem otherFramesAreAnswered : Obligations.OtherFramesAreAnswered := by
  refine ⟨fun s l => ⟨fun code h => exec_unknownRequest s l h, exec_rejected s l, rfl, exec_frameSent s l⟩, fun s l hr hq =>
    ⟨exec_abort_none s l hr hq, fun p => ⟨?_, ?_⟩⟩⟩
  · rintro hd rfl
    rw [exec_abort_some s hr hq hd (.mapCtl p fun c => { c with resetWait := false }) hd]
    rfl
  · rintro g hg hd rfl
    rw [exec_abort_some s hr hq hd (.abortLoad p) ((s.abortLoad_deferred _ p).trans hd)]
    rw [show s.undeferred.stopDeferred (.loadPack p) = _ from s.undeferred.abortLoad_eq hg]
    rfl

end

end Sys2Proof.Machine

/-! # Start-up, stage by stage -/

namespace Sys2Proof.Machine

open Sys2Proof Sys2Proof.Machine

section
variable (s : State) (straps : Straps) (stage : StartStage)

/-! ## The stages in their order -/

/-- Start-up from where `a` stages are taken takes the stages `a` to that named. -/
theorem State.startTo_filter : s.startTo straps stage =
    ((List.range 8).filter fun n => decide (s.phase.stagesTaken ≤ n ∧ n ≤ stageIndex stage)).foldl
      (fun t n => t.runStage straps n) s := by
  rw [List.foldl_filter]
  simp only [State.startTo, decide_eq_true_eq]

theorem stageIndex_lt : stageIndex stage < 8 := by cases stage <;> simp [stageIndex]; omega

/-- Start-up has nothing to do for a stage that is taken. -/
theorem State.startTo_taken (h : stageIndex stage < s.phase.stagesTaken) : s.startTo straps stage = s := by
  rw [State.startTo_filter, List.filter_eq_nil_iff.mpr, List.foldl_nil]
  intro n _
  simp only [decide_eq_true_eq]
  omega

/-- Start-up runs the next stage, and goes on from there. -/
theorem State.startTo_next {n : Nat} (hn : s.phase.stagesTaken = n) (h : n ≤ stageIndex stage) :
    s.startTo straps stage = (s.runStage straps n).startTo straps stage := by
  have hk := stageIndex_lt stage
  have hfilter : ∀ k a : Fin 8, a ≤ k → (List.range 8).filter (fun n => decide (a.val ≤ n ∧ n ≤ k.val)) =
      a.val :: (List.range 8).filter fun n => decide (a.val + 1 ≤ n ∧ n ≤ k.val) := by decide
  rw [State.startTo_filter, State.startTo_filter, s.runStage_stagesTaken straps n (by omega), hn]
  rw [hfilter ⟨stageIndex stage, hk⟩ ⟨n, by omega⟩ h, List.foldl_cons]

/-- The command of the next stage runs that stage alone. -/
theorem exec_startUp_next (h : s.phase.stagesTaken = stageIndex stage) :
    exec (.startUp straps stage) s = .next (s.runStage straps (stageIndex stage)) := by
  show Host.Outcome.next (s.startTo straps stage) = _
  have hk := stageIndex_lt stage
  rw [s.startTo_next straps stage h le_rfl, State.startTo_taken]
  rw [s.runStage_stagesTaken straps _ (by omega)]
  omega

/-- The stages in their order. -/
def startOrder : List StartStage := [.first, .recover 0, .recover 1, .recover 2, .recover 3, .retained, .volatile, .opened]

theorem startOrder_idxOf : startOrder.idxOf stage = stageIndex stage := by
  cases stage with
  | recover p => fin_cases p <;> rfl
  | _ => rfl

theorem stageIndex_startOrder : ∀ n : Fin 8, stageIndex (startOrder[n.val]'n.isLt) = n.val := by decide

/-- A command of start-up is the commands of its stages in a row. -/
theorem exec_startUp_stages : ∀ (k a : Nat) (s : State), s.phase.stagesTaken = a → k = stageIndex stage + 1 - a →
    exec (.startUp straps stage) s =
      runCommands (((startOrder.take (stageIndex stage + 1)).drop a).map fun x => .startUp straps x) s := by
  have hlt := stageIndex_lt stage
  have hlen : (startOrder.take (stageIndex stage + 1)).length = stageIndex stage + 1 := by
    rw [List.length_take]; exact min_eq_left (by show _ ≤ 8; omega)
  intro k
  induction k with
  | zero =>
    intro a s ha hk
    rw [List.drop_of_length_le (by omega)]
    exact congrArg _ (s.startTo_taken straps stage (by omega))
  | succ k ih =>
    intro a s ha hk
    have hal : a < startOrder.length := by show a < 8; omega
    have hstage : stageIndex startOrder[a] = a := stageIndex_startOrder ⟨a, by omega⟩
    have hone := exec_startUp_next s straps startOrder[a] (by rw [hstage]; exact ha)
    rw [hstage] at hone
    rw [List.drop_eq_getElem_cons (by omega), List.getElem_take, List.map_cons]
    have hrest := ih (a + 1) (s.runStage straps a) (s.runStage_stagesTaken straps a (by omega)) (by omega)
    rw [runCommands, hone]
    show _ = runCommands _ (s.runStage straps a)
    rw [← hrest]
    exact congrArg Host.Outcome.next (s.startTo_next straps stage ha (by omega))

end

/-! ## What each stage does -/

section
variable (s : State) (straps : Straps)

/-- The state with a number of start-up's stages taken. -/
def State.atStage (n : Nat) : State := { s with phase := .starting n }

theorem State.runStage_recover (p : PrinterId) : s.runStage straps (p.val + 1) =
    match s.startResult with
    | .storeKept => (s.atStage (p.val + 2)).recover p
    | .storeLost => s.atStage (p.val + 2) := by
  have hstage : s.runStage straps (p.val + 1) = match printerOf (p.val + 1), s.startResult with
      | some q, .storeKept => (s.atStage (p.val + 2)).recover q
      | _, _ => s.atStage (p.val + 2) := by
    fin_cases p <;> rfl
  rw [hstage, printerOf_succ]
  cases s.startResult <;> rfl

theorem State.recover_none (p : PrinterId) (h : s.inProgress p = none) : s.recover p = s := by
  rw [State.recover, h]

/-- Nothing is raised while the lines are closed (R199). -/
theorem State.raise_closed (c : NoticeClass) (sub : Subject) (h : s.phase ≠ .running) : s.raise c sub = s := if_neg h

theorem State.noteRecords_closed (h : s.phase ≠ .running) : s.noteRecords = s.putStock s.stock.noted := by
  rw [State.noteRecords_eq]
  rcases (s.putStock s.stock.noted).notedLow_cases s.stock.recordsLow with e | e
  · rw [e]; exact State.raise_closed _ _ _ h
  · exact e

/-- A sequence of outcomes handed over changes the window lines' lists alone. -/
theorem State.handOvers_eq (os : List Outcome) : os.foldl (fun t o => t.handOver o) s =
    { s with lines := Vector.ofFn fun l => if l = officeLine then s.line l
      else { s.line l with outcomes := (os.filter fun o : Outcome => o.session == l).foldl joinOutcome (s.line l).outcomes } } := by
  refine State.ext_lines _ _ ?_ fun m => ?_
  · refine (State.handOvers_frame (fun t => { t with
      lines := Vector.ofFn fun l => if l = officeLine then s.line l
        else { s.line l with outcomes := (os.filter fun o : Outcome => o.session == l).foldl joinOutcome (s.line l).outcomes } })
      (fun t o => ?_) os s)
    unfold State.handOver
    split <;> rfl
  · rw [State.handOvers_line]
    simp [State.line]

/-- A list of outcomes filled from empty keeps the newest eight (R188). -/
theorem joinOutcomes_nil (os : List Outcome) : os.foldl joinOutcome [] = os.drop (os.length - 8) := by
  induction os using List.reverseRecOn with
  | nil => rfl
  | append_singleton os o ih =>
    rw [List.foldl_append, List.foldl_cons, List.foldl_nil, ih, joinOutcome, List.length_append, List.length_singleton,
      List.length_drop]
    rcases Nat.lt_or_ge os.length 8 with h | h
    · rw [Nat.sub_eq_zero_of_le (by omega : os.length ≤ 8)]
      simp [show os.length + 1 - 8 = 0 by omega]
    · rw [show os.length - (os.length - 8) + 1 - 8 = 1 by omega, ← List.drop_append_of_le_length (by omega), List.drop_drop]
      congr 1
      omega

/-- A flag of the loaded pack in a printer. -/
def State.lowLoaded (s : State) (p : PrinterId) : Bool := (s.loadedPack p).any (·.2.lowFlag)

theorem State.startController_eq (p : PrinterId) : s.startController p = { Controller.startUp with
    lamp := if s.lowLoaded p then .slowFlash else .off, lampOn := s.lowLoaded p } := by
  unfold State.startController State.lowLoaded
  cases s.loadedPack p with
  | none => rfl
  | some x => obtain ⟨_, k⟩ := x; cases h : k.lowFlag <;> simp [h] <;> rfl

/-- The outcomes set aside for a line, as they stand in its list. -/
def State.asideFor (s : State) (l : Line) : List Outcome :=
  let mine := s.setAside.filter fun o => o.session == l
  if l = officeLine then [] else mine.drop (mine.length - 8)

theorem State.volatileStage_eq (h : ∀ l, (s.line l).outcomes = []) : s.volatileStage = { s with
    lines := Vector.ofFn fun l => { s.line l with outcomes := s.asideFor l }
    lanes := Vector.replicate 4 ⟨[], []⟩, audit := none, drawers := Vector.replicate 7 false
    controllers := Vector.ofFn fun p => { Controller.startUp with
      lamp := if s.lowLoaded p then .slowFlash else .off, lampOn := s.lowLoaded p } } := by
  have hlines : (fun l => if l = officeLine then s.line l
      else { s.line l with outcomes := (s.setAside.filter fun o : Outcome => o.session == l).foldl joinOutcome (s.line l).outcomes }) =
      fun l => { s.line l with outcomes := s.asideFor l } := by
    funext l
    unfold State.asideFor
    split
    · rw [← h l]
    · rw [h l, joinOutcomes_nil]
  have hctls : s.startController = fun p => { Controller.startUp with
      lamp := if s.lowLoaded p then .slowFlash else .off, lampOn := s.lowLoaded p } := funext s.startController_eq
  rw [State.volatileStage, State.handOvers_eq, hlines, hctls]

theorem State.line_ofFn {t : State} {f : Line → LineState} (l : Line) (h : t.lines = Vector.ofFn f) : t.line l = f l := by
  simp [State.line, h]

theorem State.firstStage_line (l : Line) : (s.firstStage straps).line l = .startUp := by
  simp [State.line, State.firstStage]

/-- A line just set opens with the START-UP notice going out (R199). -/
theorem LineState.startUp_opens (os : List Outcome) (r : StartResult) :
    (LineState.opened { LineState.startUp with outcomes := os }).pump r = { LineState.startUp with
      outcomes := os, sending := some ⟨noticeFrame startUpSet r, none⟩ } := by
  simp [LineState.opened, LineState.pump, LineState.startUp, startUpSet]

theorem State.openLines_eq : s.openLines = { s with
    phase := .running, setAside := [], lines := Vector.ofFn fun l => (s.line l).opened.pump s.startResult } := by
  simp [State.openLines, State.pumpAll, State.line]

/-- The stage of a printer without a job, or on the store-loss path, goes on alone. -/
theorem State.runStage_passes (p : PrinterId) (h : s.startResult = .storeLost ∨ s.inProgress p = none) :
    s.runStage straps (p.val + 1) = s.atStage (p.val + 2) := by
  rw [State.runStage_recover]
  split
  · rename_i hk
    have hn : s.inProgress p = none := h.resolve_left (by rw [hk]; simp)
    exact State.recover_none _ _ hn
  · rfl

/-- The four printers' stages without a job, or on the store-loss path. -/
theorem State.runStages_pass (h : s.startResult = .storeLost ∨ ∀ p, s.inProgress p = none) :
    (((s.runStage straps 1).runStage straps 2).runStage straps 3).runStage straps 4 = s.atStage 5 := by
  have pass : ∀ (t : State) (p : PrinterId), t.startResult = s.startResult → t.progress = s.progress →
      t.runStage straps (p.val + 1) = t.atStage (p.val + 2) := by
    intro t p h1 h2
    refine State.runStage_passes _ _ _ (h.imp (h1.trans ·) fun hn => ?_)
    exact (congrArg (·[p]) h2).trans (hn p)
  have p1 : s.runStage straps 1 = s.atStage 2 := pass s 0 rfl rfl
  have p2 : (s.atStage 2).runStage straps 2 = s.atStage 3 := pass (s.atStage 2) 1 rfl rfl
  have p3 : (s.atStage 3).runStage straps 3 = s.atStage 4 := pass (s.atStage 3) 2 rfl rfl
  have p4 : (s.atStage 4).runStage straps 4 = s.atStage 5 := pass (s.atStage 4) 3 rfl rfl
  rw [p1, p2, p3, p4]

/-- A kept store settled: nothing pending, no entry OPEN, the records-low condition set (R198). -/
def State.keptSettled (s : State) : State := { s with
  signature := .valid
  till := { s.till with sessions := Vector.ofFn fun n => (s.session n).settledOnly }
  log := { s.log with entries := s.log.entries.map (·.clearedBy s.clock.now) }
  stock := s.stock.noted }

theorem State.settleKept_closed (h : s.phase ≠ .running) : s.settleKept = s.keptSettled := by
  unfold State.settleKept
  dsimp only
  rw [State.noteRecords_closed]
  · rfl
  · exact h

theorem State.runStage_kept (h : s.startResult = .storeKept) : s.runStage straps 5 = (s.atStage 6).keptSettled := by
  show (match s.startResult with
    | .storeKept => State.settleKept (s.atStage 6)
    | .storeLost => _) = _
  rw [h]
  exact State.settleKept_closed _ (show Phase.starting 6 ≠ .running by simp)

theorem State.runStage_lost (h : s.startResult = .storeLost) :
    s.runStage straps 5 = (s.atStage 6).settleLost := by
  show (match s.startResult with
    | .storeKept => _
    | .storeLost => State.settleLost (s.atStage 6)) = _
  rw [h]

/-- Start-up from a halted part, to its end. -/
theorem State.startTo_opened (h : s.phase = .halted) (hj : s.signature ≠ .valid ∨ ∀ p, s.inProgress p = none) :
    s.startTo straps .opened = (((((s.firstStage straps).atStage 5).runStage straps 5).runStage straps
      6).runStage straps 7) := by
  have taken : ∀ (t : State) n, n ≤ 7 → (t.runStage straps n).phase.stagesTaken = n + 1 := fun t n => t.runStage_stagesTaken straps n
  have step : ∀ (t : State) n, t.phase.stagesTaken = n → n ≤ 7 →
      t.startTo straps .opened = (t.runStage straps n).startTo straps .opened := fun t n ht hn =>
    t.startTo_next straps .opened ht hn
  rw [step _ 0 (by rw [h]; rfl) (by omega), step _ 1 (taken _ _ (by omega)) (by omega), step _ 2 (taken _ _ (by omega)) (by omega),
    step _ 3 (taken _ _ (by omega)) (by omega), step _ 4 (taken _ _ (by omega)) (by omega),
    step _ 5 (taken _ _ (by omega)) (by omega), step _ 6 (taken _ _ (by omega)) (by omega),
    step _ 7 (taken _ _ (by omega)) (by omega), State.startTo_taken, State.runStages_pass]
  · rfl
  · refine hj.imp (fun hs => ?_) id
    show (if s.signature = .valid then StartResult.storeKept else .storeLost) = _
    rw [if_neg hs]
  · rw [taken _ _ le_rfl]; exact Nat.lt_succ_self 7

/-- The last two stages from lines just set: the volatile state, and the lines open with the START-UP notice going out. -/
theorem State.runStages_open (h : ∀ l, s.line l = .startUp) : (s.runStage straps 6).runStage straps 7 = { s with
    phase := .running, setAside := [], audit := none, drawers := Vector.replicate 7 false, lanes := Vector.replicate 4 ⟨[], []⟩
    controllers := Vector.ofFn fun p => { Controller.startUp with
      lamp := if s.lowLoaded p then .slowFlash else .off, lampOn := s.lowLoaded p }
    lines := Vector.ofFn fun l => { LineState.startUp with
      outcomes := s.asideFor l, sending := some ⟨noticeFrame startUpSet s.startResult, none⟩ } } := by
  have h6 : s.runStage straps 6 = (s.atStage 7).volatileStage := rfl
  have h7 : ∀ t : State, t.runStage straps 7 = (t.atStage 8).openLines := fun _ => rfl
  have hline : ∀ l, (s.atStage 7).line l = .startUp := h
  rw [h6, h7, State.volatileStage_eq _ fun l => by rw [hline]; rfl, State.openLines_eq]
  simp only [hline]
  congr 1
  refine congrArg Vector.ofFn (funext fun l => ?_)
  exact (congrArg (fun ln => (LineState.opened ln).pump s.startResult) (State.line_ofFn l rfl)).trans
    (LineState.startUp_opens _ _)

end

/-- Settles O30: the stages on the store-loss path, each computed. -/
theorem startUpAfterStoreLoss : Obligations.StartUpAfterStoreLoss := by
  intro s straps h hv
  show Host.Outcome.next (s.startTo straps .opened) = _
  have hr : ((s.firstStage straps).atStage 5).startResult = .storeLost := if_neg hv
  have haside : ∀ l, (((s.firstStage straps).atStage 5).atStage 6).settleLost.asideFor l = [] := by
    intro l; unfold State.asideFor; split <;> rfl
  have hlow : ∀ p, (((s.firstStage straps).atStage 5).atStage 6).settleLost.lowLoaded p = false := by
    intro p; fin_cases p <;> rfl
  have hline : ∀ l, (((s.firstStage straps).atStage 5).atStage 6).settleLost.line l = .startUp := s.firstStage_line straps
  rw [State.startTo_opened s straps h (.inl hv), State.runStage_lost _ _ hr, State.runStages_open _ _ hline]
  simp only [haside, hlow, show (((s.firstStage straps).atStage 5).atStage 6).settleLost.startResult = .storeLost from hr]
  rfl

/-! ## A kept store -/

section
variable {s : State} {p : PrinterId}

/-- The lines stand while they are closed (R199). -/
def State.SameLines (s t : State) : Prop := t.phase = s.phase ∧ (s.phase ≠ .running → t.lines = s.lines)

namespace State.SameLines

theorem refl (s : State) : s.SameLines s := ⟨rfl, fun _ => rfl⟩

theorem trans {t u : State} (h1 : s.SameLines t) (h2 : t.SameLines u) : s.SameLines u :=
  ⟨h2.1.trans h1.1, fun h => (h2.2 (by rwa [h1.1])).trans (h1.2 h)⟩

theorem raise (s : State) (c : NoticeClass) (sub : Subject) : s.SameLines (s.raise c sub) :=
  ⟨s.raise_phase c sub, fun h => by rw [State.raise_closed _ _ _ h]⟩

theorem notedLow (s : State) (b : Bool) : s.SameLines (s.notedLow b) := by
  rcases s.notedLow_cases b with h | h <;> rw [h]
  · exact raise s _ _
  · exact refl s

theorem noteRecords (s : State) : s.SameLines s.noteRecords := by
  rw [State.noteRecords_eq]
  exact trans (t := s.putStock s.stock.noted) ⟨rfl, fun _ => rfl⟩ (notedLow _ _)

theorem addJobRecord (s : State) (p : PrinterId) (slot : Slot) (first span : Nat) (reason : Reason) :
    s.SameLines (s.addJobRecord p slot first span reason) := by
  unfold State.addJobRecord
  split
  · exact refl s
  · refine trans (t := State.mapJob _ p _) ⟨?_, fun _ => ?_⟩ (noteRecords _) <;>
      (unfold State.mapJob; split <;> rfl)

theorem moveCursor (s : State) (slot : Slot) (serial : Nat) : s.SameLines (s.moveCursor slot serial) := by
  unfold State.moveCursor
  split
  · exact refl s
  · dsimp only
    split
    · split
      · refine trans ?_ (raise _ _ _)
        exact ⟨rfl, fun _ => rfl⟩
      · exact ⟨rfl, fun _ => rfl⟩
    · exact refl s

theorem undoCoupons (n : SessionId) (k : Kind) (cs : List Coupon) : ∀ s : State, s.SameLines (s.undoCoupons p n k cs) := by
  induction cs with
  | nil => exact refl
  | cons c cs ih => exact fun s => ((addJobRecord s p _ _ _ _).trans ⟨rfl, fun _ => rfl⟩).trans (ih _)

theorem loseForm (s : State) : s.SameLines (s.loseForm p) := by
  unfold State.loseForm
  split
  · split
    · exact ((addJobRecord ..).trans (moveCursor ..)).trans ⟨rfl, fun _ => rfl⟩
    · exact refl s
  · exact refl s

theorem dropJob (s : State) : s.SameLines (s.dropJob p) := by
  unfold State.dropJob
  split
  · exact refl s
  · refine trans ?_ (noteRecords _)
    exact ⟨rfl, fun _ => rfl⟩

end State.SameLines

theorem recover_eq {g : Progress} (hg : s.inProgress p = some g) : s.recover p =
    { (s.formsUndone p g .printerReset).dropJob p with
      setAside := ((s.formsUndone p g .printerReset).dropJob p).setAside ++ [g.job.powerOutcome] } := by
  simp only [State.recover, hg, State.formsUndone, if_true]

/-- The stage of the volatile state leaves the retained items, and puts the outcomes set aside in the lines' lists. -/
theorem runStage_volatile (straps : Straps) (ho : ∀ l, (s.line l).outcomes = []) : s.runStage straps 6 =
    { s with
      phase := .starting 7
      lines := Vector.ofFn fun l => { s.line l with outcomes := s.asideFor l }
      lanes := Vector.replicate 4 ⟨[], []⟩, audit := none, drawers := Vector.replicate 7 false
      controllers := Vector.ofFn fun p => { Controller.startUp with
        lamp := if s.lowLoaded p then .slowFlash else .off, lampOn := s.lowLoaded p } } :=
  (s.atStage 7).volatileStage_eq ho

/-- START-UP becomes pending on a line that opens, and the notice goes out behind what is being sent and what waits (R179,
R199). -/
theorem LineState.opens_eq (x : LineState) (r : StartResult) : x.opened.pump r =
    let ln := { x with pendingSet := x.pendingSet ||| 0x8000 }
    if ln.sending ≠ none then { ln with notice := true }
    else match ln.replies with
      | first :: rest => { ln with
          notice := true, replies := rest
          sending := some ⟨frameOf 0xA5 first.body, first.second.map (frameOf 0xA5)⟩ }
      | [] => { ln with
          notice := false
          sending := some ⟨frameOf 0xA6 (be 2 ln.pendingSet.toNat ++
            [match r with | .storeKept => 0x00 | .storeLost => 0x01]), none⟩ } := by
  have hne : x.pendingSet ||| 0x8000 ≠ 0 := by
    intro h
    have := congrArg (fun b : BitVec 16 => b.getLsbD 15) h
    simp at this
  have hne' : x.opened.pendingSet ≠ 0 := hne
  have hs : x.opened.sending = x.sending := rfl
  have hq : x.opened.replies = x.replies := rfl
  have hn : x.opened.notice = true := rfl
  unfold LineState.pump
  rw [hs, hq, hn]
  dsimp only
  cases hf : x.sending with
  | some f => simp [LineState.opened, startUpSet, hf]
  | none =>
    cases x.replies with
    | cons first rest => rfl
    | nil =>
      rw [if_pos rfl, if_neg hne']
      cases r <;> rfl

theorem LineState.opens_keeps (x : LineState) (r : StartResult) : (x.opened.pump r).outcomes = x.outcomes ∧
    (x.opened.pump r).pendingSet = x.pendingSet ||| 0x8000 ∧ (x.opened.pump r).body = x.body := by
  rw [LineState.opens_eq]
  dsimp only
  split
  · exact ⟨rfl, rfl, rfl⟩
  · split <;> exact ⟨rfl, rfl, rfl⟩

/-- The stage that recovers a printer's job (R98, R103, R115). -/
theorem runStage_recovers (straps : Straps) {g : Progress} (hk : s.startResult = .storeKept)
    (hg : s.inProgress p = some g)
    (hall : g.job.printed.length + (if g.formInHand then 1 else 0) ≤ g.job.reservation)
    (hres : g.job.reservation ≤ s.stock.reservation) :
    let j := g.job
    let n := j.session
    let lost := s.lostForm p g .printerReset
    let old := (s.session n).counters[j.kind]
    let t := s.runStage straps (p.val + 1)
    t.phase = .starting (p.val + 2) ∧ t.inProgress p = none ∧ (∀ q, q ≠ p → t.inProgress q = s.inProgress q) ∧
      t.setAside = s.setAside ++ [⟨n, j.issue, .power, j.printed, false, false⟩] ∧
      t.stock.exceptions = s.stock.exceptions ++ j.printed.map (s.formRecord n .incomplete) ++ lost.map (s.formRecord n .lost) ∧
      t.stock.reservation = s.stock.reservation - j.reservation ∧
      (∀ slot k, s.pack slot = some k → t.pack slot = some (
        if lost ≠ [] ∧ s.loaded p = some slot then k.pastOne (s.kind k.kind).threshold else k)) ∧
      (∀ m, m ≠ n → t.session m = s.session m) ∧
      t.session n = { s.session n with
        counters := (s.session n).counters.set j.kind { old with
          incomplete := if j.printed = [] then old.incomplete else min (old.incomplete + j.printed.length) 9999999
          failed := if lost = [] then old.failed else min (old.failed + 1) 9999999 } } ∧
      t.controllers = s.controllers ∧ t.log = s.log ∧ t.clock = s.clock ∧ t.lines = s.lines := by
  have ht : s.runStage straps (p.val + 1) = (s.atStage (p.val + 2)).recover p := by rw [State.runStage_recover, hk]
  have hg' : (s.atStage (p.val + 2)).inProgress p = some g := hg
  obtain ⟨h, hstay, hlose⟩ := formsUndone_recorded hg' .printerReset
  have hlines : (s.atStage (p.val + 2)).SameLines (((s.atStage (p.val + 2)).formsUndone p g .printerReset).dropJob p) := by
    refine .trans ?_ (.dropJob _)
    unfold State.formsUndone
    exact .trans (.undoCoupons _ _ _ _) (.loseForm _)
  dsimp only
  rw [ht, recover_eq hg']
  generalize (s.atStage (p.val + 2)).formsUndone p g .printerReset = u at h hstay hlose hlines ⊢
  have hd := dropJob_eq h.job
  have hset := (State.dropJob_settings u p).trans h.settings
  have hsession : ∀ m, (u.dropJob p).session m = u.session m := fun m =>
    congrArg (fun x : Till => x.sessions[m]) (u.dropJob_till p)
  have hlen : (s.lostForm p g .printerReset).length ≤ if g.formInHand then 1 else 0 := by
    unfold State.lostForm
    cases g.formInHand <;> cases s.loadedPack p <;> simp
  refine ⟨hlines.1, ?_, fun q hq => ?_, ?_, ?_, ?_, fun slot k hk => ?_, fun m hm => (hsession m).trans (h.sessions m hm),
    (hsession _).trans h.session, (State.dropJob_controllers ..).trans h.controllers, (State.dropJob_log ..).trans h.log,
    congrArg Settings.clock hset, hlines.2 (show Phase.starting _ ≠ .running by simp)⟩
  · show (u.dropJob p).inProgress p = none
    rw [hd]; simp
  · show (u.dropJob p).inProgress q = _
    rw [hd]; simp only [State.notedLow_inProgress, State.putStock_inProgress, State.putProgress_inProgress, hq, if_false]
    exact h.jobs q hq
  · exact congrArg (· ++ _) (congrArg Settings.setAside hset)
  · show (u.dropJob p).stock.exceptions = _
    rw [hd]; simp [Stock.noted, h.exceptions]
    rfl
  · show (u.dropJob p).stock.reservation = _
    rw [hd]; simp [Stock.noted, h.reservation]
    rw [show (s.atStage (p.val + 2)).stock = s.stock from rfl,
      show (s.atStage (p.val + 2)).lostForm p g .printerReset = s.lostForm p g .printerReset from rfl]
    omega
  · show (u.dropJob p).pack slot = _
    rw [pack_of_packs (State.dropJob_packs u p) slot]
    by_cases hl : s.lostForm p g .printerReset = []
    · rw [if_neg (by simp [hl])]
      exact (pack_of_packs (hstay hl) slot).trans hk
    · obtain ⟨⟨a, x⟩, ha⟩ := lostForm_loaded hl
      obtain ⟨hloaded, hslot⟩ := State.PacksAre.pack_of_loadedPack ha
      refine ((hlose a x ha hl).1 slot).trans ?_
      rw [hloaded]
      by_cases hs : slot = a
      · subst hs
        obtain rfl : k = x := Option.some.inj (hk.symm.trans hslot)
        simp [hl]
        rfl
      · rw [if_neg hs, if_neg (by rintro ⟨_, e⟩; exact hs (Option.some.inj e).symm)]
        exact hk

/-- Settles O31: each stage by what it does, and a command as the stages it still has to take. -/
theorem startUpWithKeptStore : Obligations.StartUpWithKeptStore := by
  refine ⟨fun s straps h hv hj => ?_, fun s straps => ⟨fun h hv => ?_, fun h ho => ?_, fun h => ?_⟩,
    fun s straps p h hr g hg hall hres => ?_, fun s straps => ⟨fun stage => ?_, fun h hv => ?_, fun p h hr => ?_, fun h hr => ?_, fun h hr => ?_⟩⟩
  · show Host.Outcome.next (s.startTo straps .opened) = _
    have hr : ((s.firstStage straps).atStage 5).startResult = .storeKept := if_pos hv
    have hline : ∀ l, (((s.firstStage straps).atStage 5).atStage 6).keptSettled.line l = .startUp := s.firstStage_line straps
    have hnone : ∀ p, s.inProgress p = none := fun p => by simp [State.inProgress, hj]
    rw [State.startTo_opened s straps h (.inr hnone), State.runStage_kept _ _ hr, State.runStages_open _ _ hline,
      show (((s.firstStage straps).atStage 5).atStage 6).keptSettled.startResult = .storeKept from hr]
    simp only [State.firstStage, hv, if_true]
    rfl
  · rw [exec_startUp_next _ _ _ (by rw [h]; rfl)]
    show Host.Outcome.next ((s.atStage 1).firstStage straps) = _
    simp only [State.firstStage, State.atStage, hv, if_true]
    rfl
  · rw [exec_startUp_next _ _ _ (by rw [h]; rfl)]
    refine ⟨_, congrArg _ (runStage_volatile straps ho), rfl, rfl, fun l => (State.line_ofFn l rfl).trans rfl, rfl, rfl, rfl, fun p => ?_,
      rfl, rfl, rfl, rfl, rfl, rfl, rfl, rfl, rfl, rfl⟩
    simp only [State.ctl, Fin.getElem_fin, Vector.getElem_ofFn]
    rfl
  · rw [exec_startUp_next _ _ _ (by rw [h]; rfl)]
    refine ⟨_, congrArg _ (State.openLines_eq (s.atStage 8)), rfl, rfl, fun l => ?_, rfl, rfl, rfl, rfl, rfl, rfl, rfl, rfl, rfl, rfl,
      rfl, rfl, rfl, rfl⟩
    rw [State.line_ofFn l rfl]
    obtain ⟨h1, h2, h3⟩ := (s.line l).opens_keeps s.startResult
    exact ⟨h1, h2, h3, (s.line l).opens_eq s.startResult⟩
  · rw [exec_startUp_next _ _ _ (by rw [h]; rfl)]
    have hlost : (if g.formInHand then (s.loadedPack p).toList.map fun k => (⟨k.1, k.2.cursor⟩ : Coupon) else []) =
        s.lostForm p g .printerReset := by simp [State.lostForm]
    dsimp only
    rw [hlost]
    exact ⟨_, rfl, runStage_recovers straps hr hg hall hres⟩
  · rw [exec_startUp_stages straps stage _ _ s rfl rfl, ← startOrder_idxOf stage]
    cases s.phase <;> rfl
  · rw [exec_startUp_next _ _ _ (by rw [h]; rfl)]
    show Host.Outcome.next ((s.atStage 1).firstStage straps) = _
    simp only [State.firstStage, State.atStage, hv, if_false]
    rfl
  · rw [exec_startUp_next _ _ _ (by rw [h]; rfl)]
    exact congrArg _ (State.runStage_passes s straps p hr)
  · rw [exec_startUp_next _ _ _ (by rw [h]; rfl)]
    exact congrArg _ (State.runStage_kept s straps hr)
  · rw [exec_startUp_next _ _ _ (by rw [h]; rfl)]
    exact congrArg _ (State.runStage_lost s straps hr)

end

end Sys2Proof.Machine

/-! # OK answers: the result, the sensor set, the next step -/

namespace Sys2Proof.Machine

open Sys2Proof Sys2Proof.Machine

/-! ## What does not look at the controllers, or at their sensors -/

/-- The state with other controllers. -/
def State.withCtls (s : State) (v : Vector Controller 4) : State := { s with controllers := v }

/-- An update that neither reads nor writes the controllers. -/
def CtlFree (f : State → State) : Prop := ∀ s v, f (s.withCtls v) = (f s).withCtls v

namespace CtlFree

theorem comp {f g : State → State} (hf : CtlFree f) (hg : CtlFree g) : CtlFree fun s => g (f s) := fun s v => by
  beta_reduce
  rw [hf, hg]

theorem of_eq {f : State → State} (hf : CtlFree f) {a b : State} {v : Vector Controller 4} (h : a = b.withCtls v) :
    f a = (f b).withCtls v := by rw [h, hf]

theorem raise (c : NoticeClass) (sub : Subject) : CtlFree (·.raise c sub) := fun s v => by
  beta_reduce
  unfold State.raise
  rw [show (s.withCtls v).phase = s.phase from rfl]
  split <;> rfl

theorem putProgress (p : PrinterId) (x : Option Progress) : CtlFree (·.putProgress p x) := fun _ _ => rfl

theorem notedLow (b : Bool) : CtlFree (·.notedLow b) := fun s v => by
  beta_reduce
  unfold State.notedLow
  rw [show (s.withCtls v).stock = s.stock from rfl]
  split
  · exact raise _ _ _ _
  · rfl

theorem noteRecords : CtlFree State.noteRecords := fun s v => by
  rw [State.noteRecords_eq, State.noteRecords_eq]
  exact notedLow _ (s.putStock s.stock.noted) v

theorem dropJob (p : PrinterId) : CtlFree (·.dropJob p) := fun s v => by
  beta_reduce
  unfold State.dropJob
  rw [show (s.withCtls v).inProgress p = s.inProgress p from rfl]
  split
  · rfl
  · exact noteRecords.of_eq rfl

theorem handOver (o : Outcome) : CtlFree (·.handOver o) := fun s v => by
  beta_reduce
  unfold State.handOver
  split <;> rfl

theorem drawerNoticed (n : SessionId) (b : DrawerState) : CtlFree (·.drawerNoticed n b) := fun s v => by
  beta_reduce
  unfold State.drawerNoticed
  rw [show (s.withCtls v).session n = s.session n from rfl]
  split
  · rfl
  · split
    · exact raise _ _ _ _
    · exact raise _ _ _ _
    · rfl

theorem settleTill (j : Job) : CtlFree (·.settleTill j) := fun s v => by
  beta_reduce
  unfold State.settleTill
  rw [show (s.withCtls v).session j.session = s.session j.session from rfl]
  dsimp only
  split
  · rw [State.updateEstimate_eq, State.updateEstimate_eq]
    exact of_eq (f := (·.putDrawer j.session true)) (fun _ _ => rfl)
      ((drawerNoticed j.session (s.session j.session).drawer).of_eq rfl)
  · rfl

theorem settleJob (p : PrinterId) : CtlFree (·.settleJob p) := fun s v => by
  beta_reduce
  unfold State.settleJob
  rw [show (s.withCtls v).inProgress p = s.inProgress p from rfl]
  split
  · rfl
  · rename_i g _
    exact (((settleTill g.job).comp (dropJob p)).comp (handOver _)).comp (raise _ _) s v

theorem clearEntry (p : PrinterId) : CtlFree (·.clearEntry p) := fun s v => by
  beta_reduce
  unfold State.clearEntry
  rw [show (s.withCtls v).openEntry p = s.openEntry p from rfl]
  split
  · rfl
  · refine Eq.trans ?_ (raise _ _ _ v)
    congr 1
    unfold State.mapEntry State.setEntries
    split <;> split <;> first | rfl | contradiction

theorem endDeferred (status : Status) (fields : List Byte) : CtlFree (·.endDeferred status fields) := fun s v => by
  beta_reduce
  unfold State.endDeferred
  rw [show (s.withCtls v).line officeLine = s.line officeLine from rfl]
  split <;> rfl

theorem putCtl {f : State → State} (hf : CtlFree f) (s : State) (p : PrinterId) (c : Controller) :
    f (s.putCtl p c) = (f s).putCtl p c := by
  have h1 := hf s (s.controllers.set p c)
  have h0 : f s = (f s).withCtls s.controllers := hf s s.controllers
  have h2 : (f s).controllers = s.controllers := (congrArg State.controllers h0).trans rfl
  rw [State.putCtl, State.putCtl, h2]
  exact h1

theorem ctl {f : State → State} (hf : CtlFree f) (s : State) (p : PrinterId) : (f s).ctl p = s.ctl p := by
  have h0 : f s = (f s).withCtls s.controllers := hf s s.controllers
  exact (congrArg (fun t : State => t.controllers[p]) h0).trans rfl

end CtlFree

/-- A sensor set is kept (R106). -/
def State.sensed (s : State) (p : PrinterId) (x : Sensors) : State := s.putCtl p { s.ctl p with sensors := some x }

/-- An update that acts alike whatever sensors a printer's controller keeps. -/
def SensorBlind (p : PrinterId) (f : State → State) : Prop := ∀ s x, f (s.sensed p x) = (f s).sensed p x

theorem CtlFree.blind {f : State → State} (hf : CtlFree f) (p : PrinterId) : SensorBlind p f := fun s x => by
  rw [State.sensed, State.sensed, hf.putCtl, hf.ctl]

@[simp] theorem State.sensed_ctl (s : State) (p : PrinterId) (x : Sensors) (q : PrinterId) :
    (s.sensed p x).ctl q = if q = p then { s.ctl p with sensors := some x } else s.ctl q := by
  rw [State.sensed, State.putCtl_ctl]

@[simp] theorem State.putCtl_sensed (s : State) (p : PrinterId) (c : Controller) (x : Sensors) :
    (s.putCtl p c).sensed p x = s.putCtl p { c with sensors := some x } := by
  simp [State.sensed]

@[simp] theorem State.sensed_putCtl (s : State) (p : PrinterId) (c : Controller) (x : Sensors) :
    (s.sensed p x).putCtl p c = s.putCtl p c := by
  simp [State.sensed]

namespace SensorBlind

variable {p : PrinterId}

theorem comp {f g : State → State} (hf : SensorBlind p f) (hg : SensorBlind p g) : SensorBlind p fun s => g (f s) :=
  fun s x => by beta_reduce; rw [hf, hg]

theorem mapCtl (f : Controller → Controller) (hf : ∀ c x, f { c with sensors := some x } = { f c with sensors := some x }) :
    SensorBlind p (·.mapCtl p f) := fun s x => by
  beta_reduce
  simp [State.mapCtl, hf]

theorem setPrinterState (st : PrinterState) : SensorBlind p (·.setPrinterState p st) := fun s x => by
  beta_reduce
  have hm : (s.sensed p x).mapCtl p (·.enter st) = (s.mapCtl p (·.enter st)).sensed p x :=
    mapCtl (fun c => c.enter st) (fun _ _ => rfl) s x
  simp only [State.setPrinterState, hm, State.sensed_ctl, if_true]
  split
  · rfl
  · exact (CtlFree.raise _ _).blind p _ x

theorem liftOffline : SensorBlind p (·.liftOffline p) := fun s x => by
  beta_reduce
  simp only [State.liftOffline, State.sendOp, State.transmit, State.sensed_ctl, if_true]
  split
  · split
    · exact mapCtl (fun c => { c.puts .lift with outstanding := some ⟨.lift, .offlineLift, c.sendsOnce .lift⟩ }) (fun _ _ => rfl) s x
    · exact mapCtl (fun c => { c with waiting := c.waiting ++ [.op .lift .offlineLift] }) (fun _ _ => rfl) s x
  · rfl

end SensorBlind

/-! ## A sensor set, and the answer that brings it -/

section
variable {s : State} {p : PrinterId}

/-- A set without a sensor newly bad is kept, and clears nothing where its frame may not (R106, R125). -/
theorem State.judgeSet_calm {x : Sensors} (h : Sensors.worsens x (s.ctl p).sensors = false) :
    s.judgeSet p x false = s.sensed p x := by
  simp [State.judgeSet, arisings_eq_nil _ _ h, State.sensed, State.mapCtl]

theorem arisings_isEmpty (kept : Option Sensors) (x : Sensors) : (arisings kept x).isEmpty = !Sensors.worsens x kept := by
  obtain ⟨a, b, c⟩ := x
  cases kept with
  | none => cases a <;> cases b <;> cases c <;> rfl
  | some y => obtain ⟨d, e, f⟩ := y; cases a <;> cases b <;> cases c <;> cases d <;> cases e <;> cases f <;> rfl

/-- Nothing waits behind an operation that has ended. -/
theorem State.opEnded_nil (h : (s.ctl p).waiting = []) : s.opEnded p = s := by rw [State.opEnded, h]; rfl

/-- The OK answer to an operation other than ENQUIRE, with no link loss open: the set is judged on what the result leaves, and the next step
follows a set without a sensor newly bad (R106, log entry 10). -/
theorem State.takeAnswer_ok {o : Outstanding} {x : Sensors} {result : State → State × NextStep} {r : State × NextStep}
    (hl : (s.ctl p).linkLost = false) (ho : (o.op == Operation.enquire) = false)
    (hr : result (s.putCtl p { s.ctl p with outstanding := none, missed := 0 }) = r) (ha : (r.1.ctl p).state ≠ .absent)
    (hs : (r.1.ctl p).sensors = (s.ctl p).sensors) : s.takeAnswer p o (.sensors x) result =
      if Sensors.worsens x (s.ctl p).sensors then (r.1.struck p x).opEnded p else ((r.1.sensed p x).goOn p r.2).opEnded p := by
  have hput : { s.ctl p with outstanding := none, missed := 0, linkLost := false } =
      { s.ctl p with outstanding := none, missed := 0 } := by rw [← hl]
  unfold State.takeAnswer
  dsimp only
  rw [hput, hr]
  simp only [State.heard, ha, if_false, ho, hl, Bool.or_false, arisings_isEmpty]
  cases hw : Sensors.worsens x (s.ctl p).sensors with
  | true => rw [← hs] at hw; simp [r.1.judgeSet_worsens p x false hw]
  | false => rw [← hs] at hw; simp [State.judgeSet_calm hw]

/-! ## The controller a physical fault leaves -/

theorem ctl_of_controllers {s t : State} (h : t.controllers = s.controllers) (p : PrinterId) : t.ctl p = s.ctl p :=
  congrArg (fun v : Vector Controller 4 => v[p]) h

/-- A physical fault's controller: its work stopped, in FAULT or OFFLINE as it was, no load in hand (R106, R118, R120). -/
def Controller.stricken (c : Controller) (k : FaultKind) (spoiled : Bool) : Controller :=
  let d := (if spoiled then { c with position := .unknown } else c).haltWork.takeFault k
  { (if c.state = .offline then d else d.enter .fault) with load := none }

theorem formAtRisk_of_not_midForm (h : s.midForm p = false) : s.formAtRisk p = false := by
  unfold State.midForm at h
  unfold State.formAtRisk
  cases hb : (s.ctl p).state.busy with
  | false => simp
  | true =>
    rw [hb, Bool.true_and] at h
    cases hg : s.inProgress p with
    | none => simp
    | some g => simp only [hg] at h; simp [h]

theorem formAtRisk_of_midForm {g : Progress} (h : s.midForm p = true) (hg : s.inProgress p = some g) :
    s.formAtRisk p = (g.formInHand && decide (0 < (s.ctl p).linesSent) && (s.loadedPack p).isSome) := by
  unfold State.midForm at h
  simp only [hg, Bool.and_eq_true] at h
  obtain ⟨hb, hj⟩ := h
  unfold State.formAtRisk
  rw [hb, hg]
  simp only [Option.any_some, hj, Bool.true_and]
  cases g.formInHand <;> cases decide (0 < (s.ctl p).linesSent) <;> cases (s.loadedPack p).isSome <;> rfl

/-- The form in hand of a job at work is spoiled if it is at risk, and only then (R118). -/
theorem spoilForm_eq (h : s.midForm p = true) : s.spoilForm p =
    match s.loadedPack p with
    | some (slot, k) => if s.formAtRisk p then
        (s.failForm p slot k.cursor 1 .spoiled).putCtl p { s.ctl p with position := .unknown } else s
    | none => s := by
  obtain ⟨g, hg⟩ : ∃ g, s.inProgress p = some g := by
    unfold State.midForm at h
    cases hg : s.inProgress p with
    | none => simp [hg] at h
    | some g => exact ⟨g, rfl⟩
  rw [formAtRisk_of_midForm h hg]
  unfold State.spoilForm
  cases hk : s.loadedPack p with
  | none => simp [hg]
  | some x =>
    obtain ⟨slot, k⟩ := x
    simp only [hg, Option.isSome_some, Bool.and_true, State.mapCtl]
    rw [ctl_of_controllers (State.failForm_controllers ..)]

theorem faulted_ctl (h : s.midForm p = true) : ((s.spoilForm p).suspend p).ctl p =
    if s.formAtRisk p then { s.ctl p with position := .unknown } else s.ctl p := by
  rw [ctl_of_controllers (State.suspend_controllers _ p), spoilForm_eq h]
  cases hk : s.loadedPack p with
  | none => simp [State.formAtRisk, hk]
  | some x => dsimp only; split <;> simp

/-- The work of a physical fault up to its entry in the log: the form spoiled, the job suspended, the controller stopped. -/
def State.faultSuspends (s : State) (p : PrinterId) : State := if s.midForm p then (s.spoilForm p).suspend p else s

theorem faultSuspends_ctl : (s.faultSuspends p).ctl p =
    if s.formAtRisk p then { s.ctl p with position := .unknown } else s.ctl p := by
  unfold State.faultSuspends
  cases hm : s.midForm p with
  | true => exact faulted_ctl hm
  | false => simp [formAtRisk_of_not_midForm hm]

theorem setPrinterState_ctl (st : PrinterState) (q : PrinterId) :
    (s.setPrinterState p st).ctl q = if q = p then (s.ctl p).enter st else s.ctl q := by
  have hm : (s.mapCtl p (·.enter st)).ctl q = if q = p then (s.ctl p).enter st else s.ctl q := by simp [State.mapCtl]
  unfold State.setPrinterState
  dsimp only
  split
  · exact hm
  · exact (ctl_of_controllers (State.raise_controllers ..) q).trans hm

theorem faultLoad_ctl (q : PrinterId) : (s.faultLoad p).ctl q = if q = p then { s.ctl p with load := none } else s.ctl q := by
  unfold State.faultLoad
  split
  · rename_i hn
    split
    · rename_i hq; rw [hq, ← hn]
    · rfl
  · rw [(CtlFree.endDeferred _ _).ctl]; simp [State.mapCtl]

/-- The work of a physical fault up to the state its printer shows (R118, R120). -/
def State.faultShows (s : State) (p : PrinterId) (k : FaultKind) : State :=
  let t := (s.faultSuspends p).mapCtl p fun c => c.haltWork.takeFault k
  if (t.ctl p).state = .offline then t else t.setPrinterState p .fault

theorem physicalFault_eq (k : FaultKind) : s.physicalFault p k =
    (if s.midForm p then ((s.faultShows p k).enterFault p k none).endAtBoundary p
      else (s.faultShows p k).enterFault p k none).faultLoad p := rfl

theorem faultShows_ctl (k : FaultKind) : (s.faultShows p k).ctl p =
    let d := (if s.formAtRisk p then { s.ctl p with position := .unknown } else s.ctl p).haltWork.takeFault k
    if (s.ctl p).state = .offline then d else d.enter .fault := by
  have h2 : ((s.faultSuspends p).mapCtl p fun c => c.haltWork.takeFault k).ctl p =
      (if s.formAtRisk p then { s.ctl p with position := .unknown } else s.ctl p).haltWork.takeFault k := by
    simp [State.mapCtl, faultSuspends_ctl]
  have hstate : ((if s.formAtRisk p then { s.ctl p with position := .unknown } else s.ctl p).haltWork.takeFault k).state =
      (s.ctl p).state := by
    split <;> rfl
  unfold State.faultShows
  dsimp only
  rw [h2, hstate]
  split
  · exact h2
  · rw [setPrinterState_ctl, if_pos rfl, h2]

theorem physicalFault_ctl (k : FaultKind) : (s.physicalFault p k).ctl p = (s.ctl p).stricken k (s.formAtRisk p) := by
  have hc : (if s.midForm p then ((s.faultShows p k).enterFault p k none).endAtBoundary p
      else (s.faultShows p k).enterFault p k none).ctl p = (s.faultShows p k).ctl p := by
    split
    · exact ctl_of_controllers ((State.endAtBoundary_controllers ..).trans (State.enterFault_controllers ..)) p
    · exact ctl_of_controllers (State.enterFault_controllers ..) p
  rw [physicalFault_eq, faultLoad_ctl, if_pos rfl, hc, faultShows_ctl]
  rfl

/-- Nothing comes to wait by a physical fault (R106). -/
theorem physicalFault_waiting (k : FaultKind) (h : (s.ctl p).waiting = []) : ((s.physicalFault p k).ctl p).waiting = [] := by
  rw [physicalFault_ctl, Controller.stricken]
  have hw : ∀ b : Bool, ((if b then { s.ctl p with position := .unknown } else s.ctl p).haltWork.takeFault k).waiting = [] := by
    intro b
    cases b <;> simp [Controller.takeFault, Controller.haltWork, h]
  split
  · exact hw _
  · simp [Controller.enter, hw]

theorem struck_waiting (x : Sensors) (h : (s.ctl p).waiting = []) : ((s.struck p x).ctl p).waiting = [] := by
  have h1 : ((s.putCtl p { s.ctl p with sensors := some x }).ctl p).waiting = [] := by simpa using h
  unfold State.struck
  dsimp only
  have step : ∀ (t : State) (b : Bool) k, (t.ctl p).waiting = [] → ((if b then t.physicalFault p k else t).ctl p).waiting = [] := by
    intro t b k ht
    cases b
    · exact ht
    · exact physicalFault_waiting k ht
  exact step _ _ _ (step _ _ _ (step _ _ _ h1))

/-- A controller that a sensor set is judged on, as before it, with nothing waiting. -/
structure Controller.JudgedAs (e c : Controller) : Prop where
  present : e.state ≠ .absent
  sensors : e.sensors = c.sensors
  waiting : e.waiting = []

/-- An OK answer whose result is known for every controller it may begin with: behind it the next step, or the faults of the
sensors newly bad (R106, log entry 10). -/
theorem State.takeAnswer_split {o : Outstanding} {result : State → State × NextStep} {R : Controller → State} {n : NextStep}
    (hl : (s.ctl p).linkLost = false) (ho : (o.op == Operation.enquire) = false) (x : Sensors)
    (hr : result (s.putCtl p { s.ctl p with outstanding := none, missed := 0 }) =
      (R { s.ctl p with outstanding := none, missed := 0 }, n))
    (hR : ∀ d x, (R d).sensed p x = R { d with sensors := some x })
    (hc : ((R { s.ctl p with outstanding := none, missed := 0 }).ctl p).JudgedAs (s.ctl p)) :
    (Sensors.worsens x (s.ctl p).sensors = false → s.takeAnswer p o (.sensors x) result =
      ((R { s.ctl p with outstanding := none, missed := 0, sensors := some x }).goOn p n).opEnded p) ∧
    (Sensors.worsens x (s.ctl p).sensors = true → s.takeAnswer p o (.sensors x) result =
      (R { s.ctl p with outstanding := none, missed := 0 }).struck p x) := by
  have hok := State.takeAnswer_ok (x := x) hl ho hr hc.present hc.sensors
  refine ⟨fun hw => ?_, fun hw => ?_⟩
  · rw [hok, hw, if_neg (by simp), hR]
  · rw [hok, if_pos hw, State.opEnded_nil (struck_waiting x hc.waiting)]

end

end Sys2Proof.Machine

/-! # EJECT answered, and the pass that follows -/

namespace Sys2Proof.Machine

open Sys2Proof Sys2Proof.Machine

section
variable {s : State} {p : PrinterId}

/-! ## An answer on a running part -/

theorem State.printerEvent_runs (h : s.phase = .running ∨ s.phase = .starting 7) (f : State → State) :
    s.printerEvent f = (f s).afterEvent := by
  have hr : s.printersRun = true := by
    rcases h with h | h <;> simp [State.printersRun, h]
  simp [State.printerEvent, hr]

/-- An answer of the outstanding operation's kind is its answer (R105). -/
theorem State.answerTo_own {op : Operation} {o : Outstanding} (ho : (s.ctl p).outstanding = some o) (hs : o.op.same op = true)
    (content : FrameContent) (result : Purpose → State → State × NextStep) :
    s.answerTo p op content result = s.takeAnswer p o content (result o.purpose) := by
  simp [State.answerTo, ho, hs]

theorem exec_ejectAnswer (h : s.phase = .running ∨ s.phase = .starting 7) {purpose : Purpose} {once : Bool}
    (ho : (s.ctl p).outstanding = some ⟨.eject, purpose, once⟩) (x : Sensors) :
    exec (.ejectAnswer p (.ok x)) s =
      .next (s.takeAnswer p ⟨.eject, purpose, once⟩ (.sensors x) fun u => u.ejected p purpose).afterEvent := by
  show Host.Outcome.next (s.printerEvent _) = _
  rw [State.printerEvent_runs h, State.answerTo_own ho rfl]
  rfl

/-! ## EJECT of a waste form -/

/-- What the controller is once a waste form is gone: IDLE when no job is in progress (R113). -/
def State.wasteGone (s : State) (p : PrinterId) (d : Controller) : State :=
  if s.inProgress p = none then (s.putCtl p d).setPrinterState p .idle else s.putCtl p d

theorem wasteEjected_eq (b : Controller) : (s.putCtl p b).wasteEjected p =
    (s.wasteGone p { b with position := .none }, if s.inProgress p = none then .nothing else .pass) := by
  unfold State.wasteEjected State.wasteGone
  rw [show (s.putCtl p b).inProgress p = s.inProgress p from rfl]
  cases s.inProgress p <;> simp [State.mapCtl]

theorem wasteGone_sensed (d : Controller) (x : Sensors) :
    (s.wasteGone p d).sensed p x = s.wasteGone p { d with sensors := some x } := by
  unfold State.wasteGone
  split
  · rw [← SensorBlind.setPrinterState, State.putCtl_sensed]
  · rw [State.putCtl_sensed]

theorem wasteGone_ctl (d : Controller) : (s.wasteGone p d).ctl p = if s.inProgress p = none then d.enter .idle else d := by
  unfold State.wasteGone
  split
  · rw [setPrinterState_ctl, if_pos rfl, State.putCtl_ctl, if_pos rfl]
  · rw [State.putCtl_ctl, if_pos rfl]

/-! ## EJECT of a good coupon -/

/-- The notice of the low-stock warning that a pack's movement past a form brings (R12, R13). -/
def State.movedPast (s : State) (slot : Slot) (k moved : Pack) : State :=
  let u : State := s.putPack slot (some moved)
  match k.location with
  | some q => if moved.lowFlag = true ∧ k.lowFlag = false then u.raise .stockLow (.printer q) else u
  | none => u

/-- A coupon ejected good (R11, R12, R13, R52, R94, R117): the cursor past its serial, the issued counter, the coupon with
the job and its mark cleared. -/
def State.couponKept (s : State) (p : PrinterId) (g : Progress) (slot : Slot) (k : Pack) : State :=
  let j : Job := { g.job with printed := g.job.printed ++ [⟨slot, k.cursor⟩] }
  let n := j.session
  let y := s.session n
  let u := (s.movedPast slot k (k.pastOne (s.kind k.kind).threshold)).putSession n { y with
    counters := y.counters.set j.kind { y.counters[j.kind] with issued := min (y.counters[j.kind].issued + 1) 9999999 } }
  u.putProgress p (some ⟨j, false⟩)

/-- The same with the controller given. -/
def State.couponOut (s : State) (p : PrinterId) (g : Progress) (slot : Slot) (k : Pack) (d : Controller) : State :=
  (s.couponKept p g slot k).putCtl p { d with expansion := [], linesSent := 0 }

theorem State.putPack_same {slot : Slot} {k : Pack} (hk : s.pack slot = some k) (n : SessionId) (y : Session) :
    (s.putPack slot (some k)).putSession n y = s.putSession n y := by
  have h : s.stock.packs.set slot (some k) = s.stock.packs := by rw [← hk]; exact Vector.set_getElem_self _
  simp only [State.putPack, h]
  rfl

/-- The movement past a coupon, with the count of its session (R11, R52). -/
theorem movedPast_eq {slot : Slot} {k : Pack} (hk : s.pack slot = some k) (n : SessionId) (kind : Kind)
    (f : KindCounters → KindCounters) : (s.moveCursor slot (k.cursor + 1)).countKind n kind f =
      (s.movedPast slot k (k.pastOne (s.kind k.kind).threshold)).putSession n { s.session n with
        counters := (s.session n).counters.set kind (f (s.session n).counters[kind]) } := by
  by_cases hst : k.state = .loaded
  · have hpast : k.pastOne (s.kind k.kind).threshold = { k with
        cursor := k.cursor + 1
        lowFlag := k.lowFlag || decide ((s.kind k.kind).threshold < k.first + k.count - k.cursor ∧
          k.first + k.count - (k.cursor + 1) ≤ (s.kind k.kind).threshold ∧ k.lowFlag = false)
        state := if k.cursor + 1 = k.first + k.count then PackState.spent else PackState.loaded } := by
      rw [Pack.pastOne, if_pos hst]
      cases k.lowFlag <;> simp
    have hwarn : decide ((s.kind k.kind).threshold < k.first + k.count - k.cursor ∧
        k.first + k.count - (k.cursor + 1) ≤ (s.kind k.kind).threshold ∧ k.lowFlag = false) = true ↔
        (k.pastOne (s.kind k.kind).threshold).lowFlag = true ∧ k.lowFlag = false := by
      rw [hpast]
      cases k.lowFlag <;> simp
    rw [moveCursor_eq hk hst]
    simp only [hwarn]
    rw [← hpast]
    unfold State.movedPast
    cases k.location with
    | none => rfl
    | some q =>
      dsimp only
      split
      · simp only [State.countKind, State.raise_session]
        rfl
      · rfl
  · have hstay : s.moveCursor slot (k.cursor + 1) = s := by simp only [State.moveCursor, hk, hst, if_false]
    have hpast : k.pastOne (s.kind k.kind).threshold = k := if_neg hst
    have hmoved : s.movedPast slot k k = s.putPack slot (some k) := by
      unfold State.movedPast
      cases k.location with
      | none => rfl
      | some q => cases h : k.lowFlag <;> simp
    rw [hstay, hpast, hmoved, State.putPack_same hk]
    rfl

theorem CtlFree.movedPast (slot : Slot) (k moved : Pack) : CtlFree (·.movedPast slot k moved) := fun s v => by
  unfold State.movedPast
  dsimp only
  split
  · split
    · exact (CtlFree.raise _ _).of_eq rfl
    · rfl
  · rfl

theorem CtlFree.couponKept (p : PrinterId) (g : Progress) (slot : Slot) (k : Pack) : CtlFree (·.couponKept p g slot k) :=
  fun _ _ => CtlFree.of_eq (f := fun t : State => (t.putSession _ _).putProgress p _) (fun _ _ => rfl)
    ((CtlFree.movedPast slot k _).of_eq rfl)

theorem couponEjected_eq {g : Progress} (hg : s.inProgress p = some g) {slot : Slot} {k : Pack}
    (hk : s.loadedPack p = some (slot, k)) (b : Controller) : (s.putCtl p b).couponEjected p =
      let u := s.couponOut p g slot k { b with position := .none }
      if g.job.printed.length + 1 < g.job.requested then (u, .pass) else ((u.settleJob p).setPrinterState p .idle, .nothing) := by
  obtain ⟨-, hslot⟩ := State.PacksAre.pack_of_loadedPack hk
  have hslot' : (s.putCtl p b).pack slot = some k := hslot
  unfold State.couponEjected
  rw [show (s.putCtl p b).inProgress p = some g from hg, show (s.putCtl p b).loadedPack p = some (slot, k) from hk]
  dsimp only
  rw [movedPast_eq hslot']
  have hout : (((s.putCtl p b).couponKept p g slot k).mapCtl p fun c =>
      { c with position := .none, expansion := [], linesSent := 0 }) = s.couponOut p g slot k { b with position := .none } := by
    rw [(CtlFree.couponKept p g slot k).putCtl]
    simp [State.mapCtl, State.couponOut]
  exact congrArg (fun u : State => if g.job.printed.length + 1 < g.job.requested then (u, NextStep.pass)
    else ((u.settleJob p).setPrinterState p .idle, NextStep.nothing)) hout

theorem couponOut_sensed {g : Progress} {slot : Slot} {k : Pack} (d : Controller) (x : Sensors) :
    (s.couponOut p g slot k d).sensed p x = s.couponOut p g slot k { d with sensors := some x } := by
  unfold State.couponOut
  rw [State.putCtl_sensed]

theorem couponOut_ctl {g : Progress} {slot : Slot} {k : Pack} (d : Controller) :
    (s.couponOut p g slot k d).ctl p = { d with expansion := [], linesSent := 0 } := by
  rw [State.couponOut, State.putCtl_ctl, if_pos rfl]

/-- The issue settles with its last coupon, and the printer is IDLE (R94). -/
def State.issueOver (s : State) (p : PrinterId) : State := (s.settleJob p).setPrinterState p .idle

theorem issueOver_sensed (x : Sensors) : (s.sensed p x).issueOver p = (s.issueOver p).sensed p x :=
  ((CtlFree.settleJob p).blind p).comp (SensorBlind.setPrinterState .idle) s x

theorem issueOver_ctl : (s.issueOver p).ctl p = (s.ctl p).enter .idle := by
  rw [State.issueOver, setPrinterState_ctl, if_pos rfl, (CtlFree.settleJob p).ctl]

/-! ## A pass -/

/-- An operation of the loop sent in a state of the service group (R104). -/
theorem sendLoop_eq {c : Controller} {op : Operation} {st : PrinterState} (hc : s.ctl p = c) (h1 : c.outstanding = none)
    (h2 : c.waiting = []) (hin : c.state.group = .inService) (hst : st.busy = true) (hop : (op == .enquire) = false) :
    (s.setPrinterState p st).sendOp p op .loop = s.putCtl p { c with
      state := st, idleLift := false, outstanding := some ⟨op, .loop, false⟩, sending := some op.frame } := by
  have hg : st.group = (s.ctl p).state.group := by
    rw [hc, hin]
    cases st <;> first | rfl | cases hst
  have he := Controller.enter_work c hst
  have hfree : ((s.putCtl p (c.enter st)).ctl p).outstanding = none ∧ ((s.putCtl p (c.enter st)).ctl p).waiting = [] := by
    rw [State.putCtl_ctl, if_pos rfl, he]
    exact ⟨h1, by simp [h2]⟩
  rw [s.setPrinterState_inGroup p st hg, hc, State.sendOp_free _ _ _ _ hfree.1 hfree.2, State.putCtl_putCtl, State.putCtl_ctl,
    if_pos rfl, he]
  simp [Controller.sendsOnce, hop, h2]

/-- The states of the service group (R107). -/
theorem inService_iff (st : PrinterState) :
    st ∈ [PrinterState.idle, .engaging, .feeding, .reading, .printing, .ejecting] ↔ st.group = .inService := by
  cases st <;> simp [PrinterState.group]

theorem usable_iff : s.usable p = true ↔ ∃ slot k, s.loadedPack p = some (slot, k) ∧ k.state = .loaded := by
  unfold State.usable
  cases h : s.loadedPack p with
  | none => simp
  | some x => obtain ⟨slot, k⟩ := x; simp

@[simp] theorem State.putProgress_putProgress (x y : Option Progress) :
    (s.putProgress p x).putProgress p y = s.putProgress p y := by
  simp [State.putProgress]

theorem suspend_eq {g : Progress} (hg : s.inProgress p = some g) :
    s.suspend p = s.putProgress p (some ⟨{ g.job with state := .suspended }, false⟩) := by
  simp [State.suspend, State.mapJob, State.markForm, hg]

/-- The first line of a coupon goes out, or its form with no line (R112, R115, R116). -/
theorem printBegun_eq {g : Progress} {k : Pack} {d : Controller} (h1 : d.outstanding = none) (h2 : d.waiting = [])
    (hin : d.state.group = .inService) :
    (((s.putCtl p d).putProgress p (some ⟨{ g.job with
        substituted := g.job.substituted || (expandBody (s.bodyFacts g.job k.cursor) g.job.body).2.1
        truncated := g.job.truncated || (expandBody (s.bodyFacts g.job k.cursor) g.job.body).2.2 }, true⟩)).mapCtl p fun c =>
          { c with expansion := (expandBody (s.bodyFacts g.job k.cursor) g.job.body).1, linesSent := 0 }).nextLine p =
      s.printBegun p g k.cursor d := by
  unfold State.printBegun
  dsimp only
  generalize expandBody (s.bodyFacts g.job k.cursor) g.job.body = lines
  generalize hj : (⟨{ g.job with
      substituted := g.job.substituted || lines.2.1, truncated := g.job.truncated || lines.2.2 }, true⟩ : Progress) = j
  have hmap : ((s.putCtl p d).putProgress p (some j)).mapCtl p (fun c => { c with expansion := lines.1, linesSent := 0 }) =
      (s.putProgress p (some j)).putCtl p { d with expansion := lines.1, linesSent := 0 } := by
    rw [(CtlFree.putProgress p (some j)).putCtl]
    simp [State.mapCtl]
  rw [hmap]
  unfold State.nextLine
  rw [State.putCtl_ctl, if_pos rfl]
  cases hl : lines.1 with
  | nil =>
    rw [show ([] : List (List Byte))[0]? = none from rfl]
    dsimp only
    rw [sendLoop_eq (c := { d with expansion := [], linesSent := 0 }) (by simp) h1 h2 hin rfl rfl, State.putCtl_putCtl,
      (CtlFree.putProgress p (some j)).putCtl]
  | cons first rest =>
    rw [show (first :: rest)[0]? = some first from rfl]
    dsimp only
    rw [sendLoop_eq (c := { d with expansion := first :: rest, linesSent := 1 }) (by simp [State.mapCtl]) h1 h2 hin rfl rfl,
      State.mapCtl, State.putCtl_putCtl, State.putCtl_putCtl, (CtlFree.putProgress p (some j)).putCtl]

/-- How a form is positioned, the used-form advances 0 (R112, R113). -/
theorem positionForm_eq {c : Controller} (hc : s.ctl p = c) (h1 : c.outstanding = none) (h2 : c.waiting = [])
    (hin : c.state.group = .inService) :
    let d := { c with usedAdvances := 0 }
    let sent (op : Operation) (st : PrinterState) (d : Controller) : State :=
      s.putCtl p { d with state := st, idleLift := false, outstanding := some ⟨op, .loop, false⟩, sending := some op.frame }
    (c.position = .none → s.positionForm p = sent .advance .feeding { d with formKind := .newForm }) ∧
    (c.position = .unknown → s.positionForm p = sent .readStrip .reading { d with formKind := .headForm, badReads := 0 }) ∧
    (c.position = .verified → s.positionForm p = (s.putCtl p d).formVerified p) := by
  have hm : (s.mapCtl p fun c => { c with usedAdvances := 0 }) = s.putCtl p { c with usedAdvances := 0 } := by rw [← hc]; rfl
  refine ⟨fun hp => ?_, fun hp => ?_, fun hp => ?_⟩ <;>
    (unfold State.positionForm; dsimp only; rw [← hc] at hp; rw [hm, hp])
  · dsimp only
    rw [State.feed, sendLoop_eq (c := { c with usedAdvances := 0, formKind := .newForm }) (by simp [State.mapCtl]) h1 h2 hin rfl rfl]
    simp [State.mapCtl]
  · dsimp only
    rw [State.readForm, sendLoop_eq (c := { c with usedAdvances := 0, formKind := .headForm, badReads := 0 })
      (by simp [State.mapCtl]) h1 h2 hin rfl rfl]
    simp [State.mapCtl]

theorem formVerified_eq {g : Progress} (hg : s.inProgress p = some g) {slot : Slot} {k : Pack}
    (hk : s.loadedPack p = some (slot, k)) {d : Controller} (h1 : d.outstanding = none) (h2 : d.waiting = [])
    (hin : d.state.group = .inService) : (s.putCtl p d).formVerified p =
      if g.job.abortMark then ((s.putCtl p d).endJob p .aborted).setPrinterState p .idle else s.printBegun p g k.cursor d := by
  unfold State.formVerified
  rw [show (s.putCtl p d).inProgress p = some g from hg, show (s.putCtl p d).loadedPack p = some (slot, k) from hk]
  dsimp only
  split
  · rfl
  · exact printBegun_eq h1 h2 hin

theorem startPass_lifted {g : Progress} (hg : s.inProgress p = some g) (hm : g.job.abortMark = false) (hu : s.usable p = true)
    (hh : (s.ctl p).head = .lifted) : s.startPass p = (s.setPrinterState p .engaging).sendOp p .engage .loop := by
  simp only [State.startPass, hg, hm, hu, hh, Bool.false_eq_true, if_false, Bool.not_true, if_true]

/-- The answer to EJECT on a waste form, by what the form leaves. -/
theorem wasteGone_judged (hne : (s.ctl p).state ≠ .absent) (hwait : (s.ctl p).waiting = []) :
    ((s.wasteGone p { s.ctl p with outstanding := none, missed := 0, position := .none }).ctl p).JudgedAs (s.ctl p) := by
  rw [wasteGone_ctl]
  split
  · exact ⟨by simp [Controller.enter], rfl, by simp [Controller.enter, hwait]⟩
  · exact ⟨hne, rfl, hwait⟩

theorem couponOut_judged {g : Progress} {slot : Slot} {k : Pack} (hne : (s.ctl p).state ≠ .absent)
    (hwait : (s.ctl p).waiting = []) :
    ((s.couponOut p g slot k { s.ctl p with outstanding := none, missed := 0, position := .none }).ctl p).JudgedAs
      (s.ctl p) := by
  rw [couponOut_ctl]
  exact ⟨hne, rfl, hwait⟩

theorem issueOver_judged {g : Progress} {slot : Slot} {k : Pack} (hwait : (s.ctl p).waiting = []) :
    (((s.couponOut p g slot k { s.ctl p with outstanding := none, missed := 0, position := .none }).issueOver p).ctl p).JudgedAs
      (s.ctl p) := by
  rw [issueOver_ctl, couponOut_ctl]
  exact ⟨by simp [Controller.enter], rfl, by simp [Controller.enter, hwait]⟩

end

/-- Settles O43: the coupon or the waste form that is gone, the set judged on it, and the pass behind it. -/
theorem ejectEndsCoupon : Obligations.EjectEndsCoupon := by
  refine ⟨fun s p hrun purpose once ho hwait hl hbusy x => ?_, fun s p g hg => ⟨fun hm => ?_, fun hm => ⟨fun hu => ?_,
    fun slot k hk hst => ⟨fun hh => ?_, fun hh h1 h2 hin => ?_⟩⟩, fun h1 h2 hin => ?_⟩⟩
  · have hne : (s.ctl p).state ≠ .absent := by rintro e; rw [e] at hbusy; cases hbusy
    refine ⟨?_, ?_⟩
    · rintro rfl
      obtain ⟨hcalm, hstruck⟩ := State.takeAnswer_split (o := ⟨.eject, .waste, once⟩) (result := fun u => u.ejected p .waste)
        (R := fun d => s.wasteGone p { d with position := .none }) hl rfl x (wasteEjected_eq _) (fun _ _ => wasteGone_sensed _ _)
        (wasteGone_judged hne hwait)
      rw [exec_ejectAnswer hrun ho]
      refine ⟨fun hx => ?_, fun hx => by rw [hstruck hx]; rfl⟩
      rw [hcalm hx]
      by_cases hn : s.inProgress p = none
      · rw [if_pos hn, if_pos hn]
        refine congrArg (fun t : State => Host.Outcome.next t.afterEvent) (State.opEnded_nil ?_)
        show ((s.wasteGone p _).ctl p).waiting = []
        rw [wasteGone_ctl, if_pos hn]
        simp [Controller.enter, hwait]
      · rw [if_neg hn, if_neg hn]
        rfl
    · rintro g hg slot k hk rfl
      have hres := couponEjected_eq hg hk { s.ctl p with outstanding := none, missed := 0 }
      dsimp only at hres
      rw [exec_ejectAnswer hrun ho]
      by_cases hmore : g.job.printed.length + 1 < g.job.requested
      · rw [if_pos hmore] at hres
        obtain ⟨hcalm, hstruck⟩ := State.takeAnswer_split (o := ⟨.eject, .loop, once⟩) (result := fun u => u.ejected p .loop)
          (R := fun d => s.couponOut p g slot k { d with position := .none }) hl rfl x hres (fun _ _ => couponOut_sensed _ _)
          (couponOut_judged hne hwait)
        rw [decide_eq_true hmore]
        exact ⟨fun hx => by rw [hcalm hx]; rfl, fun hx => by rw [hstruck hx]; rfl⟩
      · rw [if_neg hmore] at hres
        obtain ⟨hcalm, hstruck⟩ := State.takeAnswer_split (o := ⟨.eject, .loop, once⟩) (result := fun u => u.ejected p .loop)
          (R := fun d => (s.couponOut p g slot k { d with position := .none }).issueOver p) hl rfl x hres
          (fun _ _ => by rw [← issueOver_sensed, couponOut_sensed]) (issueOver_judged hwait)
        rw [decide_eq_false hmore]
        refine ⟨fun hx => ?_, fun hx => by rw [hstruck hx]; rfl⟩
        rw [hcalm hx]
        refine congrArg (fun t : State => Host.Outcome.next t.afterEvent) (State.opEnded_nil ?_)
        show (((s.couponOut p g slot k _).issueOver p).ctl p).waiting = []
        rw [issueOver_ctl, couponOut_ctl]
        simp [Controller.enter, hwait]
  · simp only [State.startPass, hg, hm, if_true]
  · have hn : s.usable p = false := by
      rw [Bool.eq_false_iff, ne_eq, usable_iff]
      rintro ⟨slot, k, hk, hst⟩
      simp [hk, hst] at hu
    simp only [State.startPass, hg, hm, hn, Bool.false_eq_true, if_false, Bool.not_false, if_true, suspend_eq hg]
    rfl
  · have hn : s.usable p = true := usable_iff.mpr ⟨slot, k, hk, hst⟩
    simp [State.startPass, hg, hm, hn, hh]
  · have hn : s.usable p = true := usable_iff.mpr ⟨slot, k, hk, hst⟩
    rw [startPass_lifted hg hm hn hh]
    exact sendLoop_eq (op := .engage) (st := .engaging) rfl h1 h2 ((inService_iff _).mp (of_decide_eq_true hin)) rfl rfl
  · have hin' := (inService_iff _).mp (of_decide_eq_true hin)
    obtain ⟨p1, p2, p3⟩ := positionForm_eq (s := s) (p := p) rfl h1 h2 hin'
    refine ⟨p1, p2, fun hp slot k hk => ?_⟩
    rw [p3 hp]
    exact formVerified_eq hg hk h1 h2 hin'

end Sys2Proof.Machine

/-! # The strip read for a load -/

namespace Sys2Proof.Machine

open Sys2Proof Sys2Proof.Machine

section
variable {s : State} {p : PrinterId}

theorem exec_readStripAnswer (h : s.phase = .running ∨ s.phase = .starting 7) {purpose : Purpose} {once : Bool}
    (ho : (s.ctl p).outstanding = some ⟨.readStrip, purpose, once⟩) (a : StripAnswer) :
    exec (.readStripAnswer p a) s =
      .next (s.takeAnswer p ⟨.readStrip, purpose, once⟩ (stripContent a) fun u => u.stripRead p a purpose).afterEvent := by
  show Host.Outcome.next (s.printerEvent _) = _
  rw [State.printerEvent_runs h, State.answerTo_own ho rfl]

theorem State.goOn_nothing : s.goOn p .nothing = s := rfl

/-! ## The operations of a load -/

/-- A LIFT of an ENGAGED head goes out at once, or waits (R104, R127). -/
theorem liftOffline_engaged (hh : (s.ctl p).head = .engaged) : s.liftOffline p =
    if (s.ctl p).outstanding = none ∧ (s.ctl p).waiting = [] then
      s.putCtl p { s.ctl p with outstanding := some ⟨.lift, .offlineLift, false⟩, sending := some (Operation.frame .lift) }
    else s.putCtl p { s.ctl p with waiting := (s.ctl p).waiting ++ [.op .lift .offlineLift] } := by
  rw [State.liftOffline, if_pos hh]
  split
  · rename_i h
    rw [State.sendOp_free _ _ _ _ h.1 h.2]
    rfl
  · rename_i h
    have hn : ((s.ctl p).outstanding.isNone && (s.ctl p).waiting.isEmpty) = false := by
      rw [Bool.eq_false_iff]
      simpa using h
    rw [State.sendOp, hn]
    rfl

theorem liftOffline_lifted (hh : (s.ctl p).head = .lifted) : s.liftOffline p = s := by
  rw [State.liftOffline, if_neg (by rw [hh]; simp)]

/-- A LIFT sent at once leaves nothing waiting, and the state and sensors as they are. -/
theorem liftOffline_judged {c : Controller} (ho : (s.ctl p).outstanding = none) (h : (s.ctl p).JudgedAs c) :
    ((s.liftOffline p).ctl p).JudgedAs c := by
  cases hh : (s.ctl p).head with
  | lifted => rwa [liftOffline_lifted hh]
  | engaged =>
    rw [liftOffline_engaged hh, if_pos ⟨ho, h.waiting⟩, State.putCtl_ctl, if_pos rfl]
    exact ⟨h.present, h.sensors, h.waiting⟩

theorem idle_judged {c : Controller} (h : (s.ctl p).JudgedAs c) : ((s.setPrinterState p .idle).ctl p).JudgedAs c := by
  rw [setPrinterState_ctl, if_pos rfl]
  exact ⟨by simp [Controller.enter], h.sensors, by simpa [Controller.enter] using h.waiting⟩

theorem CtlFree.judged {f : State → State} (hf : CtlFree f) {c : Controller} (h : (s.ctl p).JudgedAs c) :
    ((f s).ctl p).JudgedAs c := by rwa [hf.ctl]

/-- A load's step with the line free, on a printer in service if it was taken from IDLE (R8, R104). -/
theorem loadStep_eq {g : Load} (hg : (s.ctl p).load = some g) (h1 : (s.ctl p).outstanding = none) (h2 : (s.ctl p).waiting = [])
    (hin : g.takenIn = .idle → (s.ctl p).state.group = .inService) : s.loadStep p =
      let op : Operation := if (s.ctl p).head = .lifted then .engage else .readStrip
      let d := { s.ctl p with outstanding := some ⟨op, .load, false⟩, sending := some op.frame }
      s.putCtl p (if g.takenIn = .idle then
        { d with state := if (s.ctl p).head = .lifted then .engaging else .reading, idleLift := false } else d) := by
  have sent : ∀ (op : Operation) (st : PrinterState), st.busy = true → (op == .enquire) = false →
      (s.showLoad p g st).sendOp p op .load = s.putCtl p (if g.takenIn = .idle then
        { s.ctl p with state := st, idleLift := false, outstanding := some ⟨op, .load, false⟩, sending := some op.frame }
        else { s.ctl p with outstanding := some ⟨op, .load, false⟩, sending := some op.frame }) := by
    intro op st hst hop
    unfold State.showLoad
    split
    · rename_i ht
      have hgr : st.group = (s.ctl p).state.group := by rw [hin ht]; cases st <;> first | rfl | cases hst
      have he := Controller.enter_work (s.ctl p) hst
      rw [s.setPrinterState_inGroup p st hgr, State.sendOp_free _ _ _ _ (by rw [State.putCtl_ctl, if_pos rfl, he]; exact h1)
        (by rw [State.putCtl_ctl, if_pos rfl, he]; simp [h2]), State.putCtl_putCtl, State.putCtl_ctl, if_pos rfl, he]
      simp [Controller.sendsOnce, hop, h2]
    · rw [State.sendOp_free _ _ _ _ h1 h2]
      simp [Controller.sendsOnce, hop]
  have hstep : s.loadStep p = if (s.ctl p).head = .lifted then (s.showLoad p g .engaging).sendOp p .engage .load
      else (s.showLoad p g .reading).sendOp p .readStrip .load := by
    simp only [State.loadStep, hg]
  rw [hstep]
  split
  · exact sent .engage .engaging rfl rfl
  · exact sent .readStrip .reading rfl rfl

/-! ## The end of a load -/

/-- The printer returns to the state a load was taken in (R9, R10). -/
def State.backFrom (s : State) (p : PrinterId) (g : Load) : State :=
  match g.takenIn with
  | .idle => s.setPrinterState p .idle
  | .offline => s.liftOffline p
  | _ => s

theorem returnFromLoad_eq (g : Load) (d : Controller) :
    (s.putCtl p d).returnFromLoad p g = (s.putCtl p { d with load := none }).backFrom p g := by
  have hm : ((s.putCtl p d).mapCtl p fun c => { c with load := none }) = s.putCtl p { d with load := none } := by
    simp [State.mapCtl]
  rw [State.returnFromLoad, hm]
  rfl

theorem SensorBlind.backFrom (g : Load) : SensorBlind p (·.backFrom p g) := fun s x => by
  beta_reduce
  unfold State.backFrom
  split
  · exact SensorBlind.setPrinterState .idle s x
  · exact SensorBlind.liftOffline s x
  · rfl

theorem backFrom_judged (g : Load) {c : Controller} (ho : (s.ctl p).outstanding = none) (h : (s.ctl p).JudgedAs c) :
    ((s.backFrom p g).ctl p).JudgedAs c := by
  unfold State.backFrom
  split
  · exact idle_judged h
  · exact liftOffline_judged ho h
  · exact h

theorem backFrom_deferred (g : Load) (l : Line) : ((s.backFrom p g).line l).deferred = (s.line l).deferred := by
  unfold State.backFrom
  split
  · exact State.setPrinterState_deferred _ _ _ _
  · exact State.liftOffline_deferred _ _ _
  · rfl

/-- A load ends MISMATCH with its fields (R9). -/
def State.loadFails (s : State) (p : PrinterId) (g : Load) (fields : List Byte) (d : Controller) : State :=
  ((s.putCtl p { d with load := none }).backFrom p g).endDeferred .mismatch fields

theorem mismatchLoad_eq (g : Load) (detail : Nat) (a b : Byte) (serial : Nat) (d : Controller) :
    (s.putCtl p d).mismatchLoad p g detail a b serial = s.loadFails p g (byteOf detail :: a :: b :: be 3 serial) d := by
  rw [State.mismatchLoad, returnFromLoad_eq]
  rfl

/-- A pack whose load is verified, LOADED in its printer (R9). -/
def State.packIn (s : State) (p : PrinterId) (slot : Slot) (k : Pack) : State :=
  (s.putPack slot (some { k with state := .loaded, location := some p })).putLoaded p (some slot)

/-- A verified load (R9, R145). -/
def State.loadDone (s : State) (p : PrinterId) (g : Load) (k : Pack) (d : Controller) : State :=
  let heldForIt := (s.openEntry p).any (·.kind == .noPack)
  let u := (s.packIn p g.slot k).putCtl p { d with load := none, position := .verified, held := d.held && !heldForIt }
  let u := if heldForIt && !d.faultOpen then u.clearEntry p else u
  let u := if g.takenIn = .offline then u.liftOffline p else u.setPrinterState p .idle
  (u.endDeferred .ok (byteOf (g.slot.val + 1) :: be 3 k.cursor)).raise .loadDone .nothing

theorem verifyLoad_eq (g : Load) (k : Pack) (d : Controller) : (s.putCtl p d).verifyLoad p g k = s.loadDone p g k d := by
  have hin : ((s.putCtl p d).packIn p g.slot k).mapCtl p (fun c => { c with load := none, position := .verified }) =
      (s.packIn p g.slot k).putCtl p { d with load := none, position := .verified } := by
    show State.mapCtl ((s.packIn p g.slot k).putCtl p d) p _ = _
    simp [State.mapCtl]
  have hno : ∀ c : Controller, ((s.packIn p g.slot k).putCtl p c).endNoPack p =
      let heldForIt := (s.openEntry p).any (·.kind == .noPack)
      let u := (s.packIn p g.slot k).putCtl p { c with held := c.held && !heldForIt }
      if heldForIt && !c.faultOpen then u.clearEntry p else u := by
    intro c
    unfold State.endNoPack
    rw [show ((s.packIn p g.slot k).putCtl p c).openEntry p = s.openEntry p from rfl]
    cases s.openEntry p with
    | none => simp
    | some e =>
      by_cases hk : e.kind = .noPack
      · cases hf : c.faultOpen <;> simp [hk, hf, State.mapCtl]
      · simp [hk, beq_false_of_ne hk]
  have hdone := hno { d with load := none, position := .verified }
  rw [← hin] at hdone
  exact congrArg (fun u : State => ((if g.takenIn = .offline then u.liftOffline p else u.setPrinterState p .idle).endDeferred .ok
    (byteOf (g.slot.val + 1) :: be 3 k.cursor)).raise .loadDone .nothing) hdone

/-! ## What the answer leads to -/

theorem loadFails_sensed (g : Load) (fields : List Byte) (d : Controller) (x : Sensors) :
    (s.loadFails p g fields d).sensed p x = s.loadFails p g fields { d with sensors := some x } := by
  have hb := ((SensorBlind.backFrom (p := p) g).comp ((CtlFree.endDeferred .mismatch fields).blind p))
    (s.putCtl p { d with load := none }) x
  rw [State.putCtl_sensed] at hb
  exact hb.symm

theorem loadDone_sensed (g : Load) (k : Pack) (d : Controller) (x : Sensors) :
    (s.loadDone p g k d).sensed p x = s.loadDone p g k { d with sensors := some x } := by
  have hclear : ∀ b : Bool, SensorBlind p fun t => if b then t.clearEntry p else t := by
    intro b
    cases b
    · exact fun _ _ => rfl
    · exact (CtlFree.clearEntry p).blind p
  have hback : SensorBlind p fun t => if g.takenIn = .offline then t.liftOffline p else t.setPrinterState p .idle := by
    split
    · exact SensorBlind.liftOffline
    · exact SensorBlind.setPrinterState .idle
  have hall := (((hclear ((s.openEntry p).any (·.kind == .noPack) && !d.faultOpen)).comp hback).comp
    ((CtlFree.endDeferred .ok (byteOf (g.slot.val + 1) :: be 3 k.cursor)).blind p)).comp ((CtlFree.raise .loadDone .nothing).blind p)
    ((s.packIn p g.slot k).putCtl p { d with
      load := none, position := .verified, held := d.held && !(s.openEntry p).any (·.kind == .noPack) }) x
  rw [State.putCtl_sensed] at hall
  exact hall.symm

theorem loadFails_judged (g : Load) (fields : List Byte) {c d : Controller} (ho : d.outstanding = none) (h : d.JudgedAs c) :
    ((s.loadFails p g fields d).ctl p).JudgedAs c := by
  refine (CtlFree.endDeferred .mismatch fields).judged (backFrom_judged g ?_ ?_) <;> rw [State.putCtl_ctl, if_pos rfl]
  · exact ho
  · exact ⟨h.present, h.sensors, h.waiting⟩

theorem loadDone_judged (g : Load) (k : Pack) {c d : Controller} (ho : d.outstanding = none) (h : d.JudgedAs c) :
    ((s.loadDone p g k d).ctl p).JudgedAs c := by
  have hfree : ∀ b : Bool, CtlFree fun t => if b then t.clearEntry p else t := by
    intro b
    cases b
    · exact fun _ _ => rfl
    · exact CtlFree.clearEntry p
  have hput : ((((s.packIn p g.slot k).putCtl p { d with
      load := none, position := .verified, held := d.held && !(s.openEntry p).any (·.kind == .noPack) })).ctl p).JudgedAs c ∧
      ((((s.packIn p g.slot k).putCtl p { d with
      load := none, position := .verified, held := d.held && !(s.openEntry p).any (·.kind == .noPack) })).ctl p).outstanding =
        none := by
    rw [State.putCtl_ctl, if_pos rfl]
    exact ⟨⟨h.present, h.sensors, h.waiting⟩, ho⟩
  have hclear := (hfree ((s.openEntry p).any (·.kind == .noPack) && !d.faultOpen)).judged hput.1
  have hout := (congrArg Controller.outstanding ((hfree ((s.openEntry p).any (·.kind == .noPack) && !d.faultOpen)).ctl _ p)).trans
    hput.2
  refine ((CtlFree.endDeferred .ok _).comp (CtlFree.raise .loadDone .nothing)).judged ?_
  split
  · exact liftOffline_judged hout hclear
  · exact idle_judged hclear

/-- A load that reads its strip once more. -/
def State.loadAgain (s : State) (p : PrinterId) (g : Load) (d : Controller) : State :=
  s.putCtl p { d with load := some { g with badReads := g.badReads + 1 } }

/-- The strip of a load, judged (R9). -/
theorem loadStrip_eq {g : Load} {k : Pack} {d : Controller} (hg : d.load = some g) (hk : s.pack g.slot = some k) :
    (∀ a b serial x, (s.putCtl p d).loadStrip p (.strip false a b serial x) =
      if g.badReads < 2 then (s.loadAgain p g d, .load) else (s.loadFails p g (1 :: 0x2D :: 0x2D :: be 3 0xFFFFFF) d, .nothing)) ∧
    (∀ x, (s.putCtl p d).loadStrip p (.noForm x) = (s.loadFails p g (2 :: 0x2D :: 0x2D :: be 3 0xFFFFFF) d, .nothing)) ∧
    ∀ a b serial x, (s.putCtl p d).loadStrip p (.strip true a b serial x) =
      if a = (s.kind k.kind).letter1 ∧ b = (s.kind k.kind).letter2 ∧ serial = k.cursor then (s.loadDone p g k d, .nothing)
      else (s.loadFails p g (0 :: a :: b :: be 3 serial) d, .nothing) := by
  have hload : ((s.putCtl p d).ctl p).load = some g := by rw [State.putCtl_ctl, if_pos rfl, hg]
  have hpack : (s.putCtl p d).pack g.slot = some k := hk
  refine ⟨fun a b serial x => ?_, fun x => ?_, fun a b serial x => ?_⟩ <;>
    simp only [State.loadStrip, hload, hpack, Bool.not_false, Bool.not_true, Bool.false_eq_true, if_true, if_false, mismatchLoad_eq,
      verifyLoad_eq]
  · split
    · simp [State.loadAgain, State.mapCtl]
    · rfl
  · rfl
  · rfl

/-- The reply of a LOAD PACK's end, in either wording. -/
theorem replied_eq {u : State} {deferred : Option Deferred} (hd : (u.line officeLine).deferred = deferred) (status : Status)
    (fields : List Byte) : (if deferred = some (.loadPack p) then
      u.putLine officeLine { u.line officeLine with
        deferred := none
        replies := (u.line officeLine).replies ++ [⟨replyBody 0x32 status fields, none⟩] }
      else u.endDeferred status fields) = u.endDeferred status fields := by
  split
  · rename_i h
    rw [h] at hd
    unfold State.endDeferred
    rw [hd]
    simp [State.queueReply, Deferred.code]
  · rfl

theorem endDeferred_eq (status : Status) (fields : List Byte) : s.endDeferred status fields =
    match (s.line officeLine).deferred with
    | none => s
    | some d => s.putLine officeLine { s.line officeLine with
        deferred := none
        replies := (s.line officeLine).replies ++ [⟨replyBody d.code status fields, none⟩] } := by
  unfold State.endDeferred
  cases (s.line officeLine).deferred with
  | none => rfl
  | some d => simp [State.queueReply]

/-- The answer to a load's READ STRIP, by what its result makes of the controller. -/
theorem exec_loadStrip (h : s.phase = .running ∨ s.phase = .starting 7) {once : Bool}
    (ho : (s.ctl p).outstanding = some ⟨.readStrip, .load, once⟩) (hl : (s.ctl p).linkLost = false) {a : StripAnswer} {x : Sensors}
    (ha : stripContent a = .sensors x) {R : Controller → State} {n : NextStep}
    (hr : (s.putCtl p { s.ctl p with outstanding := none, missed := 0 }).loadStrip p a =
      (R { s.ctl p with outstanding := none, missed := 0 }, n))
    (hR : ∀ d x, (R d).sensed p x = R { d with sensors := some x })
    (hc : ((R { s.ctl p with outstanding := none, missed := 0 }).ctl p).JudgedAs (s.ctl p)) :
    (Sensors.worsens x (s.ctl p).sensors = false → exec (.readStripAnswer p a) s =
      .next (((R { s.ctl p with outstanding := none, missed := 0, sensors := some x }).goOn p n).opEnded p).afterEvent) ∧
    (Sensors.worsens x (s.ctl p).sensors = true → exec (.readStripAnswer p a) s =
      .next ((R { s.ctl p with outstanding := none, missed := 0 }).struck p x).afterEvent) := by
  obtain ⟨h1, h2⟩ := State.takeAnswer_split (o := ⟨.readStrip, .load, once⟩) (result := fun u => u.stripRead p a .load)
    hl rfl x hr hR hc
  rw [exec_readStripAnswer h ho, ha]
  exact ⟨fun hx => by rw [h1 hx], fun hx => by rw [h2 hx]⟩

/-- A load that its strip ends MISMATCH. -/
theorem exec_loadFails (h : s.phase = .running ∨ s.phase = .starting 7) {once : Bool}
    (ho : (s.ctl p).outstanding = some ⟨.readStrip, .load, once⟩) (hwait : (s.ctl p).waiting = [])
    (hl : (s.ctl p).linkLost = false) (hne : (s.ctl p).state ≠ .absent) {a : StripAnswer} {x : Sensors}
    (ha : stripContent a = .sensors x) {g : Load} {fields : List Byte}
    (hr : (s.putCtl p { s.ctl p with outstanding := none, missed := 0 }).loadStrip p a =
      (s.loadFails p g fields { s.ctl p with outstanding := none, missed := 0 }, .nothing)) :
    (Sensors.worsens x (s.ctl p).sensors = false → exec (.readStripAnswer p a) s =
      .next (s.loadFails p g fields { s.ctl p with outstanding := none, missed := 0, sensors := some x }).afterEvent) ∧
    (Sensors.worsens x (s.ctl p).sensors = true → exec (.readStripAnswer p a) s =
      .next ((s.loadFails p g fields { s.ctl p with outstanding := none, missed := 0 }).struck p x).afterEvent) := by
  obtain ⟨h1, h2⟩ := exec_loadStrip h ho hl ha (R := fun d => s.loadFails p g fields d) hr (fun d x => loadFails_sensed g fields d x)
    (loadFails_judged g fields rfl ⟨hne, rfl, hwait⟩)
  have hw := (loadFails_judged (s := s) (p := p) g fields (c := { s.ctl p with outstanding := none, missed := 0, sensors := some x })
    (d := { s.ctl p with outstanding := none, missed := 0, sensors := some x }) rfl ⟨hne, rfl, hwait⟩).waiting
  exact ⟨fun hx => by rw [h1 hx, State.goOn_nothing, State.opEnded_nil hw], h2⟩

/-- A load that its strip verifies. -/
theorem exec_loadDone (h : s.phase = .running ∨ s.phase = .starting 7) {once : Bool}
    (ho : (s.ctl p).outstanding = some ⟨.readStrip, .load, once⟩) (hwait : (s.ctl p).waiting = [])
    (hl : (s.ctl p).linkLost = false) (hne : (s.ctl p).state ≠ .absent) {a : StripAnswer} {x : Sensors}
    (ha : stripContent a = .sensors x) {g : Load} {k : Pack}
    (hr : (s.putCtl p { s.ctl p with outstanding := none, missed := 0 }).loadStrip p a =
      (s.loadDone p g k { s.ctl p with outstanding := none, missed := 0 }, .nothing)) :
    (Sensors.worsens x (s.ctl p).sensors = false → exec (.readStripAnswer p a) s =
      .next (s.loadDone p g k { s.ctl p with outstanding := none, missed := 0, sensors := some x }).afterEvent) ∧
    (Sensors.worsens x (s.ctl p).sensors = true → exec (.readStripAnswer p a) s =
      .next ((s.loadDone p g k { s.ctl p with outstanding := none, missed := 0 }).struck p x).afterEvent) := by
  obtain ⟨h1, h2⟩ := exec_loadStrip h ho hl ha (R := fun d => s.loadDone p g k d) hr (fun d x => loadDone_sensed g k d x)
    (loadDone_judged g k rfl ⟨hne, rfl, hwait⟩)
  have hw := (loadDone_judged (s := s) (p := p) g k (c := { s.ctl p with outstanding := none, missed := 0, sensors := some x })
    (d := { s.ctl p with outstanding := none, missed := 0, sensors := some x }) rfl ⟨hne, rfl, hwait⟩).waiting
  exact ⟨fun hx => by rw [h1 hx, State.goOn_nothing, State.opEnded_nil hw], h2⟩

/-- The end of a failed load as the office line hears it. -/
theorem loadFails_replied (g : Load) (fields : List Byte) (d : Controller) :
    (let u := (s.putCtl p { d with load := none }).backFrom p g
     if (s.line officeLine).deferred = some (.loadPack p) then
      u.putLine officeLine { u.line officeLine with
        deferred := none
        replies := (u.line officeLine).replies ++ [⟨replyBody 0x32 .mismatch fields, none⟩] }
     else u.endDeferred .mismatch fields) = s.loadFails p g fields d :=
  replied_eq (u := (s.putCtl p { d with load := none }).backFrom p g) (backFrom_deferred g officeLine) .mismatch fields

/-- The end of a verified load as the office line hears it. -/
theorem loadDone_replied (g : Load) (k : Pack) (d : Controller) :
    (let heldForIt := (s.openEntry p).any (·.kind == .noPack)
     let u := (s.packIn p g.slot k).putCtl p { d with load := none, position := .verified, held := d.held && !heldForIt }
     let u := if heldForIt && !d.faultOpen then u.clearEntry p else u
     let u := if g.takenIn = .offline then u.liftOffline p else u.setPrinterState p .idle
     (if (s.line officeLine).deferred = some (.loadPack p) then
      u.putLine officeLine { u.line officeLine with
        deferred := none
        replies := (u.line officeLine).replies ++ [⟨replyBody 0x32 .ok (byteOf (g.slot.val + 1) :: be 3 k.cursor), none⟩] }
      else u.endDeferred .ok (byteOf (g.slot.val + 1) :: be 3 k.cursor)).raise .loadDone .nothing) = s.loadDone p g k d := by
  refine congrArg (·.raise .loadDone .nothing) (replied_eq ?_ .ok _)
  have hclear : ∀ t : State, ((t.clearEntry p).line officeLine).deferred = (t.line officeLine).deferred := by
    intro t
    unfold State.clearEntry
    split
    · rfl
    · refine (State.raise_deferred ..).trans ?_
      unfold State.mapEntry State.setEntries
      split <;> rfl
  have hb : ∀ (b : Bool) (t : State), ((if b then t.clearEntry p else t).line officeLine).deferred = (t.line officeLine).deferred := by
    intro b t
    cases b
    · rfl
    · exact hclear t
  split
  · exact (State.liftOffline_deferred ..).trans (hb _ _)
  · exact (State.setPrinterState_deferred ..).trans (hb _ _)

end

/-- Settles O42: the strip judged, the end of its load, and the set judged on what that leaves. -/
theorem loadStripIsJudged : Obligations.LoadStripIsJudged := by
  refine ⟨fun s p hrun once ho hwait hl hne g hg hin k hk x => ?_, fun s p => ⟨fun g hg h1 h2 hin => ?_, liftOffline_lifted,
    liftOffline_engaged, fun status fields => endDeferred_eq status fields⟩⟩
  · obtain ⟨hbad, hnone, hgood⟩ := loadStrip_eq (s := s) (p := p) (d := { s.ctl p with outstanding := none, missed := 0 }) hg hk
    have hlast : ¬ g.badReads < 2 → ∀ a b serial,
        (s.putCtl p { s.ctl p with outstanding := none, missed := 0 }).loadStrip p (.strip false a b serial x) = _ :=
      fun hn a b serial => (hbad a b serial x).trans (if_neg hn)
    have hagain : g.badReads < 2 → ∀ a b serial,
        (s.putCtl p { s.ctl p with outstanding := none, missed := 0 }).loadStrip p (.strip false a b serial x) = _ :=
      fun hn a b serial => (hbad a b serial x).trans (if_pos hn)
    have hstrange : ∀ a b serial, a ≠ (s.kind k.kind).letter1 ∨ b ≠ (s.kind k.kind).letter2 ∨ serial ≠ k.cursor →
        (s.putCtl p { s.ctl p with outstanding := none, missed := 0 }).loadStrip p (.strip true a b serial x) = _ :=
      fun a b serial hn => (hgood a b serial x).trans (if_neg (by tauto))
    have hright := (hgood (s.kind k.kind).letter1 (s.kind k.kind).letter2 k.cursor x).trans (if_pos ⟨rfl, rfl, rfl⟩)
    have hrep := fun fields d => loadFails_replied (s := s) (p := p) g fields d
    have hdone := fun d => loadDone_replied (s := s) (p := p) g k d
    have again := fun hn a b serial => exec_loadStrip hrun ho hl (x := x) rfl (R := s.loadAgain p g) (hagain hn a b serial)
      (fun d x => State.putCtl_sensed s p _ x) (by rw [State.loadAgain, State.putCtl_ctl, if_pos rfl]; exact ⟨hne, rfl, hwait⟩)
    have fails := fun hn a b serial => exec_loadFails hrun ho hwait hl hne (x := x) rfl (hlast hn a b serial)
    have empty := exec_loadFails hrun ho hwait hl hne (x := x) rfl (hnone x)
    have strange := fun a b serial hn => exec_loadFails hrun ho hwait hl hne (x := x) rfl (hstrange a b serial hn)
    have right := exec_loadDone hrun ho hwait hl hne (x := x) rfl hright
    refine ⟨fun hx => ⟨fun a b serial => ?_, ?_, fun a b serial hn => ?_, ?_⟩,
      fun hx => ⟨fun a b serial => ?_, ?_, fun a b serial hn => ?_, ?_⟩⟩
    · by_cases hn : g.badReads < 2
      · rw [if_pos hn]; exact (again hn a b serial).1 hx
      · rw [if_neg hn]
        refine ((fails hn a b serial).1 hx).trans ?_
        rw [← hrep]; rfl
    · refine (empty.1 hx).trans ?_
      rw [← hrep]; rfl
    · refine ((strange a b serial hn).1 hx).trans ?_
      rw [← hrep]; rfl
    · refine (right.1 hx).trans ?_
      rw [← hdone]; rfl
    · by_cases hn : g.badReads < 2
      · rw [if_pos hn]; exact (again hn a b serial).2 hx
      · rw [if_neg hn]
        refine ((fails hn a b serial).2 hx).trans ?_
        rw [← hrep]; rfl
    · refine (empty.2 hx).trans ?_
      rw [← hrep]; rfl
    · refine ((strange a b serial hn).2 hx).trans ?_
      rw [← hrep]; rfl
    · refine (right.2 hx).trans ?_
      rw [← hdone]; rfl
  · exact loadStep_eq hg h1 h2 fun ht => (inService_iff _).mp (hin ht)

end Sys2Proof.Machine

/-! # The arbiters -/

namespace Sys2Proof.Machine

open Sys2Proof Sys2Proof.Machine

section
variable {s : State} {p : PrinterId}

theorem usable_eq : s.usable p = (s.loadedPack p).any (·.2.state == .loaded) := by
  unfold State.usable
  cases s.loadedPack p <;> rfl

/-! ## What an arbiter does -/

/-- The controller of a printer whose loop begins behind the operation outstanding (R91, R104). -/
def Controller.loopWaits (c : Controller) : Controller :=
  let waiting := c.waiting.filter fun w => match w with
    | .op _ .idleLift => false
    | _ => true
  let behindLift := c.outstanding.any (·.op == .lift) || waiting.any fun w => match w with
    | .op .lift _ => true
    | _ => false
  { c with
    state := if c.head = .lifted ∨ behindLift = true then .engaging
      else match c.position with
        | .verified => .printing
        | .none => .feeding
        | .unknown => .reading
    idleLift := false
    waiting := waiting ++ [.loopStart] }

/-- A loop that begins: its first pass, or its start waiting (R91). -/
def State.loopBegun (s : State) (p : PrinterId) : State :=
  if (s.ctl p).outstanding = none then s.startPass p else s.putCtl p (s.ctl p).loopWaits

theorem waiting_filter (ws : List Waiting) : (ws.filter fun w => match w with
    | .op _ .idleLift => false
    | _ => true) = ws.filter (!·.isIdleLift) := by
  congr 1
  funext w
  cases w with
  | op o purpose => cases purpose <;> rfl
  | _ => rfl

theorem Controller.loopShows_busy (c : Controller) : c.loopShows.busy = true := by
  unfold Controller.loopShows
  split <;> rfl

theorem Controller.loopShows_eq (c : Controller) : c.loopShows =
    if c.head = .lifted ∨ c.liftAhead = true then .engaging
    else match c.position with
      | .verified => .printing
      | .none => .feeding
      | .unknown => .reading := by
  have h := c.headFound_lifted_iff
  unfold Controller.loopShows
  cases hf : c.headFound with
  | lifted => rw [if_pos (h.mp hf)]
  | engaged =>
    rw [if_neg fun hn => by rw [h.mpr hn] at hf; cases hf]
    cases c.position <;> rfl

theorem beginLoop_eq (hi : (s.ctl p).state = .idle) : s.beginLoop p = s.loopBegun p := by
  unfold State.beginLoop State.loopBegun
  cases ho : (s.ctl p).outstanding with
  | none => rfl
  | some o =>
    have hb := Controller.loopShows_busy (s.ctl p)
    have hg : (s.ctl p).loopShows.group = (s.ctl p).state.group := by
      rw [hi]
      cases h : (s.ctl p).loopShows <;> first | rfl | (rw [h] at hb; cases hb)
    rw [Option.isNone_some, if_neg (by simp), if_neg (by simp), s.setPrinterState_inGroup p _ hg, Controller.enter_work _ hb]
    simp only [State.mapCtl, State.putCtl_putCtl, State.putCtl_ctl, if_true]
    rw [Controller.loopShows_eq, Controller.liftAhead_eq, Controller.loopWaits, waiting_filter] <;> rfl

/-- A lane head taken from its lane, before its loop begins (R20, R22, R91). -/
def State.taken (s : State) (p : PrinterId) (j : Job) (rest : Lanes) : State :=
  let low := decide (256 - (s.stock.exceptions.length + s.stock.reservation) - 6 < 32)
  let u := ((s.putLane p rest).putStock { s.stock with
    reservation := s.stock.reservation + 6, recordsLow := low }).putProgress p
      (some ⟨{ j with state := .printing, reservation := 6 }, false⟩)
  if low = true ∧ s.stock.recordsLow = false then u.raise .recordsLow .nothing else u

theorem admitted_eq (j : Job) (rest : Lanes) : s.admitted p j rest = s.taken p j rest := by
  have hfree : 256 - (s.stock.exceptions.length + (s.stock.reservation + 6)) =
      256 - (s.stock.exceptions.length + s.stock.reservation) - 6 := by omega
  unfold State.admitted State.taken
  rw [State.noteRecords_eq]
  simp only [Stock.noted, State.notedLow, ← hfree]
  rfl

/-- What an offered lane head leads to (R90-R92). -/
def State.offered (s : State) (p : PrinterId) (j : Job) (rest : Lanes) : State :=
  if s.usable p = false then (s.setPrinterState p .held).enterFault p .noPack none
  else if 256 - (s.stock.exceptions.length + s.stock.reservation) < 6 then s
  else (s.taken p j rest).loopBegun p

theorem taken_ctl (j : Job) (rest : Lanes) : (s.taken p j rest).ctl p = s.ctl p := by
  unfold State.taken
  dsimp only
  split
  · exact (CtlFree.raise _ _).ctl _ p
  · rfl

theorem offer_eq (hi : (s.ctl p).state = .idle) (j : Job) (rest : Lanes) : s.offer p j rest = s.offered p j rest := by
  unfold State.offer State.offered
  cases s.usable p with
  | false => rfl
  | true =>
    rw [State.admitHead_eq, admitted_eq, beginLoop_eq (by rw [taken_ctl]; exact hi)]
    rfl

theorem arbiter_not_idle (h : (s.ctl p).state ≠ .idle) : s.arbiter p = s := by rw [State.arbiter, if_pos h]

theorem arbiter_job (hi : (s.ctl p).state = .idle) {g : Progress} (hg : s.inProgress p = some g) : s.arbiter p =
    if g.job.state ≠ .suspended then s
    else if s.usable p = false then (s.setPrinterState p .held).enterFault p .noPack none
    else (s.putProgress p (some { g with job := { g.job with state := .printing } })).loopBegun p := by
  rw [State.arbiter, if_neg (by simp [hi]), hg]
  dsimp only
  split
  · rfl
  · cases s.usable p with
    | false => rfl
    | true =>
      rw [State.mapJob, hg]
      exact beginLoop_eq (s := s.putProgress p _) hi

theorem arbiter_office (hi : (s.ctl p).state = .idle) (hg : s.inProgress p = none) {j : Job} {rest : List Job}
    (hj : (s.lane p).office = j :: rest) : s.arbiter p = s.offered p j ⟨rest, (s.lane p).window⟩ := by
  rw [State.arbiter, if_neg (by simp [hi]), hg, hj]
  exact offer_eq hi j _

theorem arbiter_window (hi : (s.ctl p).state = .idle) (hg : s.inProgress p = none) {j : Job} {rest : List Job}
    (ho : (s.lane p).office = []) (hj : (s.lane p).window = j :: rest) : s.arbiter p = s.offered p j ⟨[], rest⟩ := by
  rw [State.arbiter, if_neg (by simp [hi]), hg, ho, hj]
  exact offer_eq hi j _

theorem arbiter_empty (hi : (s.ctl p).state = .idle) (hg : s.inProgress p = none) (ho : (s.lane p).office = [])
    (hw : (s.lane p).window = []) : s.arbiter p = s := by
  rw [State.arbiter, if_neg (by simp [hi]), hg, ho, hw]

/-! ## What an arbiter leaves alone -/

/-- What the work of one printer's arbiter leaves: everything of the other printers, the packs and the records written, and
no mark unsettled. -/
structure State.Acted (s t : State) (p : PrinterId) : Prop where
  phase : t.phase = s.phase
  packs : t.stock.packs = s.stock.packs
  loaded : t.stock.loaded = s.stock.loaded
  exceptions : t.stock.exceptions = s.stock.exceptions
  reservation : s.stock.reservation ≤ t.stock.reservation
  ctls : ∀ q, q ≠ p → t.ctl q = s.ctl q
  jobs : ∀ q, q ≠ p → t.inProgress q = s.inProgress q
  lanes : ∀ q, q ≠ p → t.lane q = s.lane q
  opens : ∀ q, q ≠ p → ∀ e ∈ s.log.entries, e.isOpenOf q = true → e ∈ t.log.entries
  lane : ∀ j ∈ (t.lane p).office ++ (t.lane p).window, j ∈ (s.lane p).office ++ (s.lane p).window
  job : ∀ g, t.inProgress p = some g → g.job.state = .suspended → s.inProgress p = some g

namespace State.Acted

variable {t u : State}

theorem refl (s : State) (p : PrinterId) : s.Acted s p where
  phase := rfl
  packs := rfl
  loaded := rfl
  exceptions := rfl
  reservation := le_rfl
  ctls _ _ := rfl
  jobs _ _ := rfl
  lanes _ _ := rfl
  opens _ _ _ he _ := he
  lane _ hj := hj
  job _ hg _ := hg

theorem trans (h1 : s.Acted t p) (h2 : t.Acted u p) : s.Acted u p where
  phase := h2.phase.trans h1.phase
  packs := h2.packs.trans h1.packs
  loaded := h2.loaded.trans h1.loaded
  exceptions := h2.exceptions.trans h1.exceptions
  reservation := h1.reservation.trans h2.reservation
  ctls q hq := (h2.ctls q hq).trans (h1.ctls q hq)
  jobs q hq := (h2.jobs q hq).trans (h1.jobs q hq)
  lanes q hq := (h2.lanes q hq).trans (h1.lanes q hq)
  opens q hq e he ho := h2.opens q hq e (h1.opens q hq e he ho) ho
  lane j hj := h1.lane j (h2.lane j hj)
  job g hg hs := h1.job g (h2.job g hg hs) hs

/-- The controller and the job of the printer change, and notices are raised. -/
theorem of_parts {v : Vector Controller 4} {w : Vector (Option Progress) 4} {y : Vector LineState 7} {x : Signature}
    (hv : ∀ q : PrinterId, q ≠ p → v[q] = s.ctl q) (hw : ∀ q : PrinterId, q ≠ p → w[q] = s.inProgress q)
    (hj : ∀ g, w[p] = some g → g.job.state = .suspended → s.inProgress p = some g) :
    s.Acted { s with controllers := v, progress := w, lines := y, signature := x } p where
  phase := rfl
  packs := rfl
  loaded := rfl
  exceptions := rfl
  reservation := le_rfl
  ctls := hv
  jobs := hw
  lanes _ _ := rfl
  opens _ _ _ he _ := he
  lane _ h := h
  job := hj

theorem putCtl (s : State) (p : PrinterId) (c : Controller) : s.Acted (s.putCtl p c) p :=
  of_parts (fun q hq => by rw [show (s.controllers.set p c)[q] = (s.putCtl p c).ctl q from rfl, State.putCtl_ctl, if_neg hq])
    (fun _ _ => rfl) (fun _ hg _ => hg)

theorem raise (s : State) (p : PrinterId) (c : NoticeClass) (sub : Subject) : s.Acted (s.raise c sub) p := by
  unfold State.raise
  split
  · exact of_parts (fun _ _ => rfl) (fun _ _ => rfl) (fun _ hg _ => hg)
  · exact refl s p

theorem putProgress (s : State) (p : PrinterId) (x : Option Progress)
    (hx : ∀ g, x = some g → g.job.state = .suspended → s.inProgress p = some g) : s.Acted (s.putProgress p x) p :=
  of_parts (fun _ _ => rfl)
    (fun q hq => by
      rw [show (s.progress.set p x)[q] = (s.putProgress p x).inProgress q from rfl, State.putProgress_inProgress, if_neg hq])
    (fun g hg => hx g (by
      rwa [show (s.progress.set p x)[p] = (s.putProgress p x).inProgress p from rfl, State.putProgress_inProgress,
        if_pos rfl] at hg))

theorem setPrinterState (s : State) (p : PrinterId) (st : PrinterState) : s.Acted (s.setPrinterState p st) p := by
  unfold State.setPrinterState
  dsimp only
  split
  · exact putCtl s p _
  · exact (putCtl s p _).trans (raise _ p _ _)

theorem sendOp (s : State) (p : PrinterId) (op : Operation) (w : Purpose) : s.Acted (s.sendOp p op w) p := by
  unfold State.sendOp
  split
  · exact putCtl s p _
  · exact putCtl s p _

theorem marks (h : s.Acted t p) (hm : s.MarksSettled) : t.MarksSettled := by
  refine ⟨fun q j hj => ?_, fun q g hg hs => ?_⟩
  · by_cases hq : q = p
    · subst hq; exact hm.1 _ j (h.lane j hj)
    · rw [h.lanes q hq] at hj; exact hm.1 q j hj
  · by_cases hq : q = p
    · subst hq; exact hm.2 _ g (h.job g hg hs) hs
    · rw [h.jobs q hq] at hg; exact hm.2 q g hg hs

theorem usable (h : s.Acted t p) (q : PrinterId) : t.usable q = s.usable q := by
  rw [usable_eq, usable_eq, loadedPack_of_stock h.packs h.loaded]

end State.Acted

/-! ## Entries of other printers -/

theorem mem_dropFirst {α : Type} {test : α → Bool} {e : α} (he : test e = false) : ∀ {l : List α}, e ∈ l → e ∈ dropFirst test l
  | x :: xs, h => by
    unfold dropFirst
    split
    · rename_i hx
      rcases List.mem_cons.mp h with rfl | h
      · rw [he] at hx; cases hx
      · exact h
    · rcases List.mem_cons.mp h with rfl | h
      · exact List.mem_cons_self
      · exact List.mem_cons_of_mem _ (mem_dropFirst he h)

/-- No OPEN entry makes room for a new one (R150). -/
theorem mem_makeRoom {e : FaultEntry} {l : List FaultEntry} (ho : e.state = .opened) (h : e ∈ l) : e ∈ makeRoom l := by
  unfold makeRoom
  split
  · exact h
  · split <;> exact mem_dropFirst (by rw [ho]; rfl) h

theorem isOpenOf_iff {e : FaultEntry} : e.isOpenOf p = true ↔ e.source = some p ∧ e.state = .opened := by
  simp [FaultEntry.isOpenOf]

/-- An arising leaves the OPEN entries of other printers (R138, R139, R150). -/
theorem mem_enterFault {q : PrinterId} (hq : q ≠ p) (kind : FaultKind) (strip : Option StripRead) {e : FaultEntry}
    (he : e ∈ s.log.entries) (ho : e.isOpenOf q = true) : e ∈ (s.enterFault p kind strip).log.entries := by
  obtain ⟨hsrc, hopen⟩ := isOpenOf_iff.mp ho
  have hother : e.isOpenOf p = false := by
    rw [Bool.eq_false_iff]
    intro hp
    have := (isOpenOf_iff.mp hp).1
    rw [hsrc] at this
    exact hq (Option.some.inj this)
  have hmap : ∀ f : FaultEntry → FaultEntry, e ∈ (s.mapEntry p f).log.entries := by
    intro f
    have hm : e ∈ s.log.entries.map fun x => if x.isOpenOf p then f x else x :=
      List.mem_map.mpr ⟨e, he, by rw [hother]; rfl⟩
    unfold State.mapEntry State.setEntries
    split
    · exact he
    · exact hm
  unfold State.enterFault
  split
  · unfold State.openFault
    rw [State.raise_log]
    exact List.mem_append_left _ (mem_makeRoom hopen he)
  · dsimp only
    split
    · rw [State.raise_log]; exact hmap _
    · exact hmap _

theorem State.Acted.enterFault (s : State) (p : PrinterId) (kind : FaultKind) (strip : Option StripRead) :
    s.Acted (s.enterFault p kind strip) p where
  phase := congrArg Settings.phase (State.enterFault_settings ..)
  packs := congrArg Stock.packs (State.enterFault_stock ..)
  loaded := congrArg Stock.loaded (State.enterFault_stock ..)
  exceptions := congrArg Stock.exceptions (State.enterFault_stock ..)
  reservation := le_of_eq (congrArg Stock.reservation (State.enterFault_stock ..)).symm
  ctls q _ := ctl_of_controllers (State.enterFault_controllers ..) q
  jobs q _ := congrArg (fun v : Vector (Option Progress) 4 => v[q]) (State.enterFault_progress ..)
  lanes q _ := congrArg (fun v : Vector Lanes 4 => v[q]) (State.enterFault_lanes ..)
  opens _ hq _ he ho := mem_enterFault hq kind strip he ho
  lane j hj := by rwa [show (s.enterFault p kind strip).lane p = s.lane p from
    congrArg (fun v : Vector Lanes 4 => v[p]) (State.enterFault_lanes ..)] at hj
  job g hg _ := by rwa [show (s.enterFault p kind strip).inProgress p = s.inProgress p from
    congrArg (fun v : Vector (Option Progress) 4 => v[p]) (State.enterFault_progress ..)] at hg

/-! ## An arbiter that finds work -/

/-- A printer's work has begun, or it is HELD: it is no longer IDLE. -/
def State.SetToWork (s t : State) (p : PrinterId) : Prop := s.Acted t p ∧ (t.ctl p).state ≠ .idle

theorem sendOp_state (op : Operation) (w : Purpose) : ((s.sendOp p op w).ctl p).state = (s.ctl p).state := by
  unfold State.sendOp
  split <;> simp [State.transmit, State.mapCtl, Controller.puts]

theorem setToWork_sent (st : PrinterState) (hst : st ≠ .idle) (op : Operation) (w : Purpose) :
    s.SetToWork ((s.setPrinterState p st).sendOp p op w) p := by
  refine ⟨(State.Acted.setPrinterState ..).trans (State.Acted.sendOp ..), ?_⟩
  rw [sendOp_state, setPrinterState_ctl, if_pos rfl]
  exact hst

theorem State.SetToWork.behind {t u : State} (h1 : s.Acted t p) (h2 : t.SetToWork u p) : s.SetToWork u p :=
  ⟨h1.trans h2.1, h2.2⟩

theorem setToWork_nextLine : s.SetToWork (s.nextLine p) p := by
  unfold State.nextLine
  split
  · exact .behind (State.Acted.putCtl ..) (setToWork_sent _ (by simp) _ _)
  · exact setToWork_sent _ (by simp) _ _

theorem setToWork_formVerified {g : Progress} (hg : s.inProgress p = some g) (hm : g.job.abortMark = false)
    (hp : g.job.state = .printing) (hu : s.usable p = true) : s.SetToWork (s.formVerified p) p := by
  obtain ⟨slot, k, hk, -⟩ := usable_iff.mp hu
  simp only [State.formVerified, hg, hk, hm, Bool.false_eq_true, if_false]
  refine .behind ((State.Acted.putProgress s p _ ?_).trans (State.Acted.putCtl _ p _)) setToWork_nextLine
  rintro _ ⟨⟩ hs
  rw [show _ = g.job.state from rfl, hp] at hs
  cases hs

theorem setToWork_startPass {g : Progress} (hg : s.inProgress p = some g) (hm : g.job.abortMark = false)
    (hp : g.job.state = .printing) (hu : s.usable p = true) : s.SetToWork (s.startPass p) p := by
  simp only [State.startPass, hg, hm, hu, Bool.false_eq_true, if_false, Bool.not_true]
  split
  · exact setToWork_sent _ (by simp) _ _
  · have h1 : s.Acted (s.mapCtl p fun c => { c with usedAdvances := 0 }) p := State.Acted.putCtl ..
    unfold State.positionForm
    dsimp only
    split
    · exact .behind h1 (setToWork_formVerified (by exact hg) hm hp (by rw [h1.usable]; exact hu))
    · exact .behind (h1.trans (State.Acted.putCtl ..)) (setToWork_sent _ (by simp) _ _)
    · exact .behind (h1.trans (State.Acted.putCtl ..)) (setToWork_sent _ (by simp) _ _)

theorem setToWork_loopBegun {g : Progress} (hg : s.inProgress p = some g) (hm : g.job.abortMark = false)
    (hp : g.job.state = .printing) (hu : s.usable p = true) : s.SetToWork (s.loopBegun p) p := by
  unfold State.loopBegun
  split
  · exact setToWork_startPass hg hm hp hu
  · refine ⟨State.Acted.putCtl .., ?_⟩
    rw [State.putCtl_ctl, if_pos rfl, Controller.loopWaits]
    dsimp only
    split
    · simp
    · split <;> simp

theorem setToWork_held : s.SetToWork ((s.setPrinterState p .held).enterFault p .noPack none) p := by
  refine ⟨(State.Acted.setPrinterState ..).trans (State.Acted.enterFault ..), ?_⟩
  rw [ctl_of_controllers (State.enterFault_controllers ..), setPrinterState_ctl, if_pos rfl]
  simp [Controller.enter]

theorem acted_taken {j : Job} {rest : Lanes} (hr : ∀ i ∈ rest.office ++ rest.window, i ∈ (s.lane p).office ++ (s.lane p).window) :
    s.Acted (s.taken p j rest) p := by
  have h : s.Acted (((s.putLane p rest).putStock { s.stock with
      reservation := s.stock.reservation + 6
      recordsLow := decide (256 - (s.stock.exceptions.length + s.stock.reservation) - 6 < 32) }).putProgress p
      (some ⟨{ j with state := .printing, reservation := 6 }, false⟩)) p := {
    phase := rfl
    packs := rfl
    loaded := rfl
    exceptions := rfl
    reservation := Nat.le_add_right _ _
    ctls := fun _ _ => rfl
    jobs := fun q hq => by rw [State.putProgress_inProgress, if_neg hq]; rfl
    lanes := fun q hq => by
      show (s.putLane p rest).lane q = s.lane q
      rw [State.putLane_lane, if_neg hq]
    opens := fun _ _ _ he _ => he
    lane := fun i hi => by
      have hl : (s.putLane p rest).lane p = rest := by rw [State.putLane_lane, if_pos rfl]
      change i ∈ ((s.putLane p rest).lane p).office ++ ((s.putLane p rest).lane p).window at hi
      rw [hl] at hi
      exact hr i hi
    job := fun g hg hs => by
      rw [State.putProgress_inProgress, if_pos rfl] at hg
      cases hg; cases hs }
  unfold State.taken
  dsimp only
  split
  · exact h.trans (State.Acted.raise ..)
  · exact h

theorem taken_inProgress (j : Job) (rest : Lanes) :
    (s.taken p j rest).inProgress p = some ⟨{ j with state := .printing, reservation := 6 }, false⟩ := by
  have h : ∀ u : State, (u.putProgress p (some ⟨{ j with state := .printing, reservation := 6 }, false⟩)).inProgress p =
      some ⟨{ j with state := .printing, reservation := 6 }, false⟩ := fun u => by
    rw [State.putProgress_inProgress, if_pos rfl]
  unfold State.taken
  dsimp only
  split
  · rw [State.raise_inProgress, h]
  · exact h _

/-- An IDLE printer has no work it could take (R90-R92). -/
def State.NoWorkLeft (t : State) (p : PrinterId) : Prop :=
  (t.ctl p).state = .idle → (t.inProgress p).all (fun g => g.job.state != .suspended) = true ∧
    (t.inProgress p = none → (t.lane p).office ++ (t.lane p).window ≠ [] →
      t.usable p = true ∧ 256 - (t.stock.exceptions.length + t.stock.reservation) < 6)

theorem State.SetToWork.noWorkLeft {t : State} (h : s.SetToWork t p) : t.NoWorkLeft p := fun hi => absurd hi h.2

/-- Another printer's arbiter leaves a printer without work it could take. -/
theorem State.Acted.noWorkLeft {t : State} {q : PrinterId} (h : s.Acted t p) (hq : q ≠ p) (hn : s.NoWorkLeft q) : t.NoWorkLeft q := by
  intro hi
  have hres := h.reservation
  rw [h.ctls q hq] at hi
  obtain ⟨h1, h2⟩ := hn hi
  rw [h.jobs q hq, h.lanes q hq, h.usable, h.exceptions]
  refine ⟨h1, fun hnone hlane => ?_⟩
  obtain ⟨hu, hfree⟩ := h2 hnone hlane
  exact ⟨hu, by omega⟩

theorem offered_done {j : Job} {rest : Lanes} (hn : s.inProgress p = none)
    (hr : ∀ i ∈ rest.office ++ rest.window, i ∈ (s.lane p).office ++ (s.lane p).window) (hm : j.abortMark = false) :
    s.Acted (s.offered p j rest) p ∧ (s.offered p j rest).NoWorkLeft p := by
  unfold State.offered
  split
  · exact ⟨setToWork_held.1, setToWork_held.noWorkLeft⟩
  · rename_i hu
    split
    · rename_i hfree
      exact ⟨.refl s p, fun _ => ⟨by rw [hn]; rfl, fun _ _ => ⟨by simpa using hu, hfree⟩⟩⟩
    · have ht := acted_taken (s := s) (p := p) (j := j) hr
      have hw := State.SetToWork.behind ht (setToWork_loopBegun (taken_inProgress j rest) hm rfl
        (by rw [ht.usable]; simpa using hu))
      exact ⟨hw.1, hw.noWorkLeft⟩

/-- After its arbiter an IDLE printer has no work it could take, and nothing of another printer has changed (R90-R92). -/
theorem arbiter_done (p : PrinterId) (hm : s.MarksSettled) : s.Acted (s.arbiter p) p ∧ (s.arbiter p).NoWorkLeft p := by
  by_cases hi : (s.ctl p).state = .idle
  · cases hg : s.inProgress p with
    | some g =>
      rw [arbiter_job hi hg]
      by_cases hs : g.job.state = .suspended
      · rw [if_neg (by simp [hs])]
        split
        · exact ⟨setToWork_held.1, setToWork_held.noWorkLeft⟩
        · rename_i hu
          have hput : s.Acted (s.putProgress p (some { g with job := { g.job with state := .printing } })) p :=
            State.Acted.putProgress s p _ (by rintro _ ⟨⟩ h; cases h)
          have hw := State.SetToWork.behind hput (setToWork_loopBegun
            (g := { g with job := { g.job with state := .printing } }) (by rw [State.putProgress_inProgress, if_pos rfl])
            (hm.2 p g hg hs) rfl (by rw [hput.usable]; simpa using hu))
          exact ⟨hw.1, hw.noWorkLeft⟩
      · rw [if_pos hs]
        exact ⟨.refl s p, fun _ => ⟨by simp [hg, hs], fun hn => by rw [hg] at hn; cases hn⟩⟩
    | none =>
      cases ho : (s.lane p).office with
      | cons j rest =>
        rw [arbiter_office hi hg ho]
        exact offered_done hg (fun i h => by rw [ho]; exact List.mem_cons_of_mem _ h) (hm.1 p j (by simp [ho]))
      | nil =>
        cases hw : (s.lane p).window with
        | cons j rest =>
          rw [arbiter_window hi hg ho hw]
          exact offered_done hg (fun i h => by rw [ho, hw]; exact List.mem_cons_of_mem _ h) (hm.1 p j (by simp [hw]))
        | nil =>
          rw [arbiter_empty hi hg ho hw]
          exact ⟨.refl s p, fun _ => ⟨by rw [hg]; rfl, fun _ hl => absurd (by rw [ho, hw]; rfl) hl⟩⟩
  · rw [arbiter_not_idle hi]
    exact ⟨.refl s p, fun h => absurd h hi⟩

end

/-! ## All arbiters -/

/-- Arbiters that act in some order leave none of their printers IDLE with work. -/
theorem arbiters_done : ∀ (order : List PrinterId) (s : State), s.MarksSettled → ∀ p, p ∈ order ∨ s.NoWorkLeft p →
    (order.foldl (fun t p => t.arbiter p) s).NoWorkLeft p
  | [], s, _, p, hp => hp.resolve_left (by simp)
  | q :: order, s, hm, p, hp => by
    obtain ⟨hact, hdone⟩ := arbiter_done q hm
    refine arbiters_done order (s.arbiter q) (hact.marks hm) p ?_
    by_cases hq : p = q
    · subst hq; exact .inr hdone
    · refine (hp.imp (fun h => ?_) (hact.noWorkLeft hq))
      exact (List.mem_cons.mp h).resolve_left hq

/-- An order picked by a number is one of the whole list. -/
theorem pickOrder_perm {α : Type} : ∀ (fuel : Nat) (list : List α) (n : Nat), list.length = fuel → (pickOrder fuel list n).Perm list
  | 0, list, n, h => by rw [List.length_eq_zero_iff.mp h]; exact .refl _
  | fuel + 1, list, n, h => by
    have hlt : n % list.length < list.length := Nat.mod_lt _ (by omega)
    unfold pickOrder
    rw [List.getElem?_eq_getElem hlt]
    dsimp only
    have hlen : (list.eraseIdx (n % list.length)).length = fuel := by rw [List.length_eraseIdx_of_lt hlt, h]; rfl
    exact (List.Perm.cons _ (pickOrder_perm fuel _ _ hlen)).trans (List.getElem_cons_eraseIdx_perm hlt)

/-- After an event some order of the four printers' arbiters acts. -/
theorem arbitrateAll_order (s : State) : ∃ order : List PrinterId, order.Perm printers ∧
    s.arbitrateAll = order.foldl (fun t p => t.arbiter p) (if s.contended then s.putDraws (s.draws + 1) else s) := by
  unfold State.arbitrateAll
  split
  · exact ⟨_, pickOrder_perm 4 printers _ rfl, rfl⟩
  · exact ⟨printers, .refl _, rfl⟩

theorem arbitrateAll_done (s : State) (hm : s.MarksSettled) (p : PrinterId) : s.arbitrateAll.NoWorkLeft p := by
  obtain ⟨order, hperm, h⟩ := arbitrateAll_order s
  rw [h]
  refine arbiters_done order _ ?_ p (.inl (hperm.mem_iff.mpr (mem_printers p)))
  split
  · exact hm
  · exact hm

theorem claims_eq (s : State) (p : PrinterId) : s.claims p = decide ((s.ctl p).state = .idle ∧ s.inProgress p = none ∧
    (s.loadedPack p).any (·.2.state == .loaded) = true ∧ (s.lane p).office ++ (s.lane p).window ≠ []) := by
  rw [← usable_eq, Bool.eq_iff_iff]
  simp only [State.claims, Bool.and_eq_true, decide_eq_true_eq, beq_iff_eq, Option.isNone_iff_eq_none, Bool.not_eq_true',
    Bool.and_eq_false_iff, List.isEmpty_eq_false_iff, and_assoc, ne_eq, List.append_eq_nil_iff, not_and_or]

theorem contended_eq (s : State) : s.contended = decide (1 < (printers.filter s.claims).length ∧ 6 ≤ s.unreserved ∧
    s.unreserved < 6 * (printers.filter s.claims).length) := by
  simp [State.contended, Bool.decide_and, Bool.and_assoc]

theorem arbitrateAll_calm {s : State} (h : s.contended = false) :
    s.arbitrateAll = (((s.arbiter 0).arbiter 1).arbiter 2).arbiter 3 := by
  simp only [State.arbitrateAll, h, Bool.false_eq_true, if_false, printers, List.foldl_cons, List.foldl_nil]

theorem exists_four_of_length {α : Type} : ∀ {list : List α}, list.length = 4 → ∃ a b c d, list = [a, b, c, d]
  | [a, b, c, d], _ => ⟨a, b, c, d, rfl⟩

theorem arbitrateAll_contended {s : State} (h : s.contended = true) : ∃ a b c d : PrinterId, [a, b, c, d].Nodup ∧
    s.arbitrateAll = (((((s.putDraws (s.draws + 1)).arbiter a).arbiter b).arbiter c).arbiter d) := by
  obtain ⟨order, hperm, horder⟩ := arbitrateAll_order s
  have hnodup : order.Nodup := hperm.nodup_iff.mpr (by decide)
  have hlen : order.length = 4 := hperm.length_eq
  rw [if_pos h] at horder
  obtain ⟨a, b, c, d, rfl⟩ := exists_four_of_length hlen
  exact ⟨a, b, c, d, hnodup, by simpa only [List.foldl_cons, List.foldl_nil] using horder⟩

/-- What an idle transmitter takes: its oldest reply, else its waiting notice (R179, R186). -/
theorem LineState.pump_eq (ln : LineState) (r : StartResult) : ln.pump r =
    if ln.sending ≠ none then ln
    else match ln.replies with
      | first :: rest => { ln with
          replies := rest, sending := some ⟨frameOf 0xA5 first.body, first.second.map (frameOf 0xA5)⟩ }
      | [] =>
        if ln.notice = true ∧ ln.pendingSet ≠ 0 then { ln with
          notice := false
          sending := some ⟨frameOf 0xA6 (be 2 ln.pendingSet.toNat ++ [byteOf r.code]), none⟩ }
        else { ln with notice := false } := by
  obtain ⟨receiver, replies, notice, sending, deferred, mask, pending, outcomes, body⟩ := ln
  cases sending with
  | some f => rfl
  | none =>
    cases replies with
    | cons first rest => rfl
    | nil =>
      cases notice with
      | false => rfl
      | true =>
        by_cases hz : pending = 0 <;> simp [LineState.pump, hz, noticeFrame, leadA6]

/-- What the lamp of a printer shows after an event (R132). -/
theorem lampNow_eq (t : State) (p : PrinterId) : t.lampNow p =
    if (t.ctl p).state = .held ∨ (t.ctl p).state = .offline then .steady
    else if (t.ctl p).state = .fault then .fastFlash
    else if (t.loadedPack p).any (·.2.lowFlag) then .slowFlash
    else .off := by
  unfold State.lampNow
  cases t.loadedPack p <;> cases (t.ctl p).state <;> simp [lampOf]

theorem showLamp_eq (c : Controller) (lamp : Lamp) : c.showLamp lamp =
    if c.lamp = lamp then c else { c with lamp := lamp, lampOn := decide (lamp ≠ .off) } := by
  unfold Controller.showLamp
  cases lamp <;> rfl

/-- Settles O50: an arbiter's work by its cases, the order of the four, and that none is left IDLE with work. -/
theorem noIdlePrinterWithWork : Obligations.NoIdlePrinterWithWork := by
  refine ⟨fun s _ hm p => arbitrateAll_done s hm p, fun s p => ⟨fun hi => arbiter_not_idle hi, fun hi => ⟨fun g hg => ?_,
    fun hn => ⟨fun j rest ho => ?_, fun j rest ho hw => ?_, arbiter_empty hi hn⟩⟩⟩, fun s => ?_⟩
  · rw [arbiter_job hi hg, usable_eq]
    rfl
  · rw [arbiter_office hi hn ho, State.offered, usable_eq, State.loopBegun, taken_ctl]
    rfl
  · rw [arbiter_window hi hn ho hw, State.offered, usable_eq, State.loopBegun, taken_ctl]
    rfl
  · have hcont := contended_eq s
    rw [funext (claims_eq s)] at hcont
    dsimp only
    refine ⟨fun hc => arbitrateAll_calm (hcont.trans hc), fun hc => arbitrateAll_contended (hcont.trans hc), fun l => ?_, ?_, ?_⟩
    · exact congrArg (s.putLine l) (LineState.pump_eq (s.line l) s.startResult)
    · exact congrArg (fun f : Line → LineState => { s with lines := Vector.ofFn f })
        (funext fun l => LineState.pump_eq (s.line l) s.startResult)
    · simp only [State.afterEvent, State.refreshLamps, lampNow_eq, showLamp_eq]

end Sys2Proof.Machine

/-! # A physical fault: the job it stops -/

namespace Sys2Proof.Machine

open Sys2Proof Sys2Proof.Machine

variable {s : State} {p : PrinterId}

/-! ## The form it spoils, and the suspension -/

/-- The form a fault spoils (R118). -/
def State.spoilt (s : State) (p : PrinterId) : List Coupon :=
  if s.formAtRisk p then (s.loadedPack p).toList.map fun x => ⟨x.1, x.2.cursor⟩ else []

/-- The job as a fault suspends it, with some of its forms spoiled (R118). -/
def Progress.suspendedWith (g : Progress) (spoilt : Nat) : Progress :=
  ⟨{ g.job with
    state := .suspended, failures := g.job.failures + spoilt, reservation := g.job.reservation - spoilt }, false⟩

/-- The counters of a session behind a failed form of a kind, or without one (R52). -/
def Session.failedForm (x : Session) (k : Kind) (failed : Bool) : Vector KindCounters 8 :=
  x.counters.set k { x.counters[k] with
    failed := if failed then min (x.counters[k].failed + 1) 9999999 else x.counters[k].failed }

/-- A job at work has been suspended, and its form at risk spoiled (R118). -/
structure State.Suspended (s t : State) (p : PrinterId) (g : Progress) : Prop where
  job : t.inProgress p = some (g.suspendedWith (s.spoilt p).length)
  jobs : ∀ q, q ≠ p → t.inProgress q = s.inProgress q
  exceptions : t.stock.exceptions = s.stock.exceptions ++ (s.spoilt p).map (s.formRecord g.job.session .spoiled)
  reservation : t.stock.reservation = s.stock.reservation - (s.spoilt p).length
  pack : ∀ slot, t.pack slot = if s.formAtRisk p = true ∧ s.loaded p = some slot then
    (s.pack slot).map fun x => x.pastOne (s.kind x.kind).threshold else s.pack slot
  session : t.session g.job.session = { s.session g.job.session with
    counters := (s.session g.job.session).failedForm g.job.kind (s.formAtRisk p) }
  sessions : ∀ m, m ≠ g.job.session → t.session m = s.session m
  settings : t.settings = s.settings
  lanes : t.lanes = s.lanes
  log : t.log = s.log
  drawers : t.drawers = s.drawers
  draws : t.draws = s.draws
  valid : t.signature = .valid

theorem formAtRisk_loaded (h : s.formAtRisk p = true) : ∃ slot k, s.loadedPack p = some (slot, k) := by
  unfold State.formAtRisk at h
  simp only [Bool.and_eq_true, Option.isSome_iff_exists] at h
  obtain ⟨⟨-, x, hx⟩, -⟩ := h
  exact ⟨x.1, x.2, hx⟩

theorem midForm_job (h : s.midForm p = true) : ∃ g, s.inProgress p = some g := by
  unfold State.midForm at h
  cases hg : s.inProgress p with
  | none => simp [hg] at h
  | some g => exact ⟨g, rfl⟩

/-- A failed form up to the failure count of its job: record, cursor, and the count of its kind (R19, R52). -/
def State.formFailed (s : State) (p : PrinterId) (g : Progress) (slot : Slot) (k : Pack) (reason : Reason) : State :=
  ((s.addJobRecord p slot k.cursor 1 reason).moveCursor slot (k.cursor + 1)).countKind g.job.session g.job.kind
    fun c => { c with failed := bump c.failed 1 }

theorem formFailed_recorded {g : Progress} (hg : s.inProgress p = some g) (slot : Slot) (k : Pack) (reason : Reason) :
    s.Recorded (s.formFailed p g slot k reason) p g [s.formRecord g.job.session reason ⟨slot, k.cursor⟩]
      ((s.session g.job.session).failedForm g.job.kind true) :=
  (((State.Recorded.start hg).add ⟨slot, k.cursor⟩ reason).move slot (k.cursor + 1)).count g.job.kind _

theorem formFailed_pack {g : Progress} {slot : Slot} {k : Pack} (hk : s.pack slot = some k) (reason : Reason) (a : Slot) :
    (s.formFailed p g slot k reason).pack a = if a = slot then some (k.pastOne (s.kind k.kind).threshold) else s.pack a := by
  have hk1 : (s.addJobRecord p slot k.cursor 1 reason).pack slot = some k := (pack_of_packs (by simp) slot).trans hk
  have hkind : (s.addJobRecord p slot k.cursor 1 reason).kind k.kind = s.kind k.kind := kind_of_kinds (by simp) _
  refine (moveCursor_pastOne hk1 a).trans ?_
  rw [hkind]
  split
  · rfl
  · exact pack_of_packs (by simp) a

theorem failForm_eq {g : Progress} (hg : s.inProgress p = some g) (slot : Slot) (k : Pack) (reason : Reason) :
    s.failForm p slot k.cursor 1 reason = (s.formFailed p g slot k reason).putProgress p (some { g with job := { g.job with
      reservation := g.job.reservation - 1, failures := g.job.failures + 1 } }) := by
  have h := (formFailed_recorded hg slot k reason).job
  simp only [State.failForm, hg]
  show (s.formFailed p g slot k reason).mapJob p _ = _
  simp only [State.mapJob, h]
  rfl

theorem faultSuspends_safe {g : Progress} (hm : s.midForm p = true) (hg : s.inProgress p = some g) (hr : s.formAtRisk p = false) :
    s.faultSuspends p = s.putProgress p (some (g.suspendedWith 0)) := by
  have hspoil : s.spoilForm p = s := by
    rw [spoilForm_eq hm, hr]
    cases s.loadedPack p <;> simp
  rw [State.faultSuspends, if_pos hm, hspoil, suspend_eq hg]
  rfl

theorem faultSuspends_spoils {g : Progress} (hm : s.midForm p = true) (hg : s.inProgress p = some g) (hr : s.formAtRisk p = true)
    {slot : Slot} {k : Pack} (hk : s.loadedPack p = some (slot, k)) : s.faultSuspends p =
      ((s.formFailed p g slot k .spoiled).putProgress p (some (g.suspendedWith 1))).putCtl p
        { s.ctl p with position := .unknown } := by
  rw [State.faultSuspends, if_pos hm, spoilForm_eq hm, hk, hr]
  dsimp only
  rw [if_pos rfl, failForm_eq hg, suspend_eq (g := { g with job := { g.job with
    reservation := g.job.reservation - 1, failures := g.job.failures + 1 } }) (by simp)]
  simp only [State.putProgress, State.putCtl, Vector.set_set]
  rfl

theorem faultSuspends_suspended {g : Progress} (hm : s.midForm p = true) (hg : s.inProgress p = some g) :
    s.Suspended (s.faultSuspends p) p g := by
  cases hr : s.formAtRisk p with
  | false =>
    have hs : s.spoilt p = [] := by simp [State.spoilt, hr]
    have hkeep : (s.session g.job.session).failedForm g.job.kind false = (s.session g.job.session).counters :=
      Vector.set_getElem_self _
    rw [faultSuspends_safe hm hg hr]
    exact {
      job := by simp [hs]
      jobs := fun q hq => by simp [hq]
      exceptions := by simp [hs]
      reservation := by simp [hs]
      pack := fun slot => by simp [hr]
      session := by rw [hr, hkeep]; rfl
      sessions := fun _ _ => rfl
      settings := rfl
      lanes := rfl
      log := rfl
      drawers := rfl
      draws := rfl
      valid := rfl }
  | true =>
    obtain ⟨slot, k, hk⟩ := formAtRisk_loaded hr
    obtain ⟨hloaded, hslot⟩ := State.PacksAre.pack_of_loadedPack hk
    have hs : s.spoilt p = [⟨slot, k.cursor⟩] := by simp [State.spoilt, hr, hk]
    have h := formFailed_recorded hg slot k .spoiled
    have hpack := formFailed_pack (p := p) (g := g) hslot .spoiled
    have hdraws : (s.formFailed p g slot k .spoiled).draws = s.draws := by simp [State.formFailed]
    rw [faultSuspends_spoils hm hg hr hk]
    generalize s.formFailed p g slot k .spoiled = u at h hpack hdraws ⊢
    exact {
      job := by simp [hs]
      jobs := fun q hq => by simpa [hq] using h.jobs q hq
      exceptions := by rw [hs]; exact h.exceptions
      reservation := by rw [hs]; exact h.reservation
      pack := fun a => by
        refine (hpack a).trans ?_
        by_cases ha : slot = a
        · subst ha; simp [hr, hloaded, hslot]
        · simp [hloaded, ha, Ne.symm ha]
      session := by rw [hr]; exact h.session
      sessions := h.sessions
      settings := h.settings
      lanes := h.lanes
      log := h.log
      drawers := h.drawers
      draws := hdraws
      valid := rfl }

/-! ## The entry, and the end at the boundary -/

/-- The work of a physical fault up to its entry in the log (R118, R120, R138). -/
def State.faultEntered (s : State) (p : PrinterId) (k : FaultKind) : State := (s.faultShows p k).enterFault p k none

/-- The work of a physical fault on the job in progress: behind the entry, a job at its end has ended (R95, R100, R118). -/
def State.faultStopped (s : State) (p : PrinterId) (k : FaultKind) : State :=
  match s.faultEnds p with
  | some r => (s.faultEntered p k).endJob p r
  | none => s.faultEntered p k

/-- What showing a fault leaves alone. -/
theorem faultShows_frame (k : FaultKind) : (s.faultShows p k).stock = (s.faultSuspends p).stock ∧
    (s.faultShows p k).till = (s.faultSuspends p).till ∧ (s.faultShows p k).progress = (s.faultSuspends p).progress ∧
    (s.faultShows p k).log = (s.faultSuspends p).log ∧ (s.faultShows p k).settings = (s.faultSuspends p).settings := by
  unfold State.faultShows
  dsimp only
  split <;> simp

theorem faultEntered_frame (k : FaultKind) : (s.faultEntered p k).stock = (s.faultSuspends p).stock ∧
    (s.faultEntered p k).till = (s.faultSuspends p).till ∧ (s.faultEntered p k).progress = (s.faultSuspends p).progress ∧
    (s.faultEntered p k).settings = (s.faultSuspends p).settings := by
  obtain ⟨hstock, htill, hprog, -, hset⟩ := faultShows_frame (s := s) (p := p) k
  exact ⟨(State.enterFault_stock ..).trans hstock, (State.enterFault_till ..).trans htill,
    (State.enterFault_progress ..).trans hprog, (State.enterFault_settings ..).trans hset⟩

theorem spoilt_length : (s.spoilt p).length = if s.formAtRisk p then 1 else 0 := by
  unfold State.spoilt
  split
  · rename_i h
    obtain ⟨slot, k, hk⟩ := formAtRisk_loaded h
    simp [hk]
  · rfl

theorem faultEnds_of_midForm {g : Progress} (hm : s.midForm p = true) (hg : s.inProgress p = some g) : s.faultEnds p =
    if 3 ≤ g.job.failures + (s.spoilt p).length then some .failures else if g.job.abortMark then some .aborted else none := by
  simp only [State.faultEnds, hm, hg, if_true, Option.bind_some, spoilt_length]

theorem faultEnds_of_not_midForm (hm : s.midForm p = false) : s.faultEnds p = none := by simp [State.faultEnds, hm]

theorem faultEntered_inProgress {g : Progress} (hm : s.midForm p = true) (hg : s.inProgress p = some g) (k : FaultKind) :
    (s.faultEntered p k).inProgress p = some (g.suspendedWith (s.spoilt p).length) :=
  (congrArg (fun v : Vector (Option Progress) 4 => v[p]) (faultEntered_frame k).2.2.1).trans (faultSuspends_suspended hm hg).job

/-- A physical fault is its work on the job in progress, then that on the load in hand (R10, R118). -/
theorem physicalFault_stopped (k : FaultKind) : s.physicalFault p k = (s.faultStopped p k).faultLoad p := by
  rw [physicalFault_eq, State.faultStopped]
  congr 1
  cases hm : s.midForm p with
  | false => rw [faultEnds_of_not_midForm hm]; rfl
  | true =>
    obtain ⟨g, hg⟩ := midForm_job hm
    show State.endAtBoundary (s.faultEntered p k) p = _
    rw [faultEnds_of_midForm hm hg]
    simp only [State.endAtBoundary, faultEntered_inProgress hm hg k]
    show (if 3 ≤ g.job.failures + (s.spoilt p).length then _ else if g.job.abortMark = true then _ else _) = _
    split
    · rfl
    · split <;> rfl

/-- The counters of a session behind the coupons of a job undone (R52, R95). -/
def undoneCounters (v : Vector KindCounters 8) (j : Job) : Vector KindCounters 8 :=
  v.set j.kind { v[j.kind] with
    incomplete := if j.printed = [] then v[j.kind].incomplete else min (v[j.kind].incomplete + j.printed.length) 9999999 }

/-- A fault that found a job at work has ended it (R95, R100, R118). -/
structure State.FaultEnded (s t : State) (p : PrinterId) (g : Progress) : Prop where
  job : t.inProgress p = none
  jobs : ∀ q, q ≠ p → t.inProgress q = s.inProgress q
  exceptions : t.stock.exceptions = s.stock.exceptions ++ (s.spoilt p).map (s.formRecord g.job.session .spoiled) ++
    g.job.printed.map (s.formRecord g.job.session .incomplete)
  reservation : t.stock.reservation = s.stock.reservation - (s.spoilt p).length - g.job.printed.length -
    (g.job.reservation - (s.spoilt p).length - g.job.printed.length)
  packs : t.stock.packs = (s.faultSuspends p).stock.packs
  session : t.session g.job.session =
    { (s.session g.job.session).setTally g.job.tender (((s.session g.job.session).tally g.job.tender).releasePending
        g.job.total) with
      counters := undoneCounters ((s.session g.job.session).failedForm g.job.kind (s.formAtRisk p)) g.job }
  sessions : ∀ m, m ≠ g.job.session → t.session m = s.session m

theorem faultEnds_failed {r : JobResult} (he : s.faultEnds p = some r) :
    s.midForm p = true ∧ r ≠ .printerReset := by
  cases hm : s.midForm p with
  | false => rw [faultEnds_of_not_midForm hm] at he; cases he
  | true =>
    obtain ⟨g, hg⟩ := midForm_job hm
    rw [faultEnds_of_midForm hm hg] at he
    refine ⟨rfl, ?_⟩
    rintro rfl
    split at he
    · cases he
    · split at he <;> cases he

theorem faultEntered_session {g : Progress} (hm : s.midForm p = true) (hg : s.inProgress p = some g) (k : FaultKind) :
    (s.faultEntered p k).session g.job.session = { s.session g.job.session with
      counters := (s.session g.job.session).failedForm g.job.kind (s.formAtRisk p) } :=
  (congrArg (fun x : Till => x.sessions[g.job.session]) (faultEntered_frame k).2.1).trans (faultSuspends_suspended hm hg).session

theorem faultEntered_record {g : Progress} (hm : s.midForm p = true) (hg : s.inProgress p = some g) (k : FaultKind) :
    (s.faultEntered p k).formRecord g.job.session = s.formRecord g.job.session := by
  have hclock : (s.faultEntered p k).clock = s.clock :=
    congrArg Settings.clock ((faultEntered_frame k).2.2.2.trans (faultSuspends_suspended hm hg).settings)
  funext reason c
  simp only [State.formRecord, State.newRecord, State.stampNow, hclock, faultEntered_session hm hg k]

/-- The forms of a job that a fault ends, undone behind its entry (R95). -/
theorem faultEntered_undone {g : Progress} {r : JobResult} (hg : s.inProgress p = some g) (he : s.faultEnds p = some r)
    (k : FaultKind) : ∃ u, s.faultStopped p k = u.ended p (g.suspendedWith (s.spoilt p).length).job r ∧
      (s.faultEntered p k).Recorded u p (g.suspendedWith (s.spoilt p).length)
        (g.job.printed.map (s.formRecord g.job.session .incomplete))
        (undoneCounters ((s.session g.job.session).failedForm g.job.kind (s.formAtRisk p)) g.job) ∧
      u.stock.packs = (s.faultEntered p k).stock.packs ∧
      u = (s.faultEntered p k).undoCoupons p g.job.session g.job.kind g.job.printed := by
  obtain ⟨hm, hr⟩ := faultEnds_failed he
  have hw := faultEntered_inProgress hm hg k
  have hu : (s.faultEntered p k).formsUndone p (g.suspendedWith (s.spoilt p).length) r =
      (s.faultEntered p k).undoCoupons p g.job.session g.job.kind g.job.printed := if_neg hr
  refine ⟨_, ?_, ?_, by simp, rfl⟩
  · rw [State.faultStopped, he]
    exact (endJob_eq hw r).trans (by rw [hu])
  · have h := State.Recorded.undo g.job.kind g.job.printed (State.Recorded.start hw)
    have hs : (s.faultEntered p k).session (g.suspendedWith (s.spoilt p).length).job.session = _ := faultEntered_session hm hg k
    rw [hs, List.nil_append, show (g.suspendedWith (s.spoilt p).length).job.session = g.job.session from rfl,
      faultEntered_record hm hg k] at h
    exact h

theorem faultStopped_ended {g : Progress} {r : JobResult} (hg : s.inProgress p = some g) (he : s.faultEnds p = some r)
    (k : FaultKind) : s.FaultEnded (s.faultStopped p k) p g := by
  obtain ⟨hm, hr⟩ := faultEnds_failed he
  obtain ⟨u, hstop, h, hpacks, -⟩ := faultEntered_undone hg he k
  obtain ⟨hstock, htill, hprog, hset⟩ := faultEntered_frame (s := s) (p := p) k
  have hsus := faultSuspends_suspended hm hg
  have hend := ended_stock h r
  rw [hstop]
  exact {
    job := by rw [ended_inProgress h, if_pos rfl]
    jobs := fun q hq => by
      rw [ended_inProgress h, if_neg hq]
      exact (congrArg (fun v : Vector (Option Progress) 4 => v[q]) hprog).trans (hsus.jobs q hq)
    exceptions := by rw [hend]; simp only [Stock.noted, h.exceptions, hstock, hsus.exceptions]
    reservation := by
      rw [hend]
      simp only [Stock.noted, h.reservation, hstock, hsus.reservation, List.length_map]
      rfl
    packs := by rw [hend]; exact hpacks.trans (congrArg Stock.packs hstock)
    session := by
      have hs := ended_session h r g.job.session
      rw [faultEntered_session hm hg k] at hs
      refine (hs.trans (if_pos rfl)).trans ?_
      simp only [Progress.suspendedWith]
      cases g.job.tender <;> rfl
    sessions := fun m hm' => by
      rw [ended_session h r m]
      exact (if_neg hm').trans ((congrArg (fun x : Till => x.sessions[m]) htill).trans (hsus.sessions m hm')) }

theorem faultStopped_going (he : s.faultEnds p = none) (k : FaultKind) : s.faultStopped p k = s.faultEntered p k := by
  rw [State.faultStopped, he]

/-- A fault that finds no job at work leaves stock, till and jobs as they are. -/
theorem faultStopped_calm (hm : s.midForm p = false) (k : FaultKind) : (s.faultStopped p k).stock = s.stock ∧
    (s.faultStopped p k).till = s.till ∧ (s.faultStopped p k).progress = s.progress := by
  have hs : s.faultSuspends p = s := by rw [State.faultSuspends, hm]; rfl
  obtain ⟨hstock, htill, hprog, -⟩ := faultEntered_frame (s := s) (p := p) k
  rw [hs] at hstock htill hprog
  rw [faultStopped_going (faultEnds_of_not_midForm hm)]
  exact ⟨hstock, htill, hprog⟩

/-! ## What the fault leaves -/

theorem physicalFault_stock (k : FaultKind) : (s.physicalFault p k).stock = (s.faultStopped p k).stock := by
  rw [physicalFault_stopped, State.faultLoad_stock]

theorem physicalFault_till (k : FaultKind) : (s.physicalFault p k).till = (s.faultStopped p k).till := by
  rw [physicalFault_stopped, State.faultLoad_till]

theorem physicalFault_progress (k : FaultKind) : (s.physicalFault p k).progress = (s.faultStopped p k).progress := by
  rw [physicalFault_stopped, State.faultLoad_progress]

theorem physicalFault_inProgress (k : FaultKind) (q : PrinterId) :
    (s.physicalFault p k).inProgress q = (s.faultStopped p k).inProgress q :=
  congrArg (fun v : Vector (Option Progress) 4 => v[q]) (physicalFault_progress k)

theorem physicalFault_session (k : FaultKind) (n : SessionId) :
    (s.physicalFault p k).session n = (s.faultStopped p k).session n :=
  congrArg (fun x : Till => x.sessions[n]) (physicalFault_till k)

theorem faultStopped_controllers (k : FaultKind) : (s.faultStopped p k).controllers = (s.faultShows p k).controllers := by
  unfold State.faultStopped State.faultEntered
  split <;> simp

theorem physicalFault_other (k : FaultKind) {q : PrinterId} (hq : q ≠ p) :
    (s.physicalFault p k).ctl q = s.ctl q ∧ (s.physicalFault p k).inProgress q = s.inProgress q := by
  have hctls : ∀ t : State, (∀ f : Controller → Controller, (t.mapCtl p f).ctl q = t.ctl q) := fun t f => by
    simp [State.mapCtl, hq]
  have hshow : (s.faultShows p k).ctl q = (s.faultSuspends p).ctl q := by
    unfold State.faultShows
    dsimp only
    split
    · exact hctls _ _
    · rw [setPrinterState_ctl, if_neg hq]; exact hctls _ _
  constructor
  · rw [physicalFault_stopped, faultLoad_ctl, if_neg hq, ctl_of_controllers (faultStopped_controllers k), hshow]
    cases hm : s.midForm p with
    | false => rw [State.faultSuspends, hm]; rfl
    | true =>
      rw [State.faultSuspends, if_pos hm, ctl_of_controllers (State.suspend_controllers _ p), spoilForm_eq hm]
      split
      · split
        · simp [hq, ctl_of_controllers (State.failForm_controllers ..)]
        · rfl
      · rfl
  · rw [physicalFault_inProgress]
    cases hm : s.midForm p with
    | false => exact congrArg (fun v : Vector (Option Progress) 4 => v[q]) (faultStopped_calm hm k).2.2
    | true =>
      obtain ⟨g, hg⟩ := midForm_job hm
      cases he : s.faultEnds p with
      | none =>
        rw [faultStopped_going he]
        exact (congrArg (fun v : Vector (Option Progress) 4 => v[q]) (faultEntered_frame k).2.2.1).trans
          ((faultSuspends_suspended hm hg).jobs q hq)
      | some r => exact (faultStopped_ended hg he k).jobs q hq

/-- The packs behind a fault (R11-R13, R118). -/
theorem physicalFault_pack (k : FaultKind) (slot : Slot) : (s.physicalFault p k).pack slot =
    if s.formAtRisk p = true ∧ s.loaded p = some slot then (s.pack slot).map fun x => x.pastOne (s.kind x.kind).threshold
    else s.pack slot := by
  refine (pack_of_packs (congrArg Stock.packs (physicalFault_stock k)) slot).trans ?_
  cases hm : s.midForm p with
  | false =>
    rw [pack_of_packs (congrArg Stock.packs (faultStopped_calm hm k).1), formAtRisk_of_not_midForm hm]
    simp
  | true =>
    obtain ⟨g, hg⟩ := midForm_job hm
    have hpacks : (s.faultStopped p k).stock.packs = (s.faultSuspends p).stock.packs := by
      cases he : s.faultEnds p with
      | none => rw [faultStopped_going he]; exact congrArg Stock.packs (faultEntered_frame k).1
      | some r => exact (faultStopped_ended hg he k).packs
    rw [pack_of_packs hpacks]
    exact (faultSuspends_suspended hm hg).pack slot

/-- No work is left outstanding by its stop (R106). -/
theorem stopped_outstanding (o : Option Outstanding) : (o.map fun o => if o.purpose.isWork then { o with purpose := .stopped }
    else o).all (fun o => !o.purpose.isWork) = true := by
  cases o with
  | none => rfl
  | some o =>
    simp only [Option.map_some, Option.all_some]
    split
    · rfl
    · rename_i h; simpa using h

theorem Controller.enter_stopped (c : Controller) (st : PrinterState) (h : c.waiting.all (fun w => !w.isWork) = true) :
    (c.enter st).waiting.all (fun w => !w.isWork) = true := by
  rw [List.all_eq_true] at h ⊢
  intro w hw
  refine h w ?_
  unfold Controller.enter at hw
  dsimp only at hw
  split at hw
  · exact hw
  · exact (List.mem_filter.mp hw).1

theorem stricken_faultedFrom (c : Controller) (k : FaultKind) (spoiled : Bool) :
    c.FaultedFrom (c.stricken k spoiled) k spoiled := by
  have hpos : ((if spoiled then { c with position := .unknown } else c).haltWork.takeFault k).position =
      if k = .headFault ∧ spoiled = false then c.position else .unknown := by
    cases spoiled <;> simp [Controller.takeFault, Controller.haltWork]
  have hc : ∀ d : Controller, (d.haltWork.takeFault k).waiting.all (fun w => !w.isWork) = true := fun d => by
    simp [Controller.takeFault, Controller.haltWork]
  have hlink : ∀ d : Controller, k = .linkLost → (d.haltWork.takeFault k).linkLost = true := fun d hk => by
    simp [Controller.takeFault, hk]
  have hsame : (if spoiled then { c with position := .unknown } else c).outstanding = c.outstanding ∧
      (if spoiled then { c with position := .unknown } else c).head = c.head ∧
      (if spoiled then { c with position := .unknown } else c).state = c.state := by
    cases spoiled <;> exact ⟨rfl, rfl, rfl⟩
  obtain ⟨hout, hhead, hstate⟩ := hsame
  unfold Controller.stricken
  generalize (if spoiled then { c with position := .unknown } else c) = d at hpos hout hhead hstate ⊢
  have houts : (d.haltWork.takeFault k).outstanding.all (fun o => !o.purpose.isWork) = true := stopped_outstanding d.outstanding
  have hheads : (d.haltWork.takeFault k).head = if k = .coverOpen then .lifted else c.head := by rw [← hhead]; rfl
  dsimp only
  by_cases hst : c.state = .offline
  · rw [if_pos hst]
    exact ⟨(hstate.trans hst).trans (if_pos hst).symm, rfl, rfl, rfl, rfl, hc d, houts, hlink d, hheads, hpos⟩
  · rw [if_neg hst]
    exact ⟨(if_neg hst).symm, rfl, rfl, rfl, rfl, Controller.enter_stopped _ .fault (hc d), houts, hlink d, hheads, hpos⟩

/-! ## The entry of a fault -/

theorem enterFault_log {s : State} (kind : FaultKind) (strip : Option StripRead) : (s.enterFault p kind strip).log =
    if (s.openEntry p).isSome then
      { s.log with entries := s.log.entries.map fun e => if e.isOpenOf p then e.joinedBy kind else e }
    else
      let entries := makeRoom s.log.entries ++ [⟨s.log.next, some p, kind, 0, 0, .opened, ⟨s.clock.now, s.clock.day⟩, none, strip,
        (s.inProgress p).map (·.job.session)⟩]
      ⟨entries, nextNumber (entries.map (·.number)) 33 s.log.next⟩ := by
  unfold State.enterFault
  cases ho : s.openEntry p with
  | none => simp [State.openFault, State.stampNow]
  | some e =>
    dsimp only
    split <;> simp [State.mapEntry]

theorem enterFault_log_congr {s t : State} (hlog : t.log = s.log) (hset : t.settings = s.settings)
    (hjob : (t.inProgress p).map (·.job.session) = (s.inProgress p).map (·.job.session)) (kind : FaultKind)
    (strip : Option StripRead) : (t.enterFault p kind strip).log = (s.enterFault p kind strip).log := by
  have hclock : t.clock = s.clock := congrArg Settings.clock hset
  have hopen : t.openEntry p = s.openEntry p := by unfold State.openEntry; rw [hlog]
  rw [enterFault_log, enterFault_log, hopen, hlog, hclock, hjob]

theorem joinedBy_has (e : FaultEntry) (kind : FaultKind) :
    ((e.joinedBy kind).kind == kind || (e.joinedBy kind).laterKinds.getLsbD (kind.code - 1)) = true := by
  unfold FaultEntry.joinedBy
  split
  · rename_i h; simp [h]
  · have hbit : kind.bit.getLsbD (kind.code - 1) = true := by cases kind <;> decide
    simp [hbit]

/-- The OPEN entry of a printer behind an arising: a new one as R138 says, or the one before, with the kind among its kinds
(R137-R139). -/
theorem enterFault_entry (s : State) (p : PrinterId) (kind : FaultKind) :
    (s.enterFault p kind none).log.entries.any (fun e => e.isOpenOf p && (e.kind == kind || e.laterKinds.getLsbD (kind.code - 1)) &&
      ((s.openEntry p).isSome || (e.number == s.log.next && e.openedAt == ⟨s.clock.now, s.clock.day⟩ && e.strip == none &&
        e.session == (s.inProgress p).map (·.job.session)))) = true := by
  rw [enterFault_log, List.any_eq_true]
  cases ho : s.openEntry p with
  | none =>
    refine ⟨_, List.mem_append_right _ (List.mem_singleton_self _), ?_⟩
    simp [FaultEntry.isOpenOf]
  | some e =>
    have hopen : e.isOpenOf p = true := List.find?_some (p := fun x : FaultEntry => x.isOpenOf p) ho
    refine ⟨e.joinedBy kind, List.mem_map.mpr ⟨e, List.mem_of_find?_eq_some ho, if_pos hopen⟩, ?_⟩
    have hjoined : (e.joinedBy kind).isOpenOf p = true := by
      unfold FaultEntry.joinedBy
      split <;> exact hopen
    rw [hjoined, joinedBy_has]
    rfl

/-- The log behind a fault is that of its arising (R138, R139). -/
theorem physicalFault_log (k : FaultKind) : (s.physicalFault p k).log = (s.enterFault p k none).log := by
  have hstop : (s.faultStopped p k).log = (s.faultEntered p k).log := by
    unfold State.faultStopped
    split <;> simp
  have hsus : (s.faultSuspends p).log = s.log ∧ (s.faultSuspends p).settings = s.settings ∧
      ((s.faultSuspends p).inProgress p).map (·.job.session) = (s.inProgress p).map (·.job.session) := by
    cases hm : s.midForm p with
    | false => rw [State.faultSuspends, hm]; exact ⟨rfl, rfl, rfl⟩
    | true =>
      obtain ⟨g, hg⟩ := midForm_job hm
      have h := faultSuspends_suspended hm hg
      refine ⟨h.log, h.settings, ?_⟩
      rw [h.job, hg]
      rfl
  obtain ⟨-, -, hprog, hlog, hset⟩ := faultShows_frame (s := s) (p := p) k
  rw [physicalFault_stopped, State.faultLoad_log, hstop]
  refine enterFault_log_congr (hlog.trans hsus.1) (hset.trans hsus.2.1) ?_ k none
  rw [show (s.faultShows p k).inProgress p = (s.faultSuspends p).inProgress p from
    congrArg (fun v : Vector (Option Progress) 4 => v[p]) hprog]
  exact hsus.2.2

/-- The records and the job behind a fault that found one in progress (R95, R100, R118). -/
theorem physicalFault_job {g : Progress} (hg : s.inProgress p = some g) (k : FaultKind) :
    if s.midForm p = true then
      if (s.faultEnds p).isSome = true then (s.physicalFault p k).inProgress p = none ∧
        (s.physicalFault p k).stock.exceptions = s.stock.exceptions ++ (s.spoilt p).map (s.formRecord g.job.session .spoiled) ++
          g.job.printed.map (s.formRecord g.job.session .incomplete)
      else (s.physicalFault p k).inProgress p = some (g.suspendedWith (s.spoilt p).length) ∧
        (s.physicalFault p k).stock.exceptions = s.stock.exceptions ++ (s.spoilt p).map (s.formRecord g.job.session .spoiled)
    else (s.physicalFault p k).inProgress p = some g ∧ (s.physicalFault p k).stock.exceptions = s.stock.exceptions := by
  rw [physicalFault_inProgress, physicalFault_stock]
  cases hm : s.midForm p with
  | false =>
    obtain ⟨hstock, -, hprog⟩ := faultStopped_calm hm k
    rw [if_neg (by simp), hstock]
    exact ⟨(congrArg (fun v : Vector (Option Progress) 4 => v[p]) hprog).trans hg, rfl⟩
  | true =>
    rw [if_pos rfl]
    cases he : s.faultEnds p with
    | none =>
      have h := faultSuspends_suspended hm hg
      rw [if_neg (by simp), faultStopped_going he, (faultEntered_frame k).1]
      exact ⟨faultEntered_inProgress hm hg k, h.exceptions⟩
    | some r =>
      have h := faultStopped_ended hg he k
      rw [if_pos Option.isSome_some]
      exact ⟨h.job, h.exceptions⟩

theorem midForm_iff_of_job {g : Progress} (hg : s.inProgress p = some g) :
    s.midForm p = true ↔ g.job.state = .printing ∧ (s.ctl p).state.busy = true := by
  simp [State.midForm, hg, and_comm]

theorem faultEnds_isSome {g : Progress} (hm : s.midForm p = true) (hg : s.inProgress p = some g) :
    (s.faultEnds p).isSome = true ↔ 3 ≤ g.job.failures + (s.spoilt p).length ∨ g.job.abortMark = true := by
  rw [faultEnds_of_midForm hm hg]
  split
  · simp_all
  · split <;> simp_all

/-- A physical fault stops the work of its printer as R118 and R120 say. -/
theorem physicalFault_stoppedBy (s : State) (p : PrinterId) (k : FaultKind) : s.StoppedBy (s.physicalFault p k) p k := by
  refine ⟨?_, ?_, physicalFault_pack k, fun hn => ?_, fun g hg => ?_⟩
  · rw [physicalFault_ctl]; exact stricken_faultedFrom ..
  · rw [physicalFault_log]; exact enterFault_entry s p k
  · have hm : s.midForm p = false := by simp [State.midForm, hn]
    obtain ⟨hstock, -, hprog⟩ := faultStopped_calm hm k
    rw [physicalFault_inProgress, physicalFault_stock, hstock]
    exact ⟨(congrArg (fun v : Vector (Option Progress) 4 => v[p]) hprog).trans hn, rfl⟩
  · have h := physicalFault_job hg k
    intro j made spoiled
    have hspoiled : spoiled = (s.spoilt p).map (s.formRecord g.job.session .spoiled) := by
      unfold State.spoilt
      show (if s.formAtRisk p then _ else _) = _
      split
      · rw [List.map_map]; rfl
      · rfl
    have hlen : spoiled.length = (s.spoilt p).length := by rw [hspoiled, List.length_map]
    have hmid := midForm_iff_of_job hg
    rw [hlen, hspoiled]
    by_cases hm : s.midForm p = true
    · rw [if_pos hm] at h
      rw [if_pos (hmid.mp hm)]
      have hends := faultEnds_isSome hm hg
      by_cases he : (s.faultEnds p).isSome = true
      · rw [if_pos he] at h
        rw [if_pos (hends.mp he)]
        exact h
      · rw [if_neg he] at h
        rw [if_neg (mt hends.mpr he)]
        exact h
    · rw [if_neg hm] at h
      rw [if_neg (mt hmid.mpr hm)]
      exact h

/-! ## What a physical fault leaves alone -/

/-- What no update of a printer's work touches on a line. -/
def LineState.Held (a b : LineState) : Prop :=
  b.body = a.body ∧ b.mask = a.mask ∧ b.receiver = a.receiver ∧ b.sending = a.sending

/-- Every line has its body, mask, receiver and frame being sent as before. -/
structure State.LinesHeld (s t : State) : Prop where
  line : ∀ l, (s.line l).Held (t.line l)

namespace State.LinesHeld

variable {t u : State}

theorem of_lines (h : t.lines = s.lines) : s.LinesHeld t where
  line l := by
    rw [show t.line l = s.line l from congrArg (·[l]) h]
    exact ⟨rfl, rfl, rfl, rfl⟩

theorem refl (s : State) : s.LinesHeld s := of_lines rfl

theorem trans (h1 : s.LinesHeld t) (h2 : t.LinesHeld u) : s.LinesHeld u where
  line l := by
    obtain ⟨a1, a2, a3, a4⟩ := h1.line l
    obtain ⟨b1, b2, b3, b4⟩ := h2.line l
    exact ⟨b1.trans a1, b2.trans a2, b3.trans a3, b4.trans a4⟩

theorem after (h2 : t.LinesHeld u) (h1 : t.lines = s.lines) : s.LinesHeld u := (of_lines h1).trans h2

theorem raise (s : State) (c : NoticeClass) (sub : Subject) : s.LinesHeld (s.raise c sub) where
  line l := by
    rw [State.raise_line]
    split
    · unfold LineState.receive
      split <;> exact ⟨rfl, rfl, rfl, rfl⟩
    · exact ⟨rfl, rfl, rfl, rfl⟩

theorem notedLow (s : State) (b : Bool) : s.LinesHeld (s.notedLow b) := by
  unfold State.notedLow
  split
  · exact raise ..
  · exact refl s

theorem noteRecords (s : State) : s.LinesHeld s.noteRecords := by
  rw [State.noteRecords_eq]
  exact (of_lines rfl : s.LinesHeld (s.putStock s.stock.noted)).trans (notedLow ..)

theorem addJobRecord (s : State) (p : PrinterId) (slot : Slot) (first span : Nat) (reason : Reason) :
    s.LinesHeld (s.addJobRecord p slot first span reason) := by
  cases hg : s.inProgress p with
  | none => simp only [State.addJobRecord, hg]; exact refl s
  | some g =>
    rw [addJobRecord_eq hg]
    exact after (notedLow ..) rfl

theorem moveCursor (s : State) (slot : Slot) (serial : Nat) : s.LinesHeld (s.moveCursor slot serial) := by
  unfold State.moveCursor
  split
  · exact refl s
  · split
    · dsimp only
      split
      · exact after (raise ..) rfl
      · exact of_lines rfl
    · exact refl s

theorem undoCoupons (p : PrinterId) (n : SessionId) (k : Kind) (cs : List Coupon) :
    ∀ s : State, s.LinesHeld (s.undoCoupons p n k cs) := by
  induction cs with
  | nil => exact refl
  | cons c cs ih => exact fun s => (addJobRecord s p c.slot c.serial 1 .incomplete).trans (after (ih _) rfl)

theorem dropJob (s : State) (p : PrinterId) : s.LinesHeld (s.dropJob p) := by
  unfold State.dropJob
  split
  · exact refl s
  · exact after (noteRecords _) rfl

theorem handOver (s : State) (o : Outcome) : s.LinesHeld (s.handOver o) where
  line l := by
    rw [State.handOver_line]
    split <;> exact ⟨rfl, rfl, rfl, rfl⟩

theorem ended (u : State) (p : PrinterId) (j : Job) (r : JobResult) : u.LinesHeld (u.ended p j r) :=
  have h1 : u.LinesHeld (u.releaseCharge j) := of_lines rfl
  ((h1.trans (dropJob _ _)).trans (handOver _ _)).trans (raise _ _ _)

theorem setPrinterState (s : State) (p : PrinterId) (st : PrinterState) : s.LinesHeld (s.setPrinterState p st) := by
  unfold State.setPrinterState
  dsimp only
  split
  · exact of_lines rfl
  · exact after (raise ..) rfl

theorem setEntries (s : State) (entries : List FaultEntry) : s.LinesHeld (s.setEntries entries) := by
  unfold State.setEntries
  split
  · exact refl s
  · exact of_lines rfl

theorem enterFault (s : State) (p : PrinterId) (kind : FaultKind) (strip : Option StripRead) :
    s.LinesHeld (s.enterFault p kind strip) := by
  unfold State.enterFault
  split
  · exact after (raise ..) rfl
  · dsimp only
    split
    · exact trans (setEntries ..) (raise ..)
    · exact setEntries ..

theorem faultLoad (s : State) (p : PrinterId) : s.LinesHeld (s.faultLoad p) := by
  unfold State.faultLoad
  split
  · exact refl s
  · rw [endDeferred_eq]
    split
    · exact of_lines rfl
    · refine ⟨fun l => ?_⟩
      rw [State.putLine_line]
      split
      · rename_i hl; subst hl; exact ⟨rfl, rfl, rfl, rfl⟩
      · exact ⟨rfl, rfl, rfl, rfl⟩

theorem faultSuspends (s : State) (p : PrinterId) : s.LinesHeld (s.faultSuspends p) := by
  cases hm : s.midForm p with
  | false => rw [State.faultSuspends, hm]; exact refl s
  | true =>
    obtain ⟨g, hg⟩ := midForm_job hm
    cases hr : s.formAtRisk p with
    | false => rw [faultSuspends_safe hm hg hr]; exact of_lines rfl
    | true =>
      obtain ⟨slot, k, hk⟩ := formAtRisk_loaded hr
      rw [faultSuspends_spoils hm hg hr hk]
      exact ((addJobRecord s p slot k.cursor 1 .spoiled).trans (moveCursor _ slot (k.cursor + 1))).trans (of_lines rfl)

theorem faultShows (s : State) (p : PrinterId) (k : FaultKind) : s.LinesHeld (s.faultShows p k) := by
  refine (faultSuspends s p).trans ?_
  unfold State.faultShows
  dsimp only
  split
  · exact of_lines rfl
  · exact after (setPrinterState ..) rfl

theorem faultStopped (s : State) (p : PrinterId) (k : FaultKind) : s.LinesHeld (s.faultStopped p k) := by
  have hentered : s.LinesHeld (s.faultEntered p k) := (faultShows s p k).trans (enterFault ..)
  cases he : s.faultEnds p with
  | none => rw [faultStopped_going he]; exact hentered
  | some r =>
    obtain ⟨g, hg⟩ := midForm_job (faultEnds_failed he).1
    obtain ⟨u, hstop, -, -, hu⟩ := faultEntered_undone hg he k
    rw [hstop]
    subst hu
    exact hentered.trans ((undoCoupons ..).trans (ended ..))

theorem physicalFault (s : State) (p : PrinterId) (k : FaultKind) : s.LinesHeld (s.physicalFault p k) := by
  rw [physicalFault_stopped]
  exact (faultStopped s p k).trans (faultLoad ..)

end State.LinesHeld

/-- The till but for its sessions. -/
theorem till_of_shop {s t : State} (h : t.till.shop = s.till.shop) : t.till = { s.till with sessions := t.till.sessions } := by
  have := congrArg (fun x : Till => { x with sessions := t.till.sessions }) h
  exact this

theorem physicalFault_frame (s : State) (p : PrinterId) (k : FaultKind) : s.FaultFrame (s.physicalFault p k) p := by
  have hset := State.physicalFault_settings (s := s) p k
  refine ⟨congrArg Settings.discounts hset, congrArg Settings.maps hset, congrArg Settings.configs hset,
    congrArg Settings.clock hset, congrArg Settings.audit hset, congrArg Settings.pending hset, by simp,
    congrArg Settings.pfail hset, congrArg Settings.rst hset, congrArg Settings.straps hset,
    congrArg Settings.startResult hset, congrArg Settings.setAside hset, congrArg Settings.phase hset, by simp, by simp, by simp,
    by simp, till_of_shop (by simp), fun q hq => physicalFault_other k hq, fun n hn => ?_, (State.LinesHeld.physicalFault s p k).line⟩
  rw [physicalFault_session]
  cases hm : s.midForm p with
  | false => exact congrArg (fun x : Till => x.sessions[n]) (faultStopped_calm hm k).2.1
  | true =>
    obtain ⟨g, hg⟩ := midForm_job hm
    have hne : n ≠ g.job.session := by rw [hg] at hn; simpa using Ne.symm (by simpa using hn)
    cases he : s.faultEnds p with
    | none =>
      rw [faultStopped_going he]
      exact (congrArg (fun x : Till => x.sessions[n]) (faultEntered_frame k).2.1).trans
        ((faultSuspends_suspended hm hg).sessions n hne)
    | some r => exact (faultStopped_ended hg he k).sessions n hne

end Sys2Proof.Machine

/-! # A physical fault: what it tells and counts -/

namespace Sys2Proof.Machine

open Sys2Proof Sys2Proof.Machine

variable {s t u : State} {p : PrinterId}

/-! ## Notices on a line -/

/-- What a notice raised in a state makes of a line (R184, R186). -/
def State.hears (s : State) (l : Line) (ln : LineState) (x : NoticeClass × Subject) : LineState :=
  if s.phase = .running ∧ s.receives l x.1 x.2 = true then ln.receive x.1 else ln

/-- What notices raised one after another make of a line. -/
def State.told (s : State) (l : Line) (xs : List (NoticeClass × Subject)) (ln : LineState) : LineState := xs.foldl (s.hears l) ln

theorem hears_congr (h : t.settings = s.settings) (l : Line) : t.hears l = s.hears l := by
  have hphase : t.phase = s.phase := congrArg Settings.phase h
  have hmaps : t.maps = s.maps := congrArg Settings.maps h
  have hrec : ∀ c sub, t.receives l c sub = s.receives l c sub := fun c sub => by
    simp only [State.receives, State.windowReceives, State.inMapOf, hmaps]
  funext ln x
  rw [State.hears, State.hears, hphase, hrec]

theorem told_congr (h : t.settings = s.settings) (l : Line) : t.told l = s.told l := by
  funext xs ln
  rw [State.told, State.told, hears_congr h]

theorem raises_line (l : Line) (xs : List (NoticeClass × Subject)) :
    ∀ s : State, (xs.foldl (fun u x => u.raise x.1 x.2) s).line l = s.told l xs (s.line l) := by
  induction xs with
  | nil => exact fun s => rfl
  | cons x xs ih =>
    intro s
    rw [List.foldl_cons, ih, told_congr (State.raise_settings ..), State.raise_line]
    rfl

theorem NoticeClass.set_getLsbD (c d : NoticeClass) : c.set.getLsbD d.bit = decide (c = d) := by
  have hbit : ∀ c d : NoticeClass, c.bit = d.bit → c = d := fun c d => by cases c <;> cases d <;> simp [NoticeClass.bit]
  by_cases h : c = d
  · subst h; simp [c.set_bit]
  · have : c.bit ≠ d.bit := fun e => h (hbit c d e)
    rw [NoticeClass.set, BitVec.getLsbD_ofNat, Nat.testBit_two_pow]
    simp [h, this]

theorem LineState.receive_comm (ln : LineState) (c d : NoticeClass) : (ln.receive c).receive d = (ln.receive d).receive c := by
  by_cases h : c = d
  · rw [h]
  · have h' : ¬ d = c := fun e => h e.symm
    cases hc : ln.pendingSet.getLsbD c.bit <;> cases hd : ln.pendingSet.getLsbD d.bit <;>
      simp [LineState.receive, hc, hd, NoticeClass.set_getLsbD, h, h', BitVec.or_assoc, BitVec.or_comm d.set, Bool.or_assoc,
        Bool.or_comm (ln.mask.getLsbD d.bit)]

theorem told_perm {xs ys : List (NoticeClass × Subject)} (h : xs.Perm ys) (l : Line) (ln : LineState) :
    s.told l xs ln = s.told l ys ln := by
  have : RightCommutative (s.hears l) := ⟨fun a x y => by
    simp only [State.hears]
    split <;> split <;> first | rfl | exact LineState.receive_comm ..⟩
  exact h.foldl_eq _

/-- A notice passes over the outcomes of a line. -/
theorem hears_outcomes (l : Line) (x : NoticeClass × Subject) (ln : LineState) (o : List Outcome) :
    s.hears l { ln with outcomes := o } x = { s.hears l ln x with outcomes := o } := by
  unfold State.hears LineState.receive
  split
  · dsimp only; split <;> rfl
  · rfl

theorem hears_keeps (l : Line) (x : NoticeClass × Subject) (ln : LineState) : (s.hears l ln x).outcomes = ln.outcomes ∧
    (s.hears l ln x).replies = ln.replies ∧ (s.hears l ln x).deferred = ln.deferred := by
  unfold State.hears
  split
  · exact LineState.receive_frame ..
  · exact ⟨rfl, rfl, rfl⟩

theorem told_keeps (l : Line) (xs : List (NoticeClass × Subject)) : ∀ ln : LineState, (s.told l xs ln).outcomes = ln.outcomes ∧
    (s.told l xs ln).replies = ln.replies ∧ (s.told l xs ln).deferred = ln.deferred := by
  induction xs with
  | nil => exact fun _ => ⟨rfl, rfl, rfl⟩
  | cons x xs ih =>
    intro ln
    obtain ⟨h1, h2, h3⟩ := hears_keeps (s := s) l x ln
    obtain ⟨i1, i2, i3⟩ := ih (s.hears l ln x)
    exact ⟨i1.trans h1, i2.trans h2, i3.trans h3⟩

theorem told_snoc (l : Line) (xs : List (NoticeClass × Subject)) (x : NoticeClass × Subject) (ln : LineState) :
    s.told l (xs ++ [x]) ln = s.hears l (s.told l xs ln) x := List.foldl_append ..

/-- A state whose lines have heard notices of another, and nothing else. -/
structure State.Tells (s t : State) (xs : List (NoticeClass × Subject)) : Prop where
  settings : t.settings = s.settings
  line : ∀ l, t.line l = s.told l xs (s.line l)

namespace State.Tells

variable {xs ys : List (NoticeClass × Subject)}

theorem quiet (hs : t.settings = s.settings) (hl : t.lines = s.lines) : s.Tells t [] where
  settings := hs
  line l := congrArg (·[l]) hl

theorem trans (h1 : s.Tells t xs) (h2 : t.Tells u ys) : s.Tells u (xs ++ ys) where
  settings := h2.settings.trans h1.settings
  line l := by
    rw [h2.line, told_congr h1.settings, h1.line]
    exact (List.foldl_append ..).symm

theorem raise (s : State) (c : NoticeClass) (sub : Subject) : s.Tells (s.raise c sub) [(c, sub)] where
  settings := State.raise_settings ..
  line l := by rw [State.raise_line]; rfl

theorem thenRaise (hs : t.settings = s.settings) (hl : t.lines = s.lines) (c : NoticeClass) (sub : Subject) :
    s.Tells (t.raise c sub) [(c, sub)] := (quiet hs hl).trans (raise t c sub)

theorem thenQuiet (h : s.Tells t xs) (hs : u.settings = t.settings) (hl : u.lines = t.lines) : s.Tells u xs := by
  have := h.trans (quiet hs hl)
  rwa [List.append_nil] at this

end State.Tells

/-! ## Records that raise nothing -/

/-- The records-low condition is right (R22). -/
def State.LowRight (s : State) : Prop :=
  s.stock.recordsLow = decide (256 - (s.stock.exceptions.length + s.stock.reservation) < 32)

theorem notedLow_silent {b : Bool} (h : u.stock.recordsLow = true → b = true) : u.notedLow b = u := by
  unfold State.notedLow
  rw [if_neg]
  rintro ⟨h1, h2⟩
  rw [h h1] at h2
  cases h2

/-- A record taken from a reservation leaves as many unreserved as before, and raises nothing (R21, R22). -/
theorem addJobRecord_lines {g : Progress} (hg : s.inProgress p = some g) (hlow : s.LowRight) (hres : 1 ≤ s.stock.reservation)
    (slot : Slot) (first span : Nat) (reason : Reason) : (s.addJobRecord p slot first span reason).lines = s.lines ∧
      (s.addJobRecord p slot first span reason).LowRight := by
  have hsame : s.stock.exceptions.length + 1 + (s.stock.reservation - 1) =
      s.stock.exceptions.length + s.stock.reservation := by omega
  rw [addJobRecord_eq hg, notedLow_silent]
  · refine ⟨rfl, ?_⟩
    simp [State.LowRight, Stock.withRecord]
  · unfold State.LowRight at hlow
    simp only [Stock.withRecord, State.putProgress_stock, State.putStock_stock, hsame]
    exact fun h => hlow.trans h

@[simp] theorem State.countKind_lines (n : SessionId) (k : Kind) (f : KindCounters → KindCounters) :
    (s.countKind n k f).lines = s.lines := rfl

theorem moveCursor_lowRight (slot : Slot) (serial : Nat) (h : s.LowRight) : (s.moveCursor slot serial).LowRight := by
  unfold State.LowRight at h ⊢
  simpa using h

/-- Coupons undone from a reservation raise nothing (R21, R22). -/
theorem undoCoupons_lines {n : SessionId} {k : Kind} (cs : List Coupon) : ∀ {s : State} {g : Progress},
    s.inProgress p = some g → s.LowRight → cs.length ≤ s.stock.reservation → (s.undoCoupons p n k cs).lines = s.lines ∧
      (s.undoCoupons p n k cs).LowRight := by
  induction cs with
  | nil => exact fun _ hlow _ => ⟨rfl, hlow⟩
  | cons c cs ih =>
    intro s g hg hlow hres
    rw [List.length_cons] at hres
    have hrec := (State.Recorded.start hg).add c .incomplete
    obtain ⟨hl, hlow'⟩ := addJobRecord_lines hg hlow (by omega) c.slot c.serial 1 .incomplete
    have hres' : (s.addJobRecord p c.slot c.serial 1 .incomplete).stock.reservation = s.stock.reservation - 1 := hrec.reservation
    obtain ⟨h1, h2⟩ := ih (s := (s.addJobRecord p c.slot c.serial 1 .incomplete).countKind n k
      fun x => { x with incomplete := bump x.incomplete 1 }) (g := _) hrec.job hlow' (by
        show _ ≤ (s.addJobRecord p c.slot c.serial 1 .incomplete).stock.reservation
        omega)
    rw [State.countKind_lines] at h1
    exact ⟨h1.trans hl, h2⟩

/-- A reservation released raises nothing (R21, R22). -/
theorem dropJob_lines (hlow : s.LowRight) : (s.dropJob p).lines = s.lines := by
  cases hg : s.inProgress p with
  | none => simp only [State.dropJob, hg]
  | some g =>
    rw [dropJob_eq hg, notedLow_silent]
    · rfl
    · unfold State.LowRight at hlow
      simp only [Stock.noted, State.putStock_stock, hlow, decide_eq_true_eq]
      omega

/-! ## Notices of a fault, step by step -/

/-- STOCK LOW for the spoiled form that brings its pack to the threshold (R13). -/
def State.spoilWarns (s : State) (p : PrinterId) : List (NoticeClass × Subject) :=
  match s.loadedPack p with
  | some (_, x) => match x.location with
    | some q => if s.formAtRisk p ∧ x.lowFlag = false ∧ (x.pastOne (s.kind x.kind).threshold).lowFlag = true then
        [(.stockLow, .printer q)] else []
    | none => []
  | none => []

/-- STOCK LOW for a pack that moves past one form (R13). -/
def State.stockWarns (s : State) (k : Pack) : List (NoticeClass × Subject) :=
  match k.location with
  | some q => if k.lowFlag = false ∧ (k.pastOne (s.kind k.kind).threshold).lowFlag = true then [(.stockLow, .printer q)] else []
  | none => []

theorem moveCursor_tells {slot : Slot} {k : Pack} (hk : s.pack slot = some k) :
    s.Tells (s.moveCursor slot (k.cursor + 1)) (s.stockWarns k) := by
  unfold State.stockWarns
  by_cases hst : k.state = .loaded
  · have hwarn : (s.kind k.kind).threshold < k.first + k.count - k.cursor ∧
        k.first + k.count - (k.cursor + 1) ≤ (s.kind k.kind).threshold ∧ k.lowFlag = false ↔
          k.lowFlag = false ∧ (k.pastOne (s.kind k.kind).threshold).lowFlag = true := by
      rw [Pack.pastOne, if_pos hst]
      cases k.lowFlag <;> simp
    rw [moveCursor_eq hk hst]
    dsimp only
    cases k.location with
    | none => exact .quiet rfl rfl
    | some q =>
      dsimp only
      by_cases hw : k.lowFlag = false ∧ (k.pastOne (s.kind k.kind).threshold).lowFlag = true
      · rw [if_pos hw, if_pos (decide_eq_true (hwarn.mpr hw))]
        exact .thenRaise (State.putPack_settings ..) (State.putPack_lines ..) _ _
      · rw [if_neg hw, if_neg (by rw [decide_eq_true_iff]; exact mt hwarn.mp hw)]
        exact .quiet rfl rfl
  · have hstay : s.moveCursor slot (k.cursor + 1) = s := by simp only [State.moveCursor, hk, hst, if_false]
    have hpast : k.pastOne (s.kind k.kind).threshold = k := if_neg hst
    have hnone : ¬(k.lowFlag = false ∧ k.lowFlag = true) := by cases k.lowFlag <;> simp
    rw [hstay, hpast]
    cases k.location with
    | none => exact .quiet rfl rfl
    | some q => dsimp only; rw [if_neg hnone]; exact .quiet rfl rfl

theorem job_reserved {g : Progress} (h : s.RecordsKept) (hg : s.inProgress p = some g) :
    g.job.Covered ∧ g.job.reservation ≤ s.stock.reservation := by
  obtain ⟨⟨hsum, -, hcov, -⟩, -⟩ := h
  have hon : s.reservedOn p = g.job.reservation := by simp [State.reservedOn, hg]
  refine ⟨hcov p g hg, ?_⟩
  rw [hsum, ← hon, State.reserved_eq]
  clear hon
  fin_cases p <;> simp <;> omega

theorem faultSuspends_tells {g : Progress} (h : s.RecordsKept) (hm : s.midForm p = true) (hg : s.inProgress p = some g) :
    s.Tells (s.faultSuspends p) (s.spoilWarns p) ∧ (s.faultSuspends p).LowRight := by
  cases hr : s.formAtRisk p with
  | false =>
    have hnone : s.spoilWarns p = [] := by
      unfold State.spoilWarns
      split
      · split
        · simp [hr]
        · rfl
      · rfl
    rw [faultSuspends_safe hm hg hr, hnone]
    exact ⟨.quiet rfl rfl, h.2⟩
  | true =>
    obtain ⟨slot, k, hk⟩ := formAtRisk_loaded hr
    obtain ⟨-, hslot⟩ := State.PacksAre.pack_of_loadedPack hk
    obtain ⟨hcov, hres⟩ := job_reserved h hg
    obtain ⟨hl, hlow⟩ := addJobRecord_lines hg h.2 (by unfold Job.Covered at hcov; omega) slot k.cursor 1 .spoiled
    have hkind : (s.addJobRecord p slot k.cursor 1 .spoiled).kind = s.kind := funext (kind_of_kinds (by simp))
    have hk1 : (s.addJobRecord p slot k.cursor 1 .spoiled).pack slot = some k := (pack_of_packs (by simp) slot).trans hslot
    have hsame : (s.addJobRecord p slot k.cursor 1 .spoiled).stockWarns k = s.stockWarns k := by
      simp only [State.stockWarns, hkind]
    have hmove := moveCursor_tells hk1
    rw [hsame] at hmove
    have hquiet : s.Tells (s.addJobRecord p slot k.cursor 1 .spoiled) [] := .quiet (by simp) hl
    have hfailed : s.Tells (s.formFailed p g slot k .spoiled) (s.stockWarns k) := by
      unfold State.formFailed
      exact (hquiet.trans hmove).thenQuiet (by simp) (State.countKind_lines ..)
    have hlow' : (s.formFailed p g slot k .spoiled).LowRight := by
      unfold State.formFailed State.LowRight
      rw [State.countKind_stock]
      exact moveCursor_lowRight slot (k.cursor + 1) hlow
    have hwarns : s.spoilWarns p = s.stockWarns k := by
      unfold State.spoilWarns State.stockWarns
      rw [hk, hr]
      cases hq : k.location <;> simp [hq]
    rw [faultSuspends_spoils hm hg hr hk, hwarns]
    generalize s.formFailed p g slot k .spoiled = u at hfailed hlow' ⊢
    exact ⟨hfailed.thenQuiet (by rfl) (by rfl), hlow'⟩

theorem faultShows_tells (k : FaultKind) : (s.faultSuspends p).Tells (s.faultShows p k)
    (if (s.ctl p).state ∈ [.fault, .offline] then [] else [(.printerChange, .printer p)]) := by
  have hstate : ((s.faultSuspends p).ctl p).state = (s.ctl p).state := by
    rw [faultSuspends_ctl]; split <;> rfl
  have hctl : (((s.faultSuspends p).mapCtl p fun c => c.haltWork.takeFault k).ctl p).state = (s.ctl p).state := by
    rw [← hstate]; simp [State.mapCtl, Controller.takeFault, Controller.haltWork]
  unfold State.faultShows
  generalize s.faultSuspends p = v at hctl ⊢
  unfold State.setPrinterState
  dsimp only
  rw [hctl]
  by_cases hoff : (s.ctl p).state = .offline
  · rw [if_pos hoff, if_pos (by simp [hoff])]
    exact .quiet rfl rfl
  · rw [if_neg hoff]
    by_cases hf : (s.ctl p).state = .fault
    · rw [if_pos (by rw [hf]), if_pos (by simp [hf])]
      exact .quiet rfl rfl
    · have hgroup : ¬ PrinterState.fault.group = (s.ctl p).state.group := by
        intro e; revert hf hoff e
        cases (s.ctl p).state <;> simp [PrinterState.group]
      rw [if_neg hgroup, if_neg (by simp [hf, hoff])]
      exact .thenRaise (by rfl) (by rfl) _ _

theorem enterFault_tells (k : FaultKind) (strip : Option StripRead) : s.Tells (s.enterFault p k strip)
    (match s.openEntry p with
      | none => [(if k = .noPack then .noPack else .faultOpened, .printer p)]
      | some e => if k = e.kind ∨ e.laterKinds.getLsbD (k.code - 1) = true then [] else [(.faultOpened, .printer p)]) := by
  have hquiet : ∀ f : FaultEntry → FaultEntry, s.Tells (s.mapEntry p f) [] := fun f => by
    refine .quiet (by simp) ?_
    unfold State.mapEntry State.setEntries
    split <;> rfl
  unfold State.enterFault
  cases ho : s.openEntry p with
  | none => exact .thenRaise (by rfl) (by rfl) _ _
  | some e =>
    dsimp only
    have hnew : e.newTo k = true ↔ ¬(k = e.kind ∨ e.laterKinds.getLsbD (k.code - 1) = true) := by
      simp [FaultEntry.newTo]
    by_cases hn : e.newTo k = true
    · rw [if_pos hn, if_neg (hnew.mp hn)]
      exact (hquiet _).trans (.raise ..)
    · rw [if_neg hn, if_pos (not_not.mp (mt hnew.mpr hn))]
      exact hquiet _

/-! ## The lines behind a fault -/

/-- The notices of a fault up to its entry. -/
def State.faultShown (s : State) (p : PrinterId) (k : FaultKind) : List (NoticeClass × Subject) :=
  s.spoilWarns p ++ (if (s.ctl p).state ∈ [.fault, .offline] then [] else [(.printerChange, .printer p)]) ++
  (match s.openEntry p with
    | none => [(if k = .noPack then .noPack else .faultOpened, .printer p)]
    | some e => if k = e.kind ∨ e.laterKinds.getLsbD (k.code - 1) = true then [] else [(.faultOpened, .printer p)])

theorem spoilWarns_safe (h : s.formAtRisk p = false) : s.spoilWarns p = [] := by
  unfold State.spoilWarns
  split
  · split
    · simp [h]
    · rfl
  · rfl

theorem faultEntered_tells (h : s.RecordsKept) (k : FaultKind) :
    s.Tells (s.faultEntered p k) (s.faultShown p k) ∧ (s.faultEntered p k).LowRight := by
  have hsus : s.Tells (s.faultSuspends p) (s.spoilWarns p) ∧ (s.faultSuspends p).LowRight ∧ (s.faultSuspends p).log = s.log := by
    cases hm : s.midForm p with
    | false =>
      rw [spoilWarns_safe (formAtRisk_of_not_midForm hm), State.faultSuspends, hm]
      exact ⟨.quiet rfl rfl, h.2, rfl⟩
    | true =>
      obtain ⟨g, hg⟩ := midForm_job hm
      obtain ⟨h1, h2⟩ := faultSuspends_tells h hm hg
      exact ⟨h1, h2, (faultSuspends_suspended hm hg).log⟩
  obtain ⟨htells, hlow, hlog⟩ := hsus
  have hopen : (s.faultShows p k).openEntry p = s.openEntry p := by
    unfold State.openEntry
    rw [(faultShows_frame k).2.2.2.1, hlog]
  have henter := enterFault_tells (s := s.faultShows p k) (p := p) k none
  rw [hopen] at henter
  refine ⟨(htells.trans (faultShows_tells k)).trans henter, ?_⟩
  unfold State.LowRight at hlow ⊢
  rw [(faultEntered_frame k).1]
  exact hlow

theorem ended_line (hlow : u.LowRight) (j : Job) (r : JobResult) (l : Line) : (u.ended p j r).line l =
    u.hears l (if l ≠ officeLine ∧ j.session = l then
      { u.line l with outcomes := joinOutcome (u.line l).outcomes (j.outcome r) } else u.line l) (.issueFailed, .session j.session) := by
  have hlines : ((u.releaseCharge j).dropJob p).lines = u.lines := dropJob_lines (s := u.releaseCharge j) hlow
  have hline : ((u.releaseCharge j).dropJob p).line l = u.line l := congrArg (·[l]) hlines
  have hset : (((u.releaseCharge j).dropJob p).handOver (j.outcome r)).settings = u.settings := by simp
  have hraise := (State.Tells.raise (((u.releaseCharge j).dropJob p).handOver (j.outcome r)) .issueFailed
    (.session j.session)).line l
  rw [told_congr hset, State.handOver_line, hline] at hraise
  exact hraise

/-- A line behind a fault, but for the reply to a LOAD PACK (R95, R96, R138, R139, R185). -/
theorem faultStopped_line (h : s.RecordsKept) (k : FaultKind) (l : Line) : (s.faultStopped p k).line l =
    match s.faultEnds p, s.inProgress p with
    | some r, some g => if l ≠ officeLine ∧ g.job.session = l then
        { s.told l (s.faultShown p k ++ [(.issueFailed, .session g.job.session)]) (s.line l) with
          outcomes := joinOutcome (s.line l).outcomes (g.job.outcome r) }
        else s.told l (s.faultShown p k ++ [(.issueFailed, .session g.job.session)]) (s.line l)
    | _, _ => s.told l (s.faultShown p k) (s.line l) := by
  obtain ⟨hent, hlow⟩ := faultEntered_tells (p := p) h k
  cases he : s.faultEnds p with
  | none => rw [faultStopped_going he]; exact hent.line l
  | some r =>
    obtain ⟨hm, -⟩ := faultEnds_failed he
    obtain ⟨g, hg⟩ := midForm_job hm
    obtain ⟨v, hstop, hrec, -, hv⟩ := faultEntered_undone hg he k
    have hres : g.job.printed.length ≤ (s.faultEntered p k).stock.reservation := by
      obtain ⟨hcov, hres⟩ := job_reserved h hg
      unfold Job.Covered at hcov
      rw [(faultEntered_frame k).1, (faultSuspends_suspended hm hg).reservation, spoilt_length]
      split <;> omega
    obtain ⟨hlines, hlow'⟩ := undoCoupons_lines (n := g.job.session) (k := g.job.kind) g.job.printed
      (faultEntered_inProgress hm hg k) hlow hres
    rw [← hv] at hlines hlow'
    have hline : v.line l = s.told l (s.faultShown p k) (s.line l) := (congrArg (·[l]) hlines).trans (hent.line l)
    have hset : v.settings = s.settings := hrec.settings.trans hent.settings
    rw [hg, hstop, ended_line hlow', hline, hears_congr hset, (told_keeps ..).1]
    dsimp only
    rw [told_snoc, ← hears_outcomes]
    exact apply_ite (s.hears l · (.issueFailed, .session g.job.session)) _ _ _

theorem faultStopped_load (k : FaultKind) : ((s.faultStopped p k).ctl p).load = (s.ctl p).load := by
  have hload : ∀ d : Controller, (d.haltWork.takeFault k).load = d.load := fun _ => rfl
  have hsame : (if s.formAtRisk p then { s.ctl p with position := .unknown } else s.ctl p).load = (s.ctl p).load := by
    split <;> rfl
  rw [ctl_of_controllers (faultStopped_controllers k), faultShows_ctl]
  dsimp only
  split <;> exact (hload _).trans hsame

/-- A line behind the end of a load in hand, if there is one: its deferred request is replied ABORTED (R10, R182). -/
def LineState.loadReplied (ln : LineState) (l : Line) (loading : Bool) : LineState :=
  match ln.deferred with
  | some d => if l = officeLine ∧ loading = true then
      let code : Byte := match d with
        | .loadPack _ => 0x32
        | .printerReset _ => 0x44
      { ln with deferred := none, replies := ln.replies ++ [⟨replyBody code .aborted [], none⟩] } else ln
  | none => ln

theorem faultLoad_line (l : Line) : (s.faultLoad p).line l = (s.line l).loadReplied l (s.ctl p).load.isSome := by
  unfold State.faultLoad LineState.loadReplied
  cases hg : (s.ctl p).load with
  | none => cases (s.line l).deferred <;> simp
  | some g =>
    dsimp only
    rw [endDeferred_eq, show (s.mapCtl p fun c => { c with load := none }).line officeLine = s.line officeLine from rfl]
    by_cases hl : l = officeLine
    · subst hl
      cases hd : (s.line officeLine).deferred with
      | none => exact congrArg (fun ln : Vector LineState 7 => ln[officeLine]) rfl
      | some d => cases d <;> simp [Deferred.code]
    · cases hd : (s.line officeLine).deferred <;> cases (s.line l).deferred <;> simp [hl, State.mapCtl]

theorem faultNotices_perm (k : FaultKind) : ((s.faultShown p k) ++ (match s.faultEnds p, s.inProgress p with
    | some _, some g => [(.issueFailed, .session g.job.session)]
    | _, _ => [])).Perm (s.faultNotices p k) := by
  unfold State.faultShown
  rw [List.append_assoc, List.append_assoc]
  refine List.perm_append_comm.trans ?_
  rw [← List.append_assoc]
  exact .refl _

/-- Every line behind a fault. -/
theorem physicalFault_line (h : s.RecordsKept) (k : FaultKind) (l : Line) : (s.physicalFault p k).line l =
    let ln := ((s.faultNotices p k).foldl (fun u x => u.raise x.1 x.2) s).line l
    let ln := match s.faultEnds p, s.inProgress p with
      | some r, some g => if l ≠ officeLine ∧ g.job.session = l then { ln with
          outcomes := joinOutcome ln.outcomes
            ⟨l, g.job.issue, r, g.job.printed, g.job.substituted, g.job.truncated⟩ } else ln
      | _, _ => ln
    match ln.deferred with
    | some d => if l = officeLine ∧ (s.ctl p).load.isSome = true then
        let code : Byte := match d with
          | .loadPack _ => 0x32
          | .printerReset _ => 0x44
        { ln with deferred := none, replies := ln.replies ++ [⟨replyBody code .aborted [], none⟩] } else ln
    | none => ln := by
  have hline : (s.faultStopped p k).line l = match s.faultEnds p, s.inProgress p with
      | some r, some g => if l ≠ officeLine ∧ g.job.session = l then { s.told l (s.faultNotices p k) (s.line l) with
          outcomes := joinOutcome (s.told l (s.faultNotices p k) (s.line l)).outcomes
            ⟨l, g.job.issue, r, g.job.printed, g.job.substituted, g.job.truncated⟩ }
          else s.told l (s.faultNotices p k) (s.line l)
      | _, _ => s.told l (s.faultNotices p k) (s.line l) := by
    have hperm := told_perm (s := s) (faultNotices_perm (s := s) (p := p) k) l (s.line l)
    rw [faultStopped_line h, ← hperm, (told_keeps ..).1]
    cases s.faultEnds p with
    | none => simp
    | some r =>
      cases hg : s.inProgress p with
      | none => simp
      | some g =>
        dsimp only
        split
        · rename_i hl; rw [Job.outcome, hl.2]
        · rfl
  rw [physicalFault_stopped, faultLoad_line, faultStopped_load, raises_line]
  exact congrArg (LineState.loadReplied · l (s.ctl p).load.isSome) hline

/-! ## Charge, counts, reservation, signature -/

/-- The session of the job in progress behind a fault (R50, R52, R95, R118). -/
theorem physicalFault_counts {g : Progress} (hg : s.inProgress p = some g) (k : FaultKind) :
    let j := g.job
    let n := j.session
    let x := s.session n
    let old := x.counters[j.kind]
    let y := x.tally j.tender
    let ends := (s.faultEnds p).isSome
    let counters := x.counters.set j.kind { old with
      failed := if s.formAtRisk p then min (old.failed + 1) 9999999 else old.failed
      incomplete := if ends = true ∧ j.printed ≠ [] then min (old.incomplete + j.printed.length) 9999999
        else old.incomplete }
    (s.physicalFault p k).session n = { (if ends then x.setTally j.tender { y with
      pendingTotal := y.pendingTotal - j.total, pendingCount := y.pendingCount - 1 } else x) with counters := counters } := by
  dsimp only
  rw [physicalFault_session]
  cases he : s.faultEnds p with
  | some r =>
    refine (faultStopped_ended hg he k).session.trans ?_
    simp only [undoneCounters, Session.failedForm, Option.isSome_some, if_true, true_and, ne_eq, ite_not]
    simp only [Fin.getElem_fin, Vector.getElem_set_self, Vector.set_set]
    rfl
  | none =>
    have hfailed : (s.faultStopped p k).session g.job.session = { s.session g.job.session with
        counters := (s.session g.job.session).failedForm g.job.kind (s.formAtRisk p) } := by
      cases hm : s.midForm p with
      | true => rw [faultStopped_going he]; exact faultEntered_session hm hg k
      | false =>
        have hkeep : (s.session g.job.session).failedForm g.job.kind false = (s.session g.job.session).counters :=
          Vector.set_getElem_self _
        rw [formAtRisk_of_not_midForm hm, hkeep]
        exact congrArg (fun x : Till => x.sessions[g.job.session]) (faultStopped_calm hm k).2.1
    rw [hfailed]
    simp [Session.failedForm]

/-- The reservation behind a fault (R21, R96, R118). -/
theorem physicalFault_reservation {g : Progress} (h : s.RecordsKept) (hg : s.inProgress p = some g) (k : FaultKind) :
    (s.physicalFault p k).stock.reservation = s.stock.reservation -
      (if (s.faultEnds p).isSome = true then g.job.reservation else if s.formAtRisk p then 1 else 0) := by
  rw [physicalFault_stock]
  cases he : s.faultEnds p with
  | some r =>
    obtain ⟨hcov, hres⟩ := job_reserved h hg
    unfold Job.Covered at hcov
    rw [(faultStopped_ended hg he k).reservation, spoilt_length, if_pos Option.isSome_some]
    split <;> omega
  | none =>
    rw [if_neg (by simp)]
    cases hm : s.midForm p with
    | true =>
      rw [faultStopped_going he, (faultEntered_frame k).1, (faultSuspends_suspended hm hg).reservation, spoilt_length]
    | false => rw [(faultStopped_calm hm k).1, formAtRisk_of_not_midForm hm]; rfl

@[simp] theorem State.raise_signature (s : State) (c : NoticeClass) (sub : Subject) :
    (s.raise c sub).signature = s.signature := by
  unfold State.raise; split <;> rfl

/-- The signature behind an arising: VALID after an update of the log (R196). -/
theorem enterFault_signature (kind : FaultKind) : (s.enterFault p kind none).signature =
    if (s.enterFault p kind none).log = s.log then s.signature else .valid := by
  have hmap : ∀ f : FaultEntry → FaultEntry, (s.mapEntry p f).signature =
      if (s.mapEntry p f).log = s.log then s.signature else .valid := fun f => by
    unfold State.mapEntry
    by_cases he : (s.log.entries.map fun e => if e.isOpenOf p then f e else e) = s.log.entries
    · rw [he, State.setEntries_self, if_pos rfl]
    · rw [State.setEntries_changed s he, if_neg]
      · rfl
      · exact fun h => he (congrArg FaultLog.entries h)
  cases ho : s.openEntry p with
  | some e =>
    unfold State.enterFault
    rw [ho]
    dsimp only
    split
    · rw [State.raise_signature, State.raise_log]; exact hmap _
    · exact hmap _
  | none =>
    have hnew : (s.enterFault p kind none).log ≠ s.log := by
      intro h
      have hany := enterFault_entry s p kind
      rw [h, List.any_eq_true] at hany
      obtain ⟨e, he, hopen⟩ := hany
      simp only [Bool.and_eq_true] at hopen
      exact List.find?_eq_none.mp ho e he hopen.1.1
    rw [if_neg hnew]
    unfold State.enterFault
    rw [ho]
    exact State.raise_signature ..

theorem faultSuspends_signature : (s.faultSuspends p).signature = if s.midForm p = true then .valid else s.signature := by
  cases hm : s.midForm p with
  | true =>
    obtain ⟨g, hg⟩ := midForm_job hm
    exact (faultSuspends_suspended hm hg).valid
  | false => rw [State.faultSuspends, hm]; rfl

theorem faultShows_signature (k : FaultKind) : (s.faultShows p k).signature = (s.faultSuspends p).signature := by
  unfold State.faultShows
  generalize s.faultSuspends p = v
  unfold State.setPrinterState
  dsimp only
  split
  · rfl
  · split
    · rfl
    · exact State.raise_signature ..

theorem ended_signature {g : Progress} (hg : u.inProgress p = some g) (j : Job) (r : JobResult) :
    (u.ended p j r).signature = .valid := by
  have hdrop : ((u.releaseCharge j).dropJob p).signature = .valid := by
    rw [dropJob_eq (s := u.releaseCharge j) (g := g) hg]
    exact (State.notedLow_frame _ _ State.signature (State.raise_signature ..)).trans rfl
  have hover : ∀ (t : State) (o : Outcome), (t.handOver o).signature = t.signature := fun t o => by
    unfold State.handOver; split <;> rfl
  rw [State.ended, State.raise_signature, hover, hdrop]

/-- The signature behind a fault: VALID after an update of the retained store (R196). -/
theorem physicalFault_signature (k : FaultKind) : (s.physicalFault p k).signature =
    if (s.physicalFault p k).log = s.log ∧ (s.physicalFault p k).progress = s.progress then s.signature else .valid := by
  have hload : ∀ t : State, (t.faultLoad p).signature = t.signature := fun t => by
    unfold State.faultLoad
    split
    · rfl
    · rw [endDeferred_eq]; split <;> rfl
  have hsig : (s.faultEntered p k).signature = if (s.faultEntered p k).log = (s.faultSuspends p).log then
      (s.faultSuspends p).signature else .valid := by
    rw [State.faultEntered, enterFault_signature, faultShows_signature, (faultShows_frame k).2.2.2.1]
  cases hm : s.midForm p with
  | false =>
    have hs : s.faultSuspends p = s := by rw [State.faultSuspends, hm]; rfl
    have hstop := faultStopped_going (faultEnds_of_not_midForm hm) k
    rw [hs] at hsig
    rw [physicalFault_progress, (faultStopped_calm hm k).2.2, physicalFault_stopped, State.faultLoad_log, hload, hstop, hsig]
    simp
  | true =>
    obtain ⟨g, hg⟩ := midForm_job hm
    have hchanged : (s.physicalFault p k).progress ≠ s.progress := by
      intro h
      have hp : (s.physicalFault p k).inProgress p = s.inProgress p := congrArg (fun v : Vector (Option Progress) 4 => v[p]) h
      have hjob := physicalFault_job hg k
      rw [if_pos hm, hp, hg] at hjob
      have hprint := ((midForm_iff_of_job hg).mp hm).1
      split at hjob
      · exact absurd hjob.1 (by simp)
      · have := congrArg (fun x : Option Progress => x.map (·.job.state)) hjob.1
        simp [Progress.suspendedWith, hprint] at this
    have hvalid : (s.faultEntered p k).signature = .valid := by
      rw [hsig, faultSuspends_signature, if_pos hm]
      split <;> rfl
    rw [if_neg (fun h => hchanged h.2), physicalFault_stopped, hload]
    cases he : s.faultEnds p with
    | none => rw [faultStopped_going he, hvalid]
    | some r =>
      obtain ⟨v, hstop, hrec, -, -⟩ := faultEntered_undone hg he k
      rw [hstop]
      exact ended_signature hrec.job _ _

/-- A physical fault is entered, noticed, counted and replied. -/
theorem physicalFault_told (s : State) (p : PrinterId) (k : FaultKind) (h : s.RecordsKept) :
    s.FaultTold (s.physicalFault p k) p k := by
  refine ⟨physicalFault_log k, physicalFault_line h k, fun g hg => ⟨physicalFault_counts hg k, physicalFault_reservation h hg k⟩,
    fun hn => ?_, (recordsKept_physicalFault p k h).2, physicalFault_signature k⟩
  have hm : s.midForm p = false := by simp [State.midForm, hn]
  obtain ⟨hstock, htill, -⟩ := faultStopped_calm hm k
  exact ⟨(physicalFault_till k).trans htill, (physicalFault_stock k).trans hstock⟩

end Sys2Proof.Machine

/-! # A physical fault: what stands behind the event that brings it -/

namespace Sys2Proof.Machine

open Sys2Proof Sys2Proof.Machine

variable {s t u : State} {p : PrinterId}

/-! ## What the rest of an event leaves of a stopped printer -/

/-- No work of a controller is outstanding or waiting (R106). -/
def Controller.NoWork (c : Controller) : Prop :=
  c.waiting.all (fun w => !w.isWork) = true ∧ c.outstanding.all (fun o => !o.purpose.isWork) = true

/-- A controller that still shows what a fault made of another. -/
structure Controller.StandsAs (d c : Controller) : Prop where
  state : d.state = c.state
  faultOpen : d.faultOpen = c.faultOpen
  expansion : d.expansion = c.expansion
  settling : d.settling = c.settling
  load : d.load = c.load
  linkLost : d.linkLost = c.linkLost
  head : d.head = c.head
  position : d.position = c.position
  sensors : d.sensors = c.sensors
  noWork : c.NoWork → d.NoWork

/-- A state in which what a fault has left of a printer stands. -/
structure State.FaultStands (t u : State) (p : PrinterId) : Prop where
  ctl : (u.ctl p).StandsAs (t.ctl p)
  packs : u.stock.packs = t.stock.packs
  exceptions : u.stock.exceptions = t.stock.exceptions
  job : u.inProgress p = t.inProgress p
  opens : ∀ e ∈ t.log.entries, e.isOpenOf p = true → e ∈ u.log.entries
  marks : t.MarksSettled → u.MarksSettled

theorem Controller.StandsAs.refl (c : Controller) : c.StandsAs c := ⟨rfl, rfl, rfl, rfl, rfl, rfl, rfl, rfl, rfl, id⟩

theorem Controller.StandsAs.trans {c d e : Controller} (h1 : d.StandsAs c) (h2 : e.StandsAs d) : e.StandsAs c where
  state := h2.state.trans h1.state
  faultOpen := h2.faultOpen.trans h1.faultOpen
  expansion := h2.expansion.trans h1.expansion
  settling := h2.settling.trans h1.settling
  load := h2.load.trans h1.load
  linkLost := h2.linkLost.trans h1.linkLost
  head := h2.head.trans h1.head
  position := h2.position.trans h1.position
  sensors := h2.sensors.trans h1.sensors
  noWork h := h2.noWork (h1.noWork h)

namespace State.FaultStands

theorem trans (h1 : s.FaultStands t p) (h2 : t.FaultStands u p) : s.FaultStands u p where
  ctl := h1.ctl.trans h2.ctl
  packs := h2.packs.trans h1.packs
  exceptions := h2.exceptions.trans h1.exceptions
  job := h2.job.trans h1.job
  opens e he ho := h2.opens e (h1.opens e he ho) ho
  marks hm := h2.marks (h1.marks hm)

/-- The controllers change, and the lines. -/
theorem of_ctls {v : Vector Controller 4} {y : Vector LineState 7} (h : v[p].StandsAs (t.ctl p)) :
    t.FaultStands { t with controllers := v, lines := y } p where
  ctl := h
  packs := rfl
  exceptions := rfl
  job := rfl
  opens _ he _ := he
  marks hm := hm

theorem refl (t : State) (p : PrinterId) : t.FaultStands t p := of_ctls (.refl _)

/-- What waits is no work of the fault: it is sent, and the printer stays as it is (R104, R106). -/
theorem drain (n : Nat) : ∀ t : State, (t.ctl p).NoWork → t.FaultStands (t.drain p n) p := by
  induction n with
  | zero => exact fun t _ => refl t p
  | succ n ih =>
    intro t h
    unfold State.drain
    split
    · rename_i w rest ho hw
      obtain ⟨hwait, hout⟩ := h
      rw [hw, List.all_cons, Bool.and_eq_true] at hwait
      cases w with
      | loopStart => exact absurd hwait.1 (by simp [Waiting.isWork])
      | loadStep => exact absurd hwait.1 (by simp [Waiting.isWork])
      | op op purpose =>
        have hp : purpose.isWork = false := by simpa [Waiting.isWork] using hwait.1
        have hnext : (((t.mapCtl p fun c => { c with waiting := rest }).transmit p op purpose).ctl p).NoWork := by
          rw [State.transmit_ctl]
          simpa [Controller.NoWork, State.mapCtl, hp] using hwait.2
        have hsent : t.FaultStands ((t.mapCtl p fun c => { c with waiting := rest }).transmit p op purpose) p := {
          ctl := by
            refine ⟨?_, ?_, ?_, ?_, ?_, ?_, ?_, ?_, ?_, fun _ => hnext⟩ <;> simp [State.transmit_ctl, State.mapCtl]
          packs := rfl
          exceptions := rfl
          job := rfl
          opens := fun _ he _ => he
          marks := id }
        exact hsent.trans (ih _ hnext)
    · exact refl t p

theorem opEnded (h : (t.ctl p).NoWork) : t.FaultStands (t.opEnded p) p := drain _ t h

theorem of_acted {q : PrinterId} (h : t.Acted u q) (hq : p ≠ q) : t.FaultStands u p where
  ctl := by rw [h.ctls p hq]; exact .refl _
  packs := h.packs
  exceptions := h.exceptions
  job := h.jobs p hq
  opens := h.opens p hq
  marks := h.marks

theorem arbiters (order : List PrinterId) : ∀ t : State, t.MarksSettled → (t.ctl p).state ≠ .idle →
    t.FaultStands (order.foldl (fun t q => t.arbiter q) t) p := by
  induction order with
  | nil => exact fun t _ _ => refl t p
  | cons q order ih =>
    intro t hm hi
    have hact := (arbiter_done q hm).1
    have hone : t.FaultStands (t.arbiter q) p := by
      by_cases hq : p = q
      · subst hq; rw [arbiter_not_idle hi]; exact refl t p
      · exact of_acted hact hq
    exact hone.trans (ih _ (hact.marks hm) (by rw [hone.ctl.state]; exact hi))

theorem arbitrateAll (hm : t.MarksSettled) (hi : (t.ctl p).state ≠ .idle) : t.FaultStands t.arbitrateAll p := by
  obtain ⟨order, -, horder⟩ := arbitrateAll_order t
  rw [horder]
  split
  · have h1 : t.FaultStands (t.putDraws (t.draws + 1)) p := ⟨.refl _, rfl, rfl, rfl, fun _ he _ => he, id⟩
    exact h1.trans (arbiters order _ hm hi)
  · exact arbiters order t hm hi

theorem showLamp (c : Controller) (lamp : Lamp) : (c.showLamp lamp).StandsAs c := by
  unfold Controller.showLamp
  split
  · exact .refl c
  · exact ⟨rfl, rfl, rfl, rfl, rfl, rfl, rfl, rfl, rfl, id⟩

/-- The rest of an event leaves a printer that is not IDLE as the fault left it. -/
theorem afterEvent (hm : t.MarksSettled) (hi : (t.ctl p).state ≠ .idle) : t.FaultStands t.afterEvent p := by
  refine (arbitrateAll hm hi).trans ?_
  refine of_ctls (v := Vector.ofFn fun q => (t.arbitrateAll.ctl q).showLamp (t.arbitrateAll.lampNow q)) ?_
  simp only [Fin.getElem_fin, Vector.getElem_ofFn]
  exact showLamp ..

end State.FaultStands

/-! ## A stopped printer that stands, and one that faults again -/

/-- What stands behind a fault is what the fault has left. -/
theorem stoppedBy_stands {k : FaultKind} (h : s.StoppedBy t p k) (hu : t.FaultStands u p) : s.StoppedBy u p k := by
  obtain ⟨⟨hstate, hopen, hexp, hset, hload, hwait, hout, hlink, hhead, hpos⟩, hlog, hpack, hnone, hjob⟩ := h
  obtain ⟨hw, ho⟩ := hu.ctl.noWork ⟨hwait, hout⟩
  refine ⟨⟨hu.ctl.state.trans hstate, hu.ctl.faultOpen.trans hopen, hu.ctl.expansion.trans hexp, hu.ctl.settling.trans hset,
    hu.ctl.load.trans hload, hw, ho, fun hk => hu.ctl.linkLost.trans (hlink hk), hu.ctl.head.trans hhead,
    hu.ctl.position.trans hpos⟩, ?_, fun slot => (pack_of_packs hu.packs slot).trans (hpack slot), ?_, ?_⟩
  · rw [List.any_eq_true] at hlog ⊢
    obtain ⟨e, he, hkeep⟩ := hlog
    have hopens : e.isOpenOf p = true := by
      simp only [Bool.and_eq_true] at hkeep
      exact hkeep.1.1
    exact ⟨e, hu.opens e he hopens, hkeep⟩
  · rw [hu.job, hu.exceptions]; exact hnone
  · rw [hu.job, hu.exceptions]; exact hjob

/-- A fault is judged by the printer's state, head, form position and lines sent alone. -/
theorem stoppedBy_of_putCtl {k : FaultKind} {d : Controller} (h : (s.putCtl p d).StoppedBy t p k)
    (hstate : d.state = (s.ctl p).state) (hhead : d.head = (s.ctl p).head) (hpos : d.position = (s.ctl p).position)
    (hsent : d.linesSent = (s.ctl p).linesSent) : s.StoppedBy t p k := by
  have hc : (s.putCtl p d).ctl p = d := by simp
  have hrisk : (s.putCtl p d).formAtRisk p = s.formAtRisk p := by
    unfold State.formAtRisk
    rw [hc, hstate, hsent]
    rfl
  obtain ⟨hctl, hlog, hpack, hnone, hjob⟩ := h
  rw [hrisk] at hctl hpack hjob
  rw [hc] at hctl hjob
  rw [hstate] at hjob
  refine ⟨?_, hlog, hpack, hnone, hjob⟩
  unfold Controller.FaultedFrom at hctl ⊢
  rw [hstate, hhead, hpos] at hctl
  exact hctl

theorem midForm_of_stopped (hs : (t.ctl p).state = .fault ∨ (t.ctl p).state = .offline) : t.midForm p = false := by
  unfold State.midForm
  rcases hs with hs | hs <;> rw [hs] <;> rfl

theorem joinedBy_keeps (e : FaultEntry) (kind k : FaultKind) (h : (e.kind == k || e.laterKinds.getLsbD (k.code - 1)) = true) :
    ((e.joinedBy kind).kind == k || (e.joinedBy kind).laterKinds.getLsbD (k.code - 1)) = true := by
  unfold FaultEntry.joinedBy
  split
  · exact h
  · rw [Bool.or_eq_true] at h ⊢
    refine h.imp id fun h => ?_
    rw [BitVec.getLsbD_or, h, Bool.true_or]

theorem joinedBy_stamps (e : FaultEntry) (kind : FaultKind) : (e.joinedBy kind).isOpenOf p = e.isOpenOf p ∧
    (e.joinedBy kind).number = e.number ∧ (e.joinedBy kind).openedAt = e.openedAt ∧ (e.joinedBy kind).strip = e.strip ∧
    (e.joinedBy kind).session = e.session := by
  unfold FaultEntry.joinedBy
  split <;> exact ⟨rfl, rfl, rfl, rfl, rfl⟩

/-- Another fault of a stopped printer joins its OPEN entry, and moves head and form position at most (R120, R139). The kind
told of both is K. -/
theorem stoppedBy_again {k l K : FaultKind} (h : s.StoppedBy t p k) (hK : K = k ∨ K = l) (hhead : K ≠ .headFault)
    (hpos : l = .headFault → k ≠ .headFault) (hcover : K = .coverOpen ↔ k = .coverOpen ∨ l = .coverOpen) (hlost : K ≠ .linkLost) :
    s.StoppedBy (t.physicalFault p l) p K := by
  obtain ⟨⟨hstate, -, -, -, -, -, -, -, hhd, hps⟩, hlog, hpack, hnone, hjob⟩ := h
  have hstopped : (t.ctl p).state = .fault ∨ (t.ctl p).state = .offline := by
    rw [hstate]; split
    · exact .inr rfl
    · exact .inl rfl
  have hm := midForm_of_stopped hstopped
  obtain ⟨hstock, -, hprog⟩ := faultStopped_calm hm l
  have hsame : (t.physicalFault p l).stock = t.stock ∧ (t.physicalFault p l).inProgress p = t.inProgress p :=
    ⟨(physicalFault_stock l).trans hstock,
      (physicalFault_inProgress l p).trans (congrArg (fun v : Vector (Option Progress) 4 => v[p]) hprog)⟩
  obtain ⟨gstate, gopen, gexp, gset, gload, gwait, gout, -, ghead, gpos⟩ := stricken_faultedFrom (t.ctl p) l false
  have hctl := physicalFault_ctl (s := t) (p := p) l
  rw [formAtRisk_of_not_midForm hm] at hctl
  refine ⟨?_, ?_, fun slot => ?_, ?_, ?_⟩
  · rw [hctl]
    refine ⟨gstate.trans ?_, gopen, gexp, gset, gload, gwait, gout, fun hk => absurd hk hlost, ghead.trans ?_, gpos.trans ?_⟩
    · rw [hstate]
      by_cases ho : (s.ctl p).state = .offline <;> simp [ho]
    · rw [hhd]
      by_cases hl : l = .coverOpen
      · rw [if_pos hl, if_pos (hcover.mpr (.inr hl))]
      · rw [if_neg hl]
        by_cases hk : k = .coverOpen
        · rw [if_pos hk, if_pos (hcover.mpr (.inl hk))]
        · rw [if_neg hk, if_neg (fun hc => (hcover.mp hc).elim hk hl)]
    · have hk : ¬(K = .headFault ∧ s.formAtRisk p = false) := fun hc => hhead hc.1
      rw [if_neg hk]
      by_cases hl : l = .headFault
      · rw [if_pos ⟨hl, rfl⟩, hps, if_neg fun hc => hpos hl hc.1]
      · exact if_neg fun hc => hl hc.1
  · rw [physicalFault_log, enterFault_log]
    rw [List.any_eq_true] at hlog ⊢
    obtain ⟨e, he, hkeep⟩ := hlog
    simp only [Bool.and_eq_true] at hkeep
    obtain ⟨⟨hopen, hhas⟩, hstamps⟩ := hkeep
    have hsome : (t.openEntry p).isSome = true := by
      unfold State.openEntry
      rw [List.find?_isSome]
      exact ⟨e, he, hopen⟩
    obtain ⟨j1, j2, j3, j4, j5⟩ := joinedBy_stamps (p := p) e l
    rw [if_pos hsome]
    refine ⟨e.joinedBy l, List.mem_map.mpr ⟨e, he, if_pos hopen⟩, ?_⟩
    rw [j1, j2, j3, j4, j5]
    simp only [Bool.and_eq_true]
    refine ⟨⟨hopen, ?_⟩, hstamps⟩
    rcases hK with rfl | rfl
    · exact joinedBy_keeps e l _ hhas
    · exact joinedBy_has e _
  · rw [pack_of_packs (congrArg Stock.packs hsame.1)]; exact hpack slot
  · rw [hsame.1, hsame.2]; exact hnone
  · rw [hsame.1, hsame.2]; exact hjob

/-! ## A sensor set newly bad -/

/-- The kind of fault told of a set with a sensor newly bad: of an open cover, else of missing forms, else of the head. -/
def faultKindOf (x : Sensors) (kept : Option Sensors) : FaultKind :=
  if x.coverClosed = false ∧ kept.all (·.coverClosed) = true then .coverOpen
  else if x.formsPresent = false ∧ kept.all (·.formsPresent) = true then .noForms
  else .headFault

theorem physicalFault_sensors (k : FaultKind) : ((s.physicalFault p k).ctl p).sensors = (s.ctl p).sensors := by
  have hd : ∀ c : Controller, (c.haltWork.takeFault k).sensors = c.sensors := fun _ => rfl
  have hc : (if s.formAtRisk p then { s.ctl p with position := .unknown } else s.ctl p).sensors = (s.ctl p).sensors := by
    split <;> rfl
  rw [physicalFault_ctl, Controller.stricken]
  dsimp only
  split <;> exact (hd _).trans hc

theorem struck_sensors (x : Sensors) : ((s.struck p x).ctl p).sensors = some x := by
  have hstep : ∀ (t : State) (b : Bool) (k : FaultKind), ((if b then t.physicalFault p k else t).ctl p).sensors =
      (t.ctl p).sensors := fun t b k => by
    cases b
    · rfl
    · exact physicalFault_sensors k
  unfold State.struck
  dsimp only
  rw [hstep, hstep, hstep]
  simp

/-- Faults of the sensors in their order: the cover, the head, the forms (R106). -/
theorem faults_stoppedBy {r : State} (first : ∀ k, s.StoppedBy (r.physicalFault p k) p k) (cover head forms : Bool)
    (h : (cover || head || forms) = true) :
    let r2 := if cover then r.physicalFault p .coverOpen else r
    let r3 := if head then r2.physicalFault p .headFault else r2
    s.StoppedBy (if forms then r3.physicalFault p .noForms else r3) p
      (if cover then .coverOpen else if forms then .noForms else .headFault) := by
  have behindCover : ∀ {t : State} {l : FaultKind} (b : Bool), l ≠ .coverOpen → s.StoppedBy t p .coverOpen →
      s.StoppedBy (if b then t.physicalFault p l else t) p .coverOpen := fun b hl ht => by
    cases b
    · exact ht
    · exact stoppedBy_again ht (.inl rfl) (by simp) (by simp) (by simp) (by simp)
  cases cover with
  | true => exact behindCover forms (by simp) (behindCover head (by simp) (first .coverOpen))
  | false =>
    cases head with
    | false =>
      cases forms with
      | true => exact first .noForms
      | false => cases h
    | true =>
      cases forms with
      | false => exact first .headFault
      | true => exact stoppedBy_again (first .headFault) (.inr rfl) (by simp) (by simp) (by simp) (by simp)

/-- The faults of a set with a sensor newly bad (R106, R137). -/
theorem struck_stoppedBy (x : Sensors) (hw : Sensors.worsens x (s.ctl p).sensors = true) :
    s.StoppedBy (s.struck p x) p (faultKindOf x (s.ctl p).sensors) := by
  have first : ∀ k, s.StoppedBy ((s.putCtl p { s.ctl p with sensors := some x }).physicalFault p k) p k := fun k =>
    stoppedBy_of_putCtl (physicalFault_stoppedBy _ p k) rfl rfl rfl rfl
  have h := faults_stoppedBy first _ _ _ hw
  have hkind : faultKindOf x (s.ctl p).sensors =
      if !x.coverClosed && (s.ctl p).sensors.all (·.coverClosed) then .coverOpen
      else if !x.formsPresent && (s.ctl p).sensors.all (·.formsPresent) then .noForms else .headFault := by
    simp only [faultKindOf, Bool.and_eq_true, Bool.not_eq_true']
  rw [hkind]
  exact h

/-! ## Abort marks behind a fault -/

/-- A job with its abort mark set that a fault finds at work has ended (R100). -/
theorem physicalFault_marks (hm : s.MarksSettled) (k : FaultKind) : (s.physicalFault p k).MarksSettled := by
  obtain ⟨hlanes, hjobs⟩ := hm
  refine ⟨fun q j hj => hlanes q j ?_, fun q g hg hs => ?_⟩
  · rwa [show (s.physicalFault p k).lane q = s.lane q from congrArg (fun v : Vector Lanes 4 => v[q]) (by simp)] at hj
  · by_cases hq : q = p
    · subst hq
      cases hold : s.inProgress q with
      | none =>
        obtain ⟨-, -, -, hnone, -⟩ := physicalFault_stoppedBy s q k
        rw [(hnone hold).1] at hg; cases hg
      | some g0 =>
        have hjob := physicalFault_job hold k
        by_cases hmid : s.midForm q = true
        · rw [if_pos hmid] at hjob
          by_cases he : (s.faultEnds q).isSome = true
          · rw [if_pos he, hg] at hjob; cases hjob.1
          · rw [if_neg he, hg] at hjob
            rw [Option.some.inj hjob.1]
            rw [faultEnds_isSome hmid hold, not_or] at he
            exact Bool.eq_false_iff.mpr he.2
        · rw [if_neg hmid, hg] at hjob
          rw [Option.some.inj hjob.1] at hs ⊢
          exact hjobs q g0 hold hs
    · rw [(physicalFault_other k hq).2] at hg
      exact hjobs q g hg hs

theorem struck_marks (hm : s.MarksSettled) (x : Sensors) : (s.struck p x).MarksSettled := by
  have hstep : ∀ (t : State) (b : Bool) (k : FaultKind), t.MarksSettled →
      (if b then t.physicalFault p k else t).MarksSettled := fun t b k ht => by
    cases b
    · exact ht
    · exact physicalFault_marks ht k
  exact hstep _ _ _ (hstep _ _ _ (hstep _ _ _ hm))

theorem putCtl_marks (hm : s.MarksSettled) (d : Controller) : (s.putCtl p d).MarksSettled := hm

/-! ## The events that bring a fault -/

/-- What a fault has left stands when its event is over. -/
theorem afterEvent_stoppedBy {k : FaultKind} (h : s.StoppedBy t p k) (hm : t.MarksSettled) :
    s.StoppedBy t.afterEvent p k ∧ (t.afterEvent.ctl p).sensors = (t.ctl p).sensors := by
  obtain ⟨hstate, -⟩ := h.1
  have hidle : (t.ctl p).state ≠ .idle := by
    rw [hstate]; split <;> simp
  have hstands := State.FaultStands.afterEvent hm hidle
  exact ⟨stoppedBy_stands h hstands, hstands.ctl.sensors⟩

theorem opEnded_stoppedBy {k : FaultKind} (h : s.StoppedBy t p k) (hm : t.MarksSettled) :
    s.StoppedBy (t.opEnded p).afterEvent p k ∧ ((t.opEnded p).afterEvent.ctl p).sensors = (t.ctl p).sensors := by
  obtain ⟨-, -, -, -, -, hwait, hout, -⟩ := h.1
  have hended := State.FaultStands.opEnded (t := t) (p := p) ⟨hwait, hout⟩
  obtain ⟨h1, h2⟩ := afterEvent_stoppedBy (stoppedBy_stands h hended) (hended.marks hm)
  exact ⟨h1, h2.trans hended.ctl.sensors⟩

theorem struck_event (hm : s.MarksSettled) {x : Sensors} (hw : Sensors.worsens x (s.ctl p).sensors = true) :
    s.StoppedBy ((s.struck p x).opEnded p).afterEvent p (faultKindOf x (s.ctl p).sensors) ∧
      (((s.struck p x).opEnded p).afterEvent.ctl p).sensors = some x := by
  obtain ⟨h1, h2⟩ := opEnded_stoppedBy (struck_stoppedBy x hw) (struck_marks hm x)
  exact ⟨h1, h2.trans (struck_sensors x)⟩

/-- An OK answer with a sensor newly bad: its faults are judged on what its result leaves (R106, log entry 10). -/
theorem takeAnswer_worse {o : Outstanding} {x : Sensors} {result : State → State × NextStep} {r : State × NextStep}
    (hl : (s.ctl p).linkLost = false) (hr : result (s.putCtl p { s.ctl p with outstanding := none, missed := 0 }) = r)
    (ha : (r.1.ctl p).state ≠ .absent) (hs : (r.1.ctl p).sensors = (s.ctl p).sensors)
    (hw : Sensors.worsens x (s.ctl p).sensors = true) : s.takeAnswer p o (.sensors x) result = (r.1.struck p x).opEnded p := by
  have hput : { s.ctl p with outstanding := none, missed := 0, linkLost := false } =
      { s.ctl p with outstanding := none, missed := 0 } := by rw [← hl]
  unfold State.takeAnswer
  dsimp only
  rw [hput, hr]
  have hworse := hw
  rw [← hs] at hworse
  simp [State.heard, ha, arisings_isEmpty, hw, r.1.judgeSet_worsens p x _ hworse]

/-- A controller whose operation has been answered (R105). -/
def Controller.answered (c : Controller) : Controller := { c with outstanding := none, missed := 0, linkLost := false }

theorem takeAnswer_refused {o : Outstanding} {why : RefusalKind} {result : State → State × NextStep}
    (ha : (s.ctl p).state ≠ .absent) : s.takeAnswer p o (.refusal why) result =
      ((s.putCtl p (s.ctl p).answered).physicalFault p (RefusalKind.fault why)).opEnded p := by
  simp [State.takeAnswer, State.heard, ha, Controller.answered]

section
variable (hrun : s.phase = .running ∨ s.phase = .starting 7) (hmarks : s.MarksSettled) (hhere : (s.ctl p).state ≠ .absent)
include hrun hmarks hhere

/-- A SENSOR CHANGE with a sensor newly bad (R106, R137). -/
theorem sensorChange_stops {x : Sensors} (hw : Sensors.worsens x (s.ctl p).sensors = true) :
    ∃ t, exec (.sensorChange p x) s = .next t ∧ (t.ctl p).sensors = some x ∧
      s.StoppedBy t p (faultKindOf x (s.ctl p).sensors) := by
  have hput : s.mapCtl p (fun c => { c with linkLost := false }) = s.putCtl p { s.ctl p with linkLost := false } := rfl
  have hframe : s.sensorFrame p x = (s.putCtl p { s.ctl p with linkLost := false }).struck p x := by
    unfold State.sensorFrame State.heard
    rw [hput, if_neg (by simpa using hhere)]
    exact State.judgeSet_worsens _ p x true (by simpa using hw)
  have hstruck := struck_stoppedBy (s := s.putCtl p { s.ctl p with linkLost := false }) (p := p) x (by simpa using hw)
  have hsens := struck_sensors (s := s.putCtl p { s.ctl p with linkLost := false }) (p := p) x
  rw [State.putCtl_ctl, if_pos rfl] at hstruck
  obtain ⟨h1, h2⟩ := afterEvent_stoppedBy (stoppedBy_of_putCtl hstruck rfl rfl rfl rfl) (struck_marks (putCtl_marks hmarks _) x)
  refine ⟨_, congrArg Host.Outcome.next ((State.printerEvent_runs hrun _).trans ?_), h2.trans hsens, h1⟩
  rw [hframe]

/-- A refusal by the outstanding operation (R106, R137). -/
theorem refusal_stops {o : Outstanding} (ho : (s.ctl p).outstanding = some o) {op : Operation} (hs : o.op.same op = true)
    (why : RefusalKind) (result : Purpose → State → State × NextStep) :
    s.StoppedBy (s.printerEvent fun t => t.answerTo p op (.refusal why) result) p (RefusalKind.fault why) := by
  have hfault := stoppedBy_of_putCtl (physicalFault_stoppedBy (s.putCtl p (s.ctl p).answered) p (RefusalKind.fault why))
    rfl rfl rfl rfl
  have hmark := physicalFault_marks (p := p) (putCtl_marks (p := p) hmarks (s.ctl p).answered) (RefusalKind.fault why)
  have hevent := opEnded_stoppedBy hfault hmark
  rw [State.printerEvent_runs hrun, State.answerTo_own ho hs, takeAnswer_refused hhere]
  exact hevent.1

end

section
variable (hrun : s.phase = .running ∨ s.phase = .starting 7) (hmarks : s.MarksSettled)
include hrun hmarks

/-- The second miss of an operation sent twice: LINK LOST (R105). -/
theorem deadline_stops {o : Outstanding} (ho : (s.ctl p).outstanding = some o) (honce : o.once = false)
    (hmissed : (s.ctl p).missed = 1) (hreset : (s.ctl p).resetWait = false) :
    s.StoppedBy (s.printerEvent fun t => t.deadline p) p .linkLost := by
  have hfault := physicalFault_stoppedBy (s.putCtl p { s.ctl p with outstanding := none, missed := 0 }) p .linkLost
  have hmark : ((s.putCtl p { s.ctl p with outstanding := none, missed := 0 }).physicalFault p .linkLost).MarksSettled :=
    physicalFault_marks (putCtl_marks hmarks _) _
  have hdead : s.deadline p =
      ((s.putCtl p { s.ctl p with outstanding := none, missed := 0 }).physicalFault p .linkLost).opEnded p := by
    simp only [State.deadline, ho, hreset, honce, hmissed, Bool.false_eq_true, if_false, one_ne_zero, State.mapCtl]
  rw [State.printerEvent_runs hrun, hdead]
  exact (opEnded_stoppedBy (stoppedBy_of_putCtl hfault rfl rfl rfl rfl) hmark).1

end

/-- An OK answer with a sensor newly bad, by what its result leaves (R106, log entry 10). -/
theorem answer_stops (hrun : s.phase = .running ∨ s.phase = .starting 7) {o : Outstanding}
    (ho : (s.ctl p).outstanding = some o) {op : Operation} (hs : o.op.same op = true)
    (hl : (s.ctl p).linkLost = false) {x : Sensors} {result : Purpose → State → State × NextStep} {v : State} {n : NextStep}
    (hr : result o.purpose (s.putCtl p { s.ctl p with outstanding := none, missed := 0 }) = (v, n))
    (ha : (v.ctl p).state ≠ .absent) (hsens : (v.ctl p).sensors = (s.ctl p).sensors) (hm : v.MarksSettled)
    (hw : Sensors.worsens x (s.ctl p).sensors = true) :
    ((s.printerEvent fun t => t.answerTo p op (.sensors x) result).ctl p).sensors = some x ∧
      v.StoppedBy (s.printerEvent fun t => t.answerTo p op (.sensors x) result) p (faultKindOf x (s.ctl p).sensors) := by
  rw [State.printerEvent_runs hrun, State.answerTo_own ho hs, takeAnswer_worse hl hr ha hsens hw]
  rw [← hsens] at hw ⊢
  obtain ⟨h1, h2⟩ := struck_event hm hw
  exact ⟨h2, h1⟩

section
variable (hrun : s.phase = .running ∨ s.phase = .starting 7) (hmarks : s.MarksSettled) (hhere : (s.ctl p).state ≠ .absent)
include hrun hmarks hhere

theorem engageAnswer_stops {purpose : Purpose} {once : Bool} (ho : (s.ctl p).outstanding = some ⟨.engage, purpose, once⟩)
    (hl : (s.ctl p).linkLost = false) {x : Sensors} (hw : Sensors.worsens x (s.ctl p).sensors = true) :
    let b : Controller := { s.ctl p with outstanding := none, missed := 0 }
    let u := s.printerEvent fun t => t.answerTo p .engage (.sensors x) fun purpose u => u.engaged p purpose
    (u.ctl p).sensors = some x ∧
      (s.putCtl p (if purpose = .loop ∨ purpose = .load then { b with head := .engaged } else b)).StoppedBy u p
        (faultKindOf x (s.ctl p).sensors) := by
  intro b u
  have hr : (s.putCtl p b).engaged p purpose = (s.putCtl p (if purpose = .loop ∨ purpose = .load then
      { b with head := .engaged } else b), if purpose = .loop ∨ purpose = .load then .settle else .nothing) := by
    unfold State.engaged
    split <;> simp [State.mapCtl]
  refine answer_stops hrun ho rfl hl hr ?_ ?_ (putCtl_marks hmarks _) hw
  · rw [State.putCtl_ctl, if_pos rfl]
    split <;> exact hhere
  · rw [State.putCtl_ctl, if_pos rfl]
    split <;> rfl

theorem wasteAnswer_stops {once : Bool} (ho : (s.ctl p).outstanding = some ⟨.eject, .waste, once⟩)
    (hl : (s.ctl p).linkLost = false) {x : Sensors} (hw : Sensors.worsens x (s.ctl p).sensors = true) :
    let b : Controller := { s.ctl p with outstanding := none, missed := 0 }
    let u := s.printerEvent fun t => t.answerTo p .eject (.sensors x) fun purpose u => u.ejected p purpose
    (u.ctl p).sensors = some x ∧
      (s.wasteGone p { b with position := .none }).StoppedBy u p (faultKindOf x (s.ctl p).sensors) := by
  intro b u
  refine answer_stops hrun ho rfl hl (wasteEjected_eq (s := s) b) ?_ ?_ ?_ hw
  · rw [wasteGone_ctl]
    split
    · simp [Controller.enter]
    · exact hhere
  · rw [wasteGone_ctl]
    split <;> rfl
  · unfold State.wasteGone
    split
    · exact (State.Acted.setPrinterState _ p .idle).marks (putCtl_marks hmarks _)
    · exact putCtl_marks hmarks _

end

/-- Settles O46: the fault itself, then the events that bring one. -/
theorem faultStopsWork : Obligations.FaultStopsWork := by
  refine ⟨fun s p k => ⟨physicalFault_stoppedBy s p k, physicalFault_frame s p k, physicalFault_told s p k⟩, ?_⟩
  intro s p hrun hmarks hhere kindOf
  refine ⟨fun x hw => sensorChange_stops hrun hmarks hhere hw, fun op purpose once ho => ⟨fun why => ?_, fun h1 h2 h3 => ?_, ?_⟩⟩
  · have hrefused := fun op hs => refusal_stops hrun hmarks hhere ho (op := op) hs why
    cases why <;> cases op <;> exact ⟨_, rfl, hrefused _ rfl _⟩
  · exact ⟨_, rfl, deadline_stops hrun hmarks ho h1 h2 h3⟩
  · intro x hw _ hl b
    have hb : (s.putCtl p b).ctl p = b := by simp
    refine ⟨?_, ?_, ?_, ?_, ?_, ?_⟩
    · rintro rfl
      exact ⟨_, rfl, engageAnswer_stops hrun hmarks hhere ho hl hw⟩
    · rintro rfl
      have hr : (s.putCtl p b).lifted p = (s.putCtl p { b with head := .lifted }, .nothing) := by
        simp [State.lifted, State.mapCtl]
      exact ⟨_, rfl, answer_stops hrun ho rfl hl (result := fun _ u => u.lifted p) hr (by simpa using hhere) (by simp [b])
        (putCtl_marks hmarks _) hw⟩
    · rintro rfl
      obtain ⟨h1, h2⟩ := answer_stops hrun ho (op := .advance) rfl hl (result := fun purpose u => advanced u purpose) rfl
        (by rw [hb]; exact hhere) (by rw [hb]) (putCtl_marks hmarks _) hw
      exact ⟨_, rfl, h1, stoppedBy_of_putCtl h2 rfl rfl rfl rfl⟩
    · intro hcode
      have hsame : op.same (.printLine []) = true := by rw [Operation.same, hcode]; rfl
      obtain ⟨h1, h2⟩ := answer_stops hrun ho hsame hl (result := fun purpose u => linePrinted u purpose) rfl
        (by rw [hb]; exact hhere) (by rw [hb]) (putCtl_marks hmarks _) hw
      exact ⟨_, rfl, h1, stoppedBy_of_putCtl h2 rfl rfl rfl rfl⟩
    · rintro rfl
      obtain ⟨h1, h2⟩ := answer_stops hrun ho (op := .enquire) rfl hl (result := fun _ u => (u, .nothing)) rfl
        (by rw [hb]; exact hhere) (by rw [hb]) (putCtl_marks hmarks _) hw
      exact ⟨_, rfl, h1, stoppedBy_of_putCtl h2 rfl rfl rfl rfl⟩
    · rintro rfl rfl
      exact ⟨_, rfl, wasteAnswer_stops hrun hmarks hhere ho hl hw⟩

end Sys2Proof.Machine

/-! # The charge of one passenger (R31-R34) -/

namespace Sys2Proof.Machine

open Sys2Proof Sys2Proof.Machine

section
variable {base : Nat} {e : Discount}

/-! ## The discount -/

theorem discountAmount_le_base (hr : e.rate ≤ 1000) : discountAmount base e ≤ base := by
  have h : base * e.rate ≤ base * 1000 := Nat.mul_le_mul_left base hr
  unfold discountAmount
  omega

theorem discountAmount_of_rate_zero (hr : e.rate = 0) : discountAmount base e = 0 := by
  simp [discountAmount, hr]

theorem discountAmount_of_full_rate (hr : e.rate = 1000) : discountAmount base e = base := by
  simp [discountAmount, hr]

/-! ## The rounding -/

theorem step_dvd_roundedFare : e.step ∣ roundedFare base e := Nat.dvd_mul_right ..

theorem roundedFare_of_step_one (hs : e.step = 1) : roundedFare base e = reducedFare base e := by
  unfold roundedFare
  rw [hs]
  omega

theorem roundedFare_of_reducedFare_zero (hs : 0 < e.step) (hu : reducedFare base e = 0) : roundedFare base e = 0 := by
  have : e.step / (2 * e.step) = 0 := Nat.div_eq_of_lt (by omega)
  simp [roundedFare, hu, this]

theorem two_mul_roundedFare : 2 * roundedFare base e =
    2 * e.step * ((2 * reducedFare base e + e.step) / (2 * e.step)) := (Nat.mul_assoc ..).symm

theorem two_mul_roundedFare_le : 2 * roundedFare base e ≤ 2 * reducedFare base e + e.step :=
  two_mul_roundedFare ▸ Nat.mul_div_le ..

theorem lt_two_mul_roundedFare (hs : 0 < e.step) : 2 * reducedFare base e < 2 * roundedFare base e + e.step := by
  have h := Nat.lt_mul_div_succ (2 * reducedFare base e + e.step) (show 0 < 2 * e.step by omega)
  rw [Nat.mul_add, ← two_mul_roundedFare] at h
  omega

/-! ## The base cap -/

theorem step_dvd_cappedFare : e.step ∣ cappedFare base e := by
  unfold cappedFare
  split
  · exact Nat.dvd_sub step_dvd_roundedFare (Nat.dvd_refl _)
  · exact step_dvd_roundedFare

/-- One step off a fare rounded above the base takes it below the reduced fare: it was at most half a step above. -/
theorem cappedFare_lt_reducedFare (hs : 0 < e.step) (h : base < roundedFare base e) :
    cappedFare base e < reducedFare base e := by
  have hstep : e.step ≤ roundedFare base e := Nat.le_of_dvd (by omega) step_dvd_roundedFare
  have hround : 2 * roundedFare base e ≤ 2 * reducedFare base e + e.step := two_mul_roundedFare_le
  rw [cappedFare, if_pos h]
  omega

theorem cappedFare_le_base (hs : 0 < e.step) : cappedFare base e ≤ base := by
  by_cases h : base < roundedFare base e
  · exact (cappedFare_lt_reducedFare hs h).le.trans (Nat.sub_le ..)
  · rw [cappedFare, if_neg h]
    omega

/-! ## The floor -/

theorem perPassenger_le_base (hs : 0 < e.step) : perPassenger base e ≤ base :=
  max_le (cappedFare_le_base hs) (min_le_right ..)

end

/-- Settles O37: the discount, the rounding, the cap and the floor, each by its bounds. -/
theorem chargeStaysInBounds : Obligations.ChargeStaysInBounds := by
  intro base e hs hr d u q capped c
  refine ⟨fun hb => ?_, discountAmount_le_base hr, discountAmount_of_rate_zero, discountAmount_of_full_rate,
    roundedFare_of_step_one, roundedFare_of_reducedFare_zero hs, step_dvd_roundedFare, two_mul_roundedFare_le,
    lt_two_mul_roundedFare hs, step_dvd_cappedFare, cappedFare_le_base hs, cappedFare_lt_reducedFare hs, le_max_right ..,
    perPassenger_le_base hs, rfl, fun hb => ?_⟩
  · exact Nat.mul_le_mul hb hr
  · exact Nat.le_zero.mp (hb ▸ perPassenger_le_base hs)

end Sys2Proof.Machine

/-! # Check codes and amounts (R38, R39, R41) -/

namespace Sys2Proof.Machine

open Sys2Proof Sys2Proof.Machine

/-! ## The letters of a check code -/

theorem capital_toNat {n : Nat} (h : n < 26) : (capital n).toNat = 0x41 + n := by
  simp only [capital, byteOf, BitVec.toNat_ofNat]
  omega

theorem capital_inj {m n : Nat} (hm : m < 26) (hn : n < 26) (h : capital m = capital n) : m = n := by
  have := congrArg BitVec.toNat h
  rw [capital_toNat hm, capital_toNat hn] at this
  omega

theorem checkLetters_inj {c d : Nat} (hc : c < 17576) (hd : d < 17576) (h : checkLetters c = checkLetters d) : c = d := by
  simp only [checkLetters, List.cons.injEq, and_true] at h
  obtain ⟨hhigh, hmid, hlow⟩ := h
  have := capital_inj (by omega) (by omega) hhigh
  have := capital_inj (by omega) (by omega) hmid
  have := capital_inj (by omega) (by omega) hlow
  omega

theorem checkLetters_capitals {c : Nat} (hc : c < 17576) :
    ∀ b ∈ checkLetters c, 0x41 ≤ b.toNat ∧ b.toNat ≤ 0x5A := by
  have bounds {n : Nat} (h : n < 26) : 0x41 ≤ (capital n).toNat ∧ (capital n).toNat ≤ 0x5A := by
    rw [capital_toNat h]
    omega
  simp only [checkLetters, List.mem_cons, List.not_mem_nil, or_false]
  rintro b (rfl | rfl | rfl) <;> exact bounds (by omega)

/-! ## Decimal digits -/

/-- The number that decimal digits read behind `m` give. -/
def readDecimal (m : Nat) (digits : List Byte) : Nat := digits.foldl (fun m b => m * 10 + (b.toNat - 0x30)) m

theorem digit_toNat {n : Nat} : (byteOf (0x30 + n % 10)).toNat = 0x30 + n % 10 := by
  simp only [byteOf, BitVec.toNat_ofNat]
  omega

theorem decimal_digits (w n : Nat) : ∀ b ∈ decimal w n, 0x30 ≤ b.toNat ∧ b.toNat ≤ 0x39 := by
  induction w with
  | zero => simp [decimal]
  | succ w ih =>
    refine List.forall_mem_cons.mpr ⟨?_, ih⟩
    rw [digit_toNat]
    omega

theorem readDecimal_decimal (w n m : Nat) : readDecimal m (decimal w n) = m * 10 ^ w + n % 10 ^ w := by
  induction w generalizing m with
  | zero => simp [decimal, readDecimal, Nat.mod_one]
  | succ w ih =>
    calc readDecimal m (decimal (w + 1) n)
      _ = readDecimal (m * 10 + n / 10 ^ w % 10) (decimal w n) := by
        simp [decimal, readDecimal, digit_toNat]
      _ = (m * 10 + n / 10 ^ w % 10) * 10 ^ w + n % 10 ^ w := ih _
      _ = m * 10 ^ (w + 1) + n % 10 ^ (w + 1) := by rw [Nat.mod_pow_succ]; ring

theorem readDecimal_dropWhile_zero (digits : List Byte) :
    readDecimal 0 (digits.dropWhile (· == 0x30)) = readDecimal 0 digits := by
  induction digits with
  | nil => rfl
  | cons b rest ih =>
    by_cases h : b = 0x30
    · rw [List.dropWhile_cons_of_pos (by simpa using h), ih]
      simp [readDecimal, h]
    · rw [List.dropWhile_cons_of_neg (by simpa using h)]

/-- Behind the leading zeros no digit is left, and the form is the single digit 0, or the first one left is no zero. -/
theorem plainDecimal_cases (n : Nat) : let digits := (decimal 10 n).dropWhile (· == 0x30)
    (digits = [] ∧ plainDecimal n = [0x30]) ∨
      (plainDecimal n = digits ∧ ∃ first rest, digits = first :: rest ∧ first ≠ 0x30) := by
  rw [plainDecimal]
  split
  next hnone => exact .inl ⟨hnone, rfl⟩
  next hsome =>
    obtain ⟨first, rest, hdigits⟩ := List.exists_cons_of_ne_nil hsome
    refine .inr ⟨rfl, first, rest, hdigits, fun hfirst => ?_⟩
    have hhead := List.head?_dropWhile_not (· == (0x30 : Byte)) (decimal 10 n)
    rw [hdigits, List.head?_cons] at hhead
    simp [hfirst] at hhead

theorem readDecimal_plainDecimal {n : Nat} (hn : n < 10 ^ 10) : readDecimal 0 (plainDecimal n) = n := by
  have hvalue : readDecimal 0 ((decimal 10 n).dropWhile (· == 0x30)) = n := by
    rw [readDecimal_dropWhile_zero, readDecimal_decimal, Nat.zero_mul, Nat.zero_add, Nat.mod_eq_of_lt hn]
  obtain ⟨hnone, hplain⟩ | ⟨hplain, -⟩ := plainDecimal_cases n
  · rw [hplain, ← hvalue, hnone]
    rfl
  · rw [hplain, hvalue]

theorem plainDecimal_digits (n : Nat) : ∀ b ∈ plainDecimal n, 0x30 ≤ b.toNat ∧ b.toNat ≤ 0x39 := by
  obtain ⟨-, hplain⟩ | ⟨hplain, -⟩ := plainDecimal_cases n
  · simp [hplain]
  · rw [hplain]
    exact fun b hb => decimal_digits 10 n b (List.dropWhile_subset _ hb)

theorem plainDecimal_no_leading_zero (n : Nat) :
    plainDecimal n = [0x30] ∨ ∃ first rest, plainDecimal n = first :: rest ∧ first ≠ 0x30 := by
  obtain ⟨-, hplain⟩ | ⟨hplain, hfirst⟩ := plainDecimal_cases n
  · exact .inl hplain
  · exact .inr (hplain ▸ hfirst)

theorem printedAmount_eq (n : Nat) :
    printedAmount n = plainDecimal (n / 100) ++ [0x2E, byteOf (0x30 + n / 10 % 10), byteOf (0x30 + n % 10)] := by
  have htens : n % 100 / 10 % 10 = n / 10 % 10 := by omega
  have hunits : n % 100 % 10 = n % 10 := by omega
  simp [printedAmount, decimal, htens, hunits]

/-- Settles O38: the sum's largest value, the letters as the digits of the value in base 26, the amount by its decimal
digits. -/
theorem checkCodesAndAmounts : Obligations.CheckCodesAndAmounts := by
  refine ⟨⟨fun serial total day kind coupon => ⟨rfl, by omega, Nat.mod_lt _ (by decide)⟩, fun c d => checkLetters_inj,
    fun c hc => ⟨rfl, checkLetters_capitals hc⟩, rfl, rfl⟩, fun n hn => ?_⟩
  exact ⟨plainDecimal (n / 100), printedAmount_eq n, plainDecimal_digits _, readDecimal_plainDecimal (by omega),
    plainDecimal_no_leading_zero _⟩

end Sys2Proof.Machine

/-! # The expansion of a body (R70-R75) -/

namespace Sys2Proof.Machine

open Sys2Proof Sys2Proof.Machine

/-! ## The lines of a body (R71) -/

/-- Bytes with their last line ended by 0Ah. -/
def lastLineEnded (body : List Byte) : List Byte :=
  if body = [] ∨ body.getLast? = some 0x0A then body else body ++ [0x0A]

theorem not_mem_concat {got : List Byte} {x b : Byte} (hgot : x ∉ got) (hb : ¬ b = x) : x ∉ got ++ [b] :=
  List.not_mem_append hgot fun h => hb (List.mem_singleton.mp h).symm

theorem bodyLines_newline_free (got body : List Byte) (hgot : (0x0A : Byte) ∉ got) :
    ∀ line ∈ bodyLines got body, (0x0A : Byte) ∉ line := by
  fun_induction bodyLines got body with
  | case1 => simp
  | case2 => simpa using hgot
  | case3 got rest ih => exact List.forall_mem_cons.mpr ⟨hgot, ih (by simp)⟩
  | case4 got b rest hb ih => exact ih (not_mem_concat hgot hb)

theorem lastLineEnded_newline_free {got : List Byte} (hne : got ≠ []) (hgot : (0x0A : Byte) ∉ got) :
    lastLineEnded got = got ++ [0x0A] := by
  have hlast : got.getLast? ≠ some 0x0A := fun h => hgot (List.mem_of_getLast? h)
  rw [lastLineEnded, if_neg (not_or.mpr ⟨hne, hlast⟩)]

theorem lastLineEnded_append_newline (got rest : List Byte) :
    lastLineEnded (got ++ 0x0A :: rest) = got ++ 0x0A :: lastLineEnded rest := by
  cases rest with
  | nil => simp only [lastLineEnded, List.getLast?_concat, true_or, or_true, if_true]
  | cons b rest =>
    simp only [lastLineEnded, List.getLast?_append, List.getLast?_cons_cons]
    split <;> simp_all

theorem bodyLines_flatMap (got body : List Byte) (hgot : (0x0A : Byte) ∉ got) :
    (bodyLines got body).flatMap (· ++ [0x0A]) = lastLineEnded (got ++ body) := by
  fun_induction bodyLines got body with
  | case1 => rfl
  | case2 got hne => simp [lastLineEnded_newline_free hne hgot]
  | case3 got rest ih =>
    rw [lastLineEnded_append_newline, List.flatMap_cons, ih (List.not_mem_nil), List.append_assoc, List.singleton_append,
      List.nil_append]
  | case4 got b rest hb ih => rw [ih (not_mem_concat hgot hb), List.append_assoc, List.singleton_append]

theorem bodyLines_ne_nil {body : List Byte} (h : body ≠ []) : bodyLines [] body ≠ [] := by
  intro hnil
  have hflat := bodyLines_flatMap [] body (by simp)
  rw [hnil, List.flatMap_nil, List.nil_append, lastLineEnded] at hflat
  split at hflat
  · exact h hflat.symm
  · simp at hflat

/-! ## The characters of a byte (R72, R73) -/

theorem decimal_eq_map_range (w n : Nat) :
    decimal w n = (List.range w).map fun i => byteOf (0x30 + n / 10 ^ (w - 1 - i) % 10) := by
  induction w with
  | zero => rfl
  | succ w ih =>
    rw [decimal, ih, List.range_succ_eq_map, List.map_cons, List.map_map]
    congr 1
    exact List.map_congr_left fun i _ => by simp only [Function.comp_apply]; congr 5; omega

section
variable {f : BodyFacts} {b : Byte}

theorem fieldChars_none (h : b.toNat < 0x80 ∨ 0x8B < b.toNat) : fieldChars f b = none := by
  unfold fieldChars
  split
  case h_13 => rfl
  all_goals omega

theorem byteChars_printable (hlow : 0x20 ≤ b.toNat) (hhigh : b.toNat ≤ 0x7E) : byteChars f b = ([b], false) := by
  simp [byteChars, printable, hlow, hhigh]

theorem byteChars_other (h : b.toNat < 0x20 ∨ b = 0x7F ∨ 0x8B < b.toNat) : byteChars f b = ([0x3F], true) := by
  have hb : b.toNat < 0x20 ∨ b.toNat = 0x7F ∨ 0x8B < b.toNat := h.imp_right (·.imp_left (congrArg BitVec.toNat))
  have hprint : printable b = false := by
    rw [printable, ← Bool.decide_and, decide_eq_false_iff_not]
    omega
  rw [byteChars, fieldChars_none (by omega), hprint]
  rfl

theorem byteChars_of_substituted (h : (byteChars f b).2 = true) : (byteChars f b).1 = [0x3F] := by
  unfold byteChars at h ⊢
  split at h
  next => simp at h
  next hprint =>
    cases hfield : fieldChars f b with
    | some chars => simp [hfield] at h
    | none => rw [if_neg hprint]

/-! ## The characters of a line (R72, R74) -/

/-- The characters that the bytes of a line place, before the limit. -/
def lineChars (f : BodyFacts) (line : List Byte) : List Byte := line.flatMap fun b => (byteChars f b).1

/-- A byte of the line is substituted whose question mark is within the first `room` characters. -/
def SubstitutedWithin (f : BodyFacts) (room : Nat) (line : List Byte) : Prop :=
  ∃ before b after, line = before ++ b :: after ∧ (byteChars f b).2 = true ∧ (lineChars f before).length < room

theorem lineChars_cons (b : Byte) (rest : List Byte) : lineChars f (b :: rest) = (byteChars f b).1 ++ lineChars f rest :=
  List.flatMap_cons

theorem not_substitutedWithin_nil (room : Nat) : ¬ SubstitutedWithin f room [] := by
  rintro ⟨before, b, after, h, -⟩
  simp at h

theorem not_substitutedWithin_zero (line : List Byte) : ¬ SubstitutedWithin f 0 line := by
  rintro ⟨before, b, after, -, -, h⟩
  exact absurd h (Nat.not_lt_zero _)

theorem substitutedWithin_cons (room : Nat) (b : Byte) (rest : List Byte) : SubstitutedWithin f room (b :: rest) ↔
    ((byteChars f b).2 = true ∧ 0 < room) ∨ SubstitutedWithin f (room - (byteChars f b).1.length) rest := by
  constructor
  · rintro ⟨before, c, after, hsplit, hc, hroom⟩
    cases before with
    | nil =>
      obtain ⟨rfl, rfl⟩ := List.cons.inj hsplit
      exact .inl ⟨hc, hroom⟩
    | cons x before =>
      obtain ⟨rfl, rfl⟩ := List.cons.inj hsplit
      rw [lineChars_cons, List.length_append] at hroom
      exact .inr ⟨before, c, after, rfl, hc, by omega⟩
  · rintro (⟨hb, hroom⟩ | ⟨before, c, after, rfl, hc, hroom⟩)
    · exact ⟨[], b, rest, rfl, hb, hroom⟩
    · refine ⟨b :: before, c, after, rfl, hc, ?_⟩
      rw [lineChars_cons, List.length_append]
      omega

theorem expandLine_fits {placed rest : List Byte} {sub : Bool} (h : placed.length + (byteChars f b).1.length ≤ 40) :
    expandLine f placed (b :: rest) sub = expandLine f (placed ++ (byteChars f b).1) rest (sub || (byteChars f b).2) :=
  if_pos h

theorem expandLine_full {placed rest : List Byte} {sub : Bool} (h : ¬ placed.length + (byteChars f b).1.length ≤ 40) :
    expandLine f placed (b :: rest) sub = ⟨placed ++ (byteChars f b).1.take (40 - placed.length), sub, true⟩ :=
  if_neg h

theorem expandLine_chars (line : List Byte) {placed : List Byte} (sub : Bool) (h : placed.length ≤ 40) :
    (expandLine f placed line sub).chars = (placed ++ lineChars f line).take 40 := by
  induction line generalizing placed sub with
  | nil => simp [expandLine, lineChars, List.take_of_length_le h]
  | cons b rest ih =>
    rw [lineChars_cons, ← List.append_assoc]
    by_cases hfit : placed.length + (byteChars f b).1.length ≤ 40
    · rw [expandLine_fits hfit, ih _ (by simpa using hfit)]
    · rw [expandLine_full hfit, List.take_append_of_le_length (by rw [List.length_append]; omega), List.take_append,
        List.take_of_length_le h]

theorem expandLine_truncated (line : List Byte) {placed : List Byte} (sub : Bool) (h : placed.length ≤ 40) :
    (expandLine f placed line sub).truncated = decide (40 < (placed ++ lineChars f line).length) := by
  induction line generalizing placed sub with
  | nil => simp [expandLine, lineChars, h]
  | cons b rest ih =>
    rw [lineChars_cons, ← List.append_assoc]
    by_cases hfit : placed.length + (byteChars f b).1.length ≤ 40
    · rw [expandLine_fits hfit, ih _ (by simpa using hfit)]
    · rw [expandLine_full hfit]
      simp only [List.length_append]
      exact (decide_eq_true (by omega)).symm

theorem expandLine_substituted (line placed : List Byte) (sub : Bool) :
    (expandLine f placed line sub).substituted = true ↔ sub = true ∨ SubstitutedWithin f (40 - placed.length) line := by
  induction line generalizing placed sub with
  | nil => simp [expandLine, not_substitutedWithin_nil]
  | cons b rest ih =>
    have hone (hb : (byteChars f b).2 = true) : (byteChars f b).1.length = 1 := by rw [byteChars_of_substituted hb]; rfl
    rw [substitutedWithin_cons]
    by_cases hfit : placed.length + (byteChars f b).1.length ≤ 40
    · have hroom : (byteChars f b).2 = true ↔ (byteChars f b).2 = true ∧ 0 < 40 - placed.length :=
        ⟨fun hb => ⟨hb, by have := hone hb; omega⟩, And.left⟩
      rw [expandLine_fits hfit, ih, Bool.or_eq_true, List.length_append, ← Nat.sub_sub, ← hroom, or_assoc]
    · have hroom : ¬ ((byteChars f b).2 = true ∧ 0 < 40 - placed.length) := fun ⟨hb, hpos⟩ => by
        have := hone hb
        omega
      have hnone : 40 - placed.length - (byteChars f b).1.length = 0 := by omega
      rw [expandLine_full hfit, hnone, or_iff_left (not_or.mpr ⟨hroom, not_substitutedWithin_zero rest⟩)]

end

/-! ## The lines of an expansion (R75) -/

theorem expandBody_chars (f : BodyFacts) (body : List Byte) :
    (expandBody f body).1 = ((bodyLines [] body).take 12).map fun line => (expandLine f [] line false).chars :=
  List.map_map

theorem expandBody_substituted (f : BodyFacts) (body : List Byte) : (expandBody f body).2.1 = true ↔
    ∃ line ∈ (bodyLines [] body).take 12, (expandLine f [] line false).substituted = true := by
  simp [expandBody, -List.map_take]

theorem expandBody_truncated (f : BodyFacts) (body : List Byte) : (expandBody f body).2.2 = true ↔
    12 < (bodyLines [] body).length ∨ ∃ line ∈ (bodyLines [] body).take 12, (expandLine f [] line false).truncated = true := by
  simp [expandBody, or_comm, -List.map_take]

theorem expandBody_line_length_le (f : BodyFacts) (body : List Byte) : ∀ chars ∈ (expandBody f body).1, chars.length ≤ 40 := by
  simp only [expandBody_chars, List.forall_mem_map]
  intro line _
  rw [expandLine_chars line false (by simp)]
  exact List.length_take_le ..

theorem expandBody_ne_nil {body : List Byte} (h : body ≠ []) : (expandBody f body).1 ≠ [] := by
  simp [expandBody_chars, bodyLines_ne_nil h]

/-- Settles O39: the body's lines, a byte's characters, a line up to its 40th, and the first 12 lines. -/
theorem bodyExpandsToLines : Obligations.BodyExpandsToLines := by
  refine ⟨fun body => ⟨bodyLines_newline_free [] body (by simp), bodyLines_flatMap [] body (by simp)⟩, fun _ _ _ => rfl,
    ?_, ?_, ?_⟩
  · intro f b digits v
    have hdigits : decimal = digits := funext₂ decimal_eq_map_range
    clear_value digits
    subst hdigits
    refine ⟨byteChars_printable, fun _ => byteChars_other, rfl, rfl, rfl, ?_, rfl, rfl, rfl, rfl, rfl, rfl, rfl, rfl⟩
    simp [byteChars, printable, fieldChars]
  · intro f line all x
    refine ⟨expandLine_chars line false (by simp), expandLine_truncated line false (by simp), ?_⟩
    exact (expandLine_substituted line [] false).trans (or_iff_right Bool.false_ne_true)
  · intro f body lines x
    refine ⟨expandBody_chars f body, ?_, expandBody_line_length_le f body, expandBody_substituted f body,
      expandBody_truncated f body, expandBody_ne_nil⟩
    rw [expandBody_chars, List.length_map]
    exact List.length_take_le ..

end Sys2Proof.Machine

/-! # What the printers' work can do to sessions, jobs and lines

The blocks behind the till's invariants and the bounds are the sessions, the lanes, the jobs in progress and the lines. `State.Works`
lists the moves by which a printer's work changes them; every operation of a controller or an arbiter is made of such moves, which is
shown here once, and an invariant of the moves is one of the operations. -/

namespace Sys2Proof.Machine

open Sys2Proof Sys2Proof.Machine

/-! ## Moves -/

/-- The replies a line owes: those that wait, and that of its deferred request (R179, R182). -/
def LineState.owed (ln : LineState) : Nat := ln.replies.length + if ln.deferred.isSome then 1 else 0

/-- A line that keeps its outcomes and its body, owes no more replies than before, and defers no new request. -/
structure LineState.Calm (a b : LineState) : Prop where
  outcomes : b.outcomes = a.outcomes
  body : b.body = a.body
  owed : b.owed ≤ a.owed
  deferred : a.deferred = none → b.deferred = none

theorem LineState.Calm.refl (a : LineState) : a.Calm a := ⟨rfl, rfl, le_rfl, id⟩

/-- Two jobs with the charge of one: their session, tender and charged total agree (R49). -/
def Job.SameDue (j k : Job) : Prop := k.session = j.session ∧ k.tender = j.tender ∧ k.total = j.total

theorem Job.SameDue.refl (j : Job) : j.SameDue j := ⟨rfl, rfl, rfl⟩

/-- The session of a job as its settle leaves it (R51, R53, R54, R62). -/
def State.settledSession (s : State) (j : Job) : Session :=
  let x := s.session j.session
  let y := { x.setTally j.tender ((x.tally j.tender).settle j.total) with
    journal := (s.journalEntry j :: x.journal).take 32 }
  if j.tender = .cash then
    { y with estimate := x.estimate + j.total, drawer := drawerStateOf s.till.high s.till.low (x.estimate + j.total) }
  else y

/-- The moves of a printer's work: other blocks change; lines stay calm; an outcome is handed over; forms are counted; the job in
progress changes but for its charge; it ends, its charge released or settled; the head of a lane is admitted. -/
inductive State.Works (p : PrinterId) : State → State → Prop
  | refl (s : State) : Works p s s
  | trans {s t u : State} : Works p s t → Works p t u → Works p s u
  | rest {s t : State} (sessions : t.till.sessions = s.till.sessions) (lanes : t.lanes = s.lanes)
      (progress : t.progress = s.progress) (lines : t.lines = s.lines) (phase : t.phase = s.phase)
      (result : t.startResult = s.startResult) : Works p s t
  | calm (s : State) (v : Vector LineState 7) (h : ∀ l : Line, (s.line l).Calm v[l]) : Works p s { s with lines := v }
  | handOver (s : State) (o : Outcome) : Works p s (s.handOver o)
  | count (s : State) (n : SessionId) (k : Kind) (f : KindCounters → KindCounters) : Works p s (s.countKind n k f)
  | work (s : State) (g h : Progress) (hg : s.inProgress p = some g) (same : g.job.SameDue h.job) :
      Works p s (s.putProgress p (some h))
  | released (s : State) (g : Progress) (j : Job) (hg : s.inProgress p = some g) (same : g.job.SameDue j) :
      Works p s ((s.releaseCharge j).putProgress p none)
  | settled (s : State) (g : Progress) (hg : s.inProgress p = some g) :
      Works p s ((s.putSession g.job.session (s.settledSession g.job)).putProgress p none)
  | admitted (s : State) (j : Job) (h : Progress) (rest : Lanes) (hn : s.inProgress p = none) (hl : (s.lane p).HeadIs j rest)
      (same : j.SameDue h.job) : Works p s ((s.putLane p rest).putProgress p (some h))

/-- The job in progress on a printer is not both SUSPENDED and marked (R100). -/
def State.MarkFree (s : State) (p : PrinterId) : Prop :=
  ∀ g, s.inProgress p = some g → g.job.state = .suspended → g.job.abortMark = false

/-- Work done on a printer; with `m`, it leaves no SUSPENDED job marked that was not so before. Within a stop by a fault or a hold
`m` is given up until the job has met its abort boundary (R100). -/
structure State.Worked (m : Prop) (p : PrinterId) (s t : State) : Prop where
  works : s.Works p t
  marks : m → s.MarkFree p → t.MarkFree p

theorem inProgress_of_progress {s t : State} (h : t.progress = s.progress) (p : PrinterId) : t.inProgress p = s.inProgress p :=
  congrArg (·[p]) h

theorem State.MarkFree.of_progress {s t : State} {p : PrinterId} (h : t.progress = s.progress) (hs : s.MarkFree p) : t.MarkFree p := by
  unfold State.MarkFree; rw [inProgress_of_progress h]; exact hs

theorem State.MarkFree.of_none {s : State} {p : PrinterId} (h : s.inProgress p = none) : s.MarkFree p := fun g hg => by
  rw [h] at hg; cases hg

theorem State.Worked.refl (m : Prop) (p : PrinterId) (s : State) : s.Worked m p s := ⟨.refl s, fun _ h => h⟩

namespace State.Worked

variable {m : Prop} {p : PrinterId} {s t : State}

/-- Work that has not been held to its marks. -/
theorem freed (h : s.Worked m p t) : s.Worked False p t := ⟨h.works, fun f => f.elim⟩

theorem trans {u : State} (h : s.Worked m p t) (k : t.Worked m p u) : s.Worked m p u :=
  ⟨h.works.trans k.works, fun hm hs => k.marks hm (h.marks hm hs)⟩

theorem move {u : State} (h : s.Worked m p t) (w : t.Works p u) (hp : u.progress = t.progress) : s.Worked m p u :=
  ⟨h.works.trans w, fun hm hs => (h.marks hm hs).of_progress hp⟩

/-- Blocks other than the sessions, lanes, jobs and lines change. -/
theorem rest {u : State} (h : s.Worked m p t) (sessions : u.till.sessions = t.till.sessions := by rfl)
    (lanes : u.lanes = t.lanes := by rfl) (progress : u.progress = t.progress := by rfl) (lines : u.lines = t.lines := by rfl)
    (phase : u.phase = t.phase := by rfl) (result : u.startResult = t.startResult := by rfl) : s.Worked m p u :=
  h.move (.rest sessions lanes progress lines phase result) progress

theorem calm (h : s.Worked m p t) (v : Vector LineState 7) (hv : ∀ l : Line, (t.line l).Calm v[l]) :
    s.Worked m p { t with lines := v } := h.move (.calm t v hv) rfl

theorem putLine (h : s.Worked m p t) (l : Line) (x : LineState) (hx : (t.line l).Calm x) : s.Worked m p (t.putLine l x) := by
  refine h.calm _ fun k => ?_
  rw [show (t.lines.set l x)[k] = (t.putLine l x).line k from rfl, State.putLine_line]
  split
  · rename_i e; rw [e]; exact hx
  · exact .refl _

theorem raise (h : s.Worked m p t) (c : NoticeClass) (sub : Subject) : s.Worked m p (t.raise c sub) := by
  unfold State.raise
  split
  · refine h.calm _ fun l => ?_
    simp only [Fin.getElem_fin, Vector.getElem_ofFn, Fin.eta]
    split
    · unfold LineState.receive; split
      · exact .refl _
      · exact ⟨rfl, rfl, le_rfl, id⟩
    · exact .refl _
  · exact h


theorem mapCtl (h : s.Worked m p t) (q : PrinterId) (f : Controller → Controller) : s.Worked m p (t.mapCtl q f) := h.rest

theorem setPrinterState (h : s.Worked m p t) (q : PrinterId) (st : PrinterState) : s.Worked m p (t.setPrinterState q st) := by
  unfold State.setPrinterState
  dsimp only
  split
  · exact h.mapCtl q _
  · exact (h.mapCtl q _).raise _ _

theorem transmit (h : s.Worked m p t) (q : PrinterId) (op : Operation) (w : Purpose) : s.Worked m p (t.transmit q op w) :=
  h.mapCtl q _

theorem sendOp (h : s.Worked m p t) (q : PrinterId) (op : Operation) (w : Purpose) : s.Worked m p (t.sendOp q op w) := by
  unfold State.sendOp
  split
  · exact h.transmit q op w
  · exact h.mapCtl q _

theorem endDeferred (h : s.Worked m p t) (status : Status) (fields : List Byte) : s.Worked m p (t.endDeferred status fields) := by
  unfold State.endDeferred
  split
  · exact h
  · rename_i d hd
    simp only [State.queueReply, State.putLine_putLine, State.putLine_line, if_true]
    exact h.putLine _ _ ⟨rfl, rfl, by simp [LineState.owed, hd], fun _ => rfl⟩

theorem handOver (h : s.Worked m p t) (o : Outcome) : s.Worked m p (t.handOver o) := h.move (.handOver t o) (t.handOver_progress o)

/-! ## Fault entries -/

theorem setEntries (h : s.Worked m p t) (es : List FaultEntry) : s.Worked m p (t.setEntries es) := by
  unfold State.setEntries
  split
  · exact h
  · exact h.rest

theorem enterFault (h : s.Worked m p t) (q : PrinterId) (kind : FaultKind) (strip : Option StripRead) :
    s.Worked m p (t.enterFault q kind strip) := by
  unfold State.enterFault
  split
  · exact (h.rest (u := t.putLog _)).raise _ _
  · dsimp only
    split
    · exact (h.setEntries _).raise _ _
    · exact h.setEntries _

theorem clearEntry (h : s.Worked m p t) (q : PrinterId) : s.Worked m p (t.clearEntry q) := by
  unfold State.clearEntry
  split
  · exact h
  · exact (h.setEntries _).raise _ _

theorem hold (h : s.Worked m p t) (q : PrinterId) (kind : FaultKind) (strip : Option StripRead) :
    s.Worked m p (t.hold q kind strip) := (h.setPrinterState q _).enterFault q kind strip

theorem clearFault (h : s.Worked m p t) (q : PrinterId) : s.Worked m p (t.clearFault q) := by
  have h1 := h.mapCtl q fun c => { c with faultOpen := false, linkLost := false }
  unfold State.clearFault
  dsimp only
  split <;> split
  · exact h1.setPrinterState q _
  · exact h1
  · exact (h1.clearEntry q).setPrinterState q _
  · exact h1.clearEntry q

theorem liftOffline (h : s.Worked m p t) (q : PrinterId) : s.Worked m p (t.liftOffline q) := by
  unfold State.liftOffline
  split
  · exact h.sendOp q _ _
  · exact h

/-! ## Records, and the job in progress -/

theorem noteRecords (h : s.Worked m p t) : s.Worked m p t.noteRecords := by
  unfold State.noteRecords
  dsimp only
  split
  · exact (h.rest (u := t.putStock _)).raise _ _
  · exact h.rest

/-- The job in progress is written anew, its charge as it was, and not SUSPENDED with its mark unless it was so. -/
theorem putJob (h : s.Worked m p t) {g x : Progress} (hg : t.inProgress p = some g) (same : g.job.SameDue x.job)
    (hx : m → g.job.state = .suspended ∧ g.job.abortMark = true ∨ (x.job.state = .suspended → x.job.abortMark = false)) :
    s.Worked m p (t.putProgress p (some x)) := by
  refine ⟨h.works.trans (.work t g x hg same), fun hm hs y hy hst => ?_⟩
  rw [State.putProgress_inProgress, if_pos rfl] at hy
  obtain rfl := Option.some.inj hy
  rcases hx hm with ⟨hs', hmark⟩ | hx
  · rw [h.marks hm hs g hg hs'] at hmark; cases hmark
  · exact hx hst

/-- The job in progress is written anew with its charge, its state and its mark. -/
theorem keepJob (h : s.Worked m p t) {g x : Progress} (hg : t.inProgress p = some g) (same : g.job.SameDue x.job)
    (hst : x.job.state = g.job.state) (hmark : x.job.abortMark = g.job.abortMark) : s.Worked m p (t.putProgress p (some x)) :=
  h.putJob hg same fun _ => by rw [hst, hmark]; cases g.job.state <;> cases g.job.abortMark <;> simp

theorem mapJob (h : s.Worked m p t) (f : Job → Job) (hf : ∀ j : Job, j.SameDue (f j))
    (hm : m → ∀ j, (f j).state = j.state ∧ (f j).abortMark = j.abortMark ∨ (f j).state ≠ .suspended) :
    s.Worked m p (t.mapJob p f) := by
  unfold State.mapJob
  split
  · exact h
  · rename_i g hg
    refine h.putJob hg (hf g.job) fun hm' => ?_
    rcases hm hm' g.job with ⟨h1, h2⟩ | h1
    · dsimp only; rw [h1, h2]; cases g.job.state <;> cases g.job.abortMark <;> simp
    · exact .inr fun h2 => absurd h2 h1

theorem markForm (h : s.Worked m p t) (b : Bool) : s.Worked m p (t.markForm p b) := by
  unfold State.markForm
  split
  · exact h
  · rename_i g hg; exact h.keepJob hg ⟨rfl, rfl, rfl⟩ rfl rfl

/-- The job is SUSPENDED: while it is held to its marks, one without a mark (R93, R100). -/
theorem suspend (h : s.Worked m p t) (hm : m → ∀ g, t.inProgress p = some g → g.job.abortMark = false) :
    s.Worked m p (t.suspend p) := by
  refine markForm ?_ false
  unfold State.mapJob
  split
  · exact h
  · rename_i g hg; exact h.putJob hg ⟨rfl, rfl, rfl⟩ fun hm' => .inr fun _ => hm hm' g hg

theorem addJobRecord (h : s.Worked m p t) (slot : Slot) (first span : Nat) (reason : Reason) :
    s.Worked m p (t.addJobRecord p slot first span reason) := by
  unfold State.addJobRecord
  split
  · exact h
  · dsimp only
    exact noteRecords (mapJob h.rest _ (fun _ => ⟨rfl, rfl, rfl⟩) fun _ _ => .inl ⟨rfl, rfl⟩)

theorem moveCursor (h : s.Worked m p t) (slot : Slot) (serial : Nat) : s.Worked m p (t.moveCursor slot serial) := by
  unfold State.moveCursor
  split
  · exact h
  · split
    · dsimp only
      split
      · exact (h.rest (u := t.putPack slot _)).raise _ _
      · exact h.rest
    · exact h

theorem countKind (h : s.Worked m p t) (n : SessionId) (k : Kind) (f : KindCounters → KindCounters) :
    s.Worked m p (t.countKind n k f) := h.move (.count t n k f) rfl

theorem failForm (h : s.Worked m p t) (slot : Slot) (first span : Nat) (reason : Reason) :
    s.Worked m p (t.failForm p slot first span reason) := by
  unfold State.failForm
  split
  · exact h
  · exact (((h.addJobRecord slot first span reason).moveCursor slot _).countKind _ _ _).mapJob _ (fun _ => ⟨rfl, rfl, rfl⟩)
      fun _ _ => .inl ⟨rfl, rfl⟩

theorem undoCoupons (n : SessionId) (k : Kind) (cs : List Coupon) : ∀ {t : State}, s.Worked m p t →
    s.Worked m p (t.undoCoupons p n k cs) := by
  induction cs with
  | nil => exact fun h => h
  | cons c cs ih => exact fun h => ih ((h.addJobRecord _ _ _ _).countKind _ _ _)

theorem loseForm (h : s.Worked m p t) : s.Worked m p (t.loseForm p) := by
  unfold State.loseForm
  split
  · split
    · exact ((h.addJobRecord _ _ _ _).moveCursor _ _).countKind _ _ _
    · exact h
  · exact h

theorem formsUndone (h : s.Worked m p t) (g : Progress) (r : JobResult) : s.Worked m p (t.formsUndone p g r) := by
  unfold State.formsUndone
  split
  · exact (undoCoupons _ _ _ h).loseForm
  · exact undoCoupons _ _ _ h

/-! ## The ends of a job -/

/-- A move by which the job in progress is gone leaves no mark. -/
theorem gone {u : State} (h : s.Worked False p t) (w : t.Works p u) (hu : u.inProgress p = none) : s.Worked m p u :=
  ⟨h.works.trans w, fun _ _ => .of_none hu⟩

theorem notedLow (h : s.Worked m p t) (b : Bool) : s.Worked m p (t.notedLow b) := by
  rcases State.notedLow_cases (u := t) (b := b) with e | e <;> rw [e]
  · exact h.raise _ _
  · exact h

theorem ended (h : s.Worked False p t) {g : Progress} {j : Job} (hg : t.inProgress p = some g) (same : g.job.SameDue j) (r : JobResult) :
    s.Worked m p (t.ended p j r) := by
  have hd : (t.releaseCharge j).inProgress p = some g := hg
  have h1 : s.Worked m p ((t.releaseCharge j).putProgress p none) := h.gone (.released t g j hg same) (by simp)
  unfold State.ended
  rw [dropJob_eq hd]
  exact (((h1.rest (u := ((t.releaseCharge j).putProgress p none).putStock _)).notedLow _).handOver _).raise _ _

/-- A job that ends unsettled takes its mark along, whether or not it was held to it (R95, R100). -/
theorem endJob_some (h : s.Worked False p t) (r : JobResult) {g : Progress} (hg : t.inProgress p = some g) :
    s.Worked m p (t.endJob p r) := by
  rw [endJob_eq hg]
  exact ended (h.formsUndone g r) (formsUndone_recorded hg r).1.job ⟨rfl, rfl, rfl⟩ r

theorem endJob (h : s.Worked m p t) (r : JobResult) : s.Worked m p (t.endJob p r) := by
  cases hg : t.inProgress p with
  | none => rw [show t.endJob p r = t by simp [State.endJob, hg]]; exact h
  | some g => exact h.freed.endJob_some r hg

/-- The abort boundary: a marked job ends here (R95, R100). -/
theorem endAtBoundary (h : s.Worked False p t) : s.Worked m p (t.endAtBoundary p) := by
  unfold State.endAtBoundary
  split
  · rename_i hg; exact ⟨h.works, fun _ _ => .of_none hg⟩
  · rename_i g hg
    split
    · exact h.endJob_some _ hg
    · split
      · exact h.endJob_some _ hg
      · rename_i hmark
        refine ⟨h.works, fun _ _ x hx _ => ?_⟩
        rw [hg] at hx
        obtain rfl := Option.some.inj hx
        exact Bool.eq_false_iff.mpr hmark

/-! ## Faults and holds: a stop meets the abort boundary -/

theorem spoilForm (h : s.Worked m p t) : s.Worked m p (t.spoilForm p) := by
  unfold State.spoilForm
  split
  · split
    · exact (h.failForm _ _ _ _).mapCtl p _
    · exact h
  · exact h

theorem faultLoad (h : s.Worked m p t) : s.Worked m p (t.faultLoad p) := by
  unfold State.faultLoad
  split
  · exact h
  · exact (h.mapCtl p _).endDeferred _ _

theorem faultShows (h : s.Worked m p t) (k : FaultKind) (hm : m → t.midForm p = false) : s.Worked m p (t.faultShows p k) := by
  have h1 : s.Worked m p (t.faultSuspends p) := by
    unfold State.faultSuspends
    split
    · rename_i hmid
      have hno : ¬m := fun hm' => by rw [hm hm'] at hmid; cases hmid
      exact h.spoilForm.suspend fun hm' => absurd hm' hno
    · exact h
  unfold State.faultShows
  dsimp only
  split
  · exact h1.mapCtl p _
  · exact (h1.mapCtl p _).setPrinterState p _

theorem physicalFault (h : s.Worked m p t) (k : FaultKind) : s.Worked m p (t.physicalFault p k) := by
  rw [physicalFault_eq]
  refine faultLoad ?_
  split
  · exact ((h.freed.faultShows k False.elim).enterFault p k none).endAtBoundary
  · rename_i hmid
    exact (h.faultShows k fun _ => Bool.eq_false_iff.mpr hmid).enterFault p k none

theorem strangeForm (h : s.Worked m p t) (kind : FaultKind) (x : StripRead) : s.Worked m p (t.strangeForm p kind x).1 :=
  endAtBoundary (hold (suspend (mapCtl h.freed p _) False.elim) p kind _)

theorem unreadableForm (h : s.Worked m p t) (slot : Slot) (n : Nat) : s.Worked m p (t.unreadableForm p slot n).1 :=
  (h.freed.failForm slot n 1 .unreadable).endAtBoundary

theorem gapForm (h : s.Worked m p t) (slot : Slot) (x : StripRead) : s.Worked m p (t.gapForm p slot x).1 := by
  have h1 := (h.freed.failForm slot x.expected (x.serial - x.expected) .skipped).mapCtl p fun c => { c with position := .verified }
  refine endAtBoundary (hold ?_ p _ _)
  split
  · split
    · exact h1.endJob _
    · exact h1.suspend False.elim
  · exact h1

theorem physicalFaults (ks : List FaultKind) : ∀ {t : State}, s.Worked m p t →
    s.Worked m p (ks.foldl (fun t k => t.physicalFault p k) t) := by
  induction ks with
  | nil => exact fun h => h
  | cons k ks ih => exact fun h => ih (h.physicalFault k)

/-! ## The settle -/

theorem updated (h : s.Worked m p t) (n : SessionId) (before : DrawerState) : s.Worked m p (t.drawerNoticed n before) := by
  unfold State.drawerNoticed
  split
  · exact h
  · split
    · exact h.raise _ _
    · exact h.raise _ _
    · exact h

theorem drawerNoticed_putProgress (t : State) (n : SessionId) (before : DrawerState) (x : Option Progress) :
    (t.drawerNoticed n before).putProgress p x = (t.putProgress p x).drawerNoticed n before := by
  by_cases hd : (t.session n).drawer = before
  · simp only [State.drawerNoticed, State.putProgress_session, hd, if_true]
  · simp only [State.drawerNoticed, State.putProgress_session, hd, if_false]
    cases (t.session n).drawer <;> simp only [State.raise_putProgress]

theorem settleTill_gone (t : State) (j : Job) : (t.settleTill j).putProgress p none =
    let u := (t.putSession j.session (t.settledSession j)).putProgress p none
    if j.tender = .cash then (u.drawerNoticed j.session (t.session j.session).drawer).putDrawer j.session true else u := by
  rw [settleTill_eq]
  by_cases ht : j.tender = .cash
  · simp only [if_pos ht, State.settledSession]
    rw [← drawerNoticed_putProgress]
    rfl
  · simp only [ht, if_false, State.settledSession]; rfl

theorem settleJob (h : s.Worked m p t) : s.Worked m p (t.settleJob p) := by
  unfold State.settleJob
  split
  · exact h
  · rename_i g hg
    have hu : (t.settleTill g.job).inProgress p = some g := (inProgress_of_progress (t.settleTill_progress g.job) p).trans hg
    have h1 : s.Worked m p ((t.settleTill g.job).putProgress p none) := by
      have h2 : s.Worked m p ((t.putSession g.job.session (t.settledSession g.job)).putProgress p none) :=
        h.freed.gone (.settled t g hg) (by simp)
      rw [settleTill_gone]
      dsimp only
      split
      · exact rest (h2.updated _ _)
      · exact h2
    rw [dropJob_eq hu]
    exact raise (handOver (notedLow (rest h1) _) _) _ _

theorem couponEjected (h : s.Worked m p t) : s.Worked m p (t.couponEjected p).1 := by
  unfold State.couponEjected
  split
  · rename_i g slot k hg hk
    have h1 := (h.moveCursor slot (k.cursor + 1)).countKind g.job.session g.job.kind fun c => { c with issued := bump c.issued 1 }
    have hg1 : ((t.moveCursor slot (k.cursor + 1)).countKind g.job.session g.job.kind
        fun c => { c with issued := bump c.issued 1 }).inProgress p = some g :=
      (inProgress_of_progress (by simp) p).trans hg
    have h2 := (h1.keepJob (x := ⟨{ g.job with printed := g.job.printed ++ [⟨slot, k.cursor⟩] }, false⟩) hg1 ⟨rfl, rfl, rfl⟩ rfl
      rfl).mapCtl p fun c => { c with position := .none, expansion := [], linesSent := 0 }
    dsimp only
    split
    · exact h2
    · exact h2.settleJob.setPrinterState p _
  · exact h

/-! ## Loads and resets -/

theorem showLoad (h : s.Worked m p t) (g : Load) (st : PrinterState) : s.Worked m p (t.showLoad p g st) := by
  unfold State.showLoad
  split
  · exact h.setPrinterState p st
  · exact h

theorem loadStep (h : s.Worked m p t) : s.Worked m p (t.loadStep p) := by
  unfold State.loadStep
  split
  · exact h
  · split
    · exact (h.showLoad _ _).sendOp p _ _
    · exact (h.showLoad _ _).sendOp p _ _

theorem returnFromLoad (h : s.Worked m p t) (g : Load) : s.Worked m p (t.returnFromLoad p g) := by
  have h1 := h.mapCtl p fun c => { c with load := none }
  unfold State.returnFromLoad
  dsimp only
  split
  · exact h1.setPrinterState p _
  · exact h1.liftOffline p
  · exact h1

theorem mismatchLoad (h : s.Worked m p t) (g : Load) (detail : Nat) (letter1 letter2 : Byte) (serial : Nat) :
    s.Worked m p (t.mismatchLoad p g detail letter1 letter2 serial) := (h.returnFromLoad g).endDeferred _ _

theorem endNoPack (h : s.Worked m p t) : s.Worked m p (t.endNoPack p) := by
  unfold State.endNoPack
  split
  · exact h
  · split
    · dsimp only
      split
      · exact h.mapCtl p _
      · exact (h.mapCtl p _).clearEntry p
    · exact h

theorem verifyLoad (h : s.Worked m p t) (g : Load) (k : Pack) : s.Worked m p (t.verifyLoad p g k) := by
  have h1 := (h.rest (u := (t.putPack g.slot (some { k with state := .loaded, location := some p })).putLoaded p
    (some g.slot))).mapCtl p fun c => { c with load := none, position := .verified }
  unfold State.verifyLoad
  refine raise (endDeferred ?_ _ _) _ _
  split
  · exact h1.endNoPack.liftOffline p
  · exact h1.endNoPack.setPrinterState p _

theorem abortLoad (h : s.Worked m p t) : s.Worked m p (t.abortLoad p) := by
  unfold State.abortLoad
  split
  · exact h
  · exact returnFromLoad (h.mapCtl p _) _

theorem beginLoad (h : s.Worked m p t) (slot : Slot) : s.Worked m p (t.beginLoad p slot) := by
  unfold State.beginLoad
  dsimp only
  split
  · exact loadStep (h.mapCtl p _)
  · exact mapCtl (showLoad (h.mapCtl p _) _ _) p _

theorem finishReset (h : s.Worked m p t) : s.Worked m p (t.finishReset p) := by
  unfold State.finishReset
  split
  · exact (h.mapCtl p _).endDeferred _ _
  · exact h

/-! ## Sensor sets and frames -/

theorem judgeSet (h : s.Worked m p t) (x : Sensors) (clears : Bool) : s.Worked m p (t.judgeSet p x clears) := by
  have h1 := physicalFaults (arisings (t.ctl p).sensors x) (h.mapCtl p fun c => { c with sensors := some x })
  unfold State.judgeSet
  dsimp only
  split
  · exact h1.clearFault p
  · exact h1

theorem endAbsent (h : s.Worked m p t) (content : FrameContent) : s.Worked m p (t.endAbsent p content) := by
  cases content with
  | other => exact h
  | refusal why => exact (h.physicalFault _).finishReset
  | sensors x =>
    have h1 := h.mapCtl p fun c => { c with sensors := some x }
    unfold State.endAbsent
    dsimp only
    split
    · exact (h1.setPrinterState p _).finishReset
    · exact (physicalFaults _ h1).finishReset

theorem heard (h : s.Worked m p t) (content : FrameContent) (clears : Bool) : s.Worked m p (t.heard p content clears) := by
  unfold State.heard
  split
  · exact h.endAbsent content
  · cases content with
    | other => exact h
    | refusal why => exact h.physicalFault _
    | sensors x => exact h.judgeSet x clears

theorem frameSetAside (h : s.Worked m p t) (content : FrameContent) : s.Worked m p (t.frameSetAside p content) := by
  have h1 := h.mapCtl p fun c => { c with linkLost := false }
  unfold State.frameSetAside
  dsimp only
  split
  · exact h1.heard content true
  · exact h1

theorem sensorFrame (h : s.Worked m p t) (x : Sensors) : s.Worked m p (t.sensorFrame p x) :=
  (h.mapCtl p fun c => { c with linkLost := false }).heard _ true

/-! ## The coupon loop -/

theorem nextLine (h : s.Worked m p t) : s.Worked m p (t.nextLine p) := by
  unfold State.nextLine
  split
  · exact sendOp (setPrinterState (h.mapCtl p _) p _) p _ _
  · exact sendOp (h.setPrinterState p _) p _ _

theorem formVerified (h : s.Worked m p t) : s.Worked m p (t.formVerified p) := by
  unfold State.formVerified
  split
  · rename_i g slot x hg hx
    split
    · exact (h.endJob _).setPrinterState p _
    · refine nextLine (mapCtl (h.keepJob hg ?_ ?_ ?_) p _)
      exacts [⟨rfl, rfl, rfl⟩, rfl, rfl]
  · exact h

theorem feed (h : s.Worked m p t) (kind : FormKind) : s.Worked m p (t.feed p kind) :=
  sendOp (setPrinterState (h.mapCtl p _) p _) p _ _

theorem readForm (h : s.Worked m p t) (kind : FormKind) : s.Worked m p (t.readForm p kind) :=
  sendOp (setPrinterState (h.mapCtl p _) p _) p _ _

theorem positionForm (h : s.Worked m p t) : s.Worked m p (t.positionForm p) := by
  have h1 := h.mapCtl p fun c => { c with usedAdvances := 0 }
  unfold State.positionForm
  dsimp only
  split
  · exact h1.formVerified
  · exact h1.feed _
  · exact h1.readForm _

theorem startPass (h : s.Worked m p t) : s.Worked m p (t.startPass p) := by
  unfold State.startPass
  split
  · exact h
  · rename_i g hg
    split
    · exact (h.endJob _).setPrinterState p _
    · rename_i hmark
      split
      · refine (h.suspend fun _ x hx => ?_).hold p _ _
        rw [hg] at hx
        obtain rfl := Option.some.inj hx
        exact Bool.eq_false_iff.mpr hmark
      · split
        · exact (h.setPrinterState p _).sendOp p _ _
        · exact h.positionForm

theorem beginLoop (h : s.Worked m p t) : s.Worked m p (t.beginLoop p) := by
  unfold State.beginLoop
  split
  · exact h.startPass
  · exact mapCtl (h.setPrinterState p _) p _

theorem settled (h : s.Worked m p t) : s.Worked m p (t.settled p) := by
  have h1 := h.mapCtl p fun c => { c with settling := false }
  unfold State.settled
  dsimp only
  split
  · exact h1.loadStep
  · exact h1.positionForm

theorem goOn (h : s.Worked m p t) (next : NextStep) : s.Worked m p (t.goOn p next) := by
  cases next with
  | nothing => exact h
  | pass => exact h.startPass
  | settle =>
    unfold State.goOn
    dsimp only
    split
    · exact h.settled
    · exact h.mapCtl p _
  | readForm => exact h.readForm _
  | readAgain => exact h.sendOp p _ _
  | verified => exact h.formVerified
  | line => exact h.nextLine
  | feed kind => exact h.feed kind
  | waste => exact (h.setPrinterState p _).sendOp p _ _
  | load => exact h.loadStep

theorem drain (n : Nat) : ∀ {t : State}, s.Worked m p t → s.Worked m p (t.drain p n) := by
  induction n with
  | zero => exact fun h => h
  | succ n ih =>
    intro t h
    unfold State.drain
    split
    · rename_i w rest _ _
      have h1 := h.mapCtl p fun c => { c with waiting := rest }
      cases w with
      | loopStart => exact ih h1.startPass
      | loadStep => exact ih h1.loadStep
      | op op purpose => exact ih (h1.transmit p op purpose)
    · exact h

theorem opEnded (h : s.Worked m p t) : s.Worked m p (t.opEnded p) := drain _ h

/-! ## Results of answers -/

theorem engaged (h : s.Worked m p t) (w : Purpose) : s.Worked m p (t.engaged p w).1 := by
  unfold State.engaged
  split
  · exact h.mapCtl p fun c => { c with head := .engaged }
  · exact h

theorem lifted (h : s.Worked m p t) : s.Worked m p (t.lifted p).1 := h.mapCtl p fun c => { c with head := .lifted }

theorem wasteEjected (h : s.Worked m p t) : s.Worked m p (t.wasteEjected p).1 := by
  have h1 := h.mapCtl p fun c => { c with position := .none }
  unfold State.wasteEjected
  dsimp only
  split
  · exact h1
  · exact h1.setPrinterState p _

theorem ejected (h : s.Worked m p t) (w : Purpose) : s.Worked m p (t.ejected p w).1 := by
  unfold State.ejected
  split
  · exact h.couponEjected
  · exact h.wasteEjected
  · exact h

theorem serialRead (h : s.Worked m p t) (slot : Slot) (k : Pack) (x : StripRead) : s.Worked m p (t.serialRead p slot k x).1 := by
  unfold State.serialRead
  split
  · exact h.mapCtl p fun c => { c with position := .verified }
  · split
    · split
      · exact h.mapCtl p fun c => { c with usedAdvances := c.usedAdvances + 1 }
      · exact h.strangeForm _ _
    · split
      · exact h.gapForm _ _
      · exact h.strangeForm _ _

theorem badStrip (h : s.Worked m p t) (slot : Slot) (k : Pack) : s.Worked m p (t.badStrip p slot k).1 := by
  unfold State.badStrip
  split
  · exact h.mapCtl p fun c => { c with badReads := c.badReads + 1 }
  · split
    · exact h.unreadableForm _ _
    · exact h

theorem loopStrip (h : s.Worked m p t) (a : StripAnswer) : s.Worked m p (t.loopStrip p a).1 := by
  unfold State.loopStrip
  split
  · cases a with
    | noForm _ => exact h.physicalFault _
    | strip good letter1 letter2 serial _ =>
      dsimp only
      split
      · exact h.badStrip _ _
      · split
        · exact h.strangeForm _ _
        · exact h.serialRead _ _ _
    | refused _ => exact h
  · exact h

theorem loadStrip (h : s.Worked m p t) (a : StripAnswer) : s.Worked m p (t.loadStrip p a).1 := by
  unfold State.loadStrip
  split
  · exact h
  · rename_i g _
    split
    · split
      · split
        · exact h.mapCtl p fun c => { c with load := some { g with badReads := g.badReads + 1 } }
        · exact h.mismatchLoad _ _ _ _ _
      · split
        · exact h.verifyLoad _ _
        · exact h.mismatchLoad _ _ _ _ _
    · exact h.mismatchLoad _ _ _ _ _
    · exact h

theorem stripRead (h : s.Worked m p t) (a : StripAnswer) (w : Purpose) : s.Worked m p (t.stripRead p a w).1 := by
  unfold State.stripRead
  split
  · exact h.loopStrip a
  · exact h.loadStrip a
  · exact h

theorem takeAnswer (h : s.Worked m p t) (o : Outstanding) (content : FrameContent) (result : State → State × NextStep)
    (hr : ∀ u, s.Worked m p u → s.Worked m p (result u).1) : s.Worked m p (t.takeAnswer p o content result) := by
  have h1 := h.mapCtl p fun c => { c with outstanding := none, missed := 0, linkLost := false }
  refine opEnded ?_
  cases content with
  | sensors x =>
    dsimp only
    split
    · exact ((hr _ h1).heard _ _).goOn _
    · exact (hr _ h1).heard _ _
  | refusal why => exact h1.heard _ true
  | other => exact h1.heard _ true

theorem answerTo (h : s.Worked m p t) (op : Operation) (content : FrameContent) (result : Purpose → State → State × NextStep)
    (hr : ∀ w u, s.Worked m p u → s.Worked m p (result w u).1) : s.Worked m p (t.answerTo p op content result) := by
  unfold State.answerTo
  split
  · split
    · exact h.takeAnswer _ content _ (hr _)
    · exact h.frameSetAside content
  · exact h.frameSetAside content

/-! ## Timers -/

theorem deadline (h : s.Worked m p t) : s.Worked m p (t.deadline p) := by
  have h1 := h.mapCtl p fun c => { c with outstanding := none, missed := 0 }
  unfold State.deadline
  split
  · exact h
  · split
    · exact h
    · split
      · exact h1.opEnded
      · split
        · exact h.mapCtl p _
        · exact (h1.physicalFault _).opEnded

theorem enquire (h : s.Worked m p t) : s.Worked m p (t.enquire p) := by
  unfold State.enquire
  split
  · exact h.sendOp p _ _
  · exact h

theorem settleEnds (h : s.Worked m p t) : s.Worked m p (t.settleEnds p) := by
  unfold State.settleEnds
  split
  · exact h.settled
  · exact h

theorem idleLiftEnds (h : s.Worked m p t) : s.Worked m p (t.idleLiftEnds p) := by
  unfold State.idleLiftEnds
  split
  · exact (h.mapCtl p _).sendOp p _ _
  · exact h

theorem resetWaitEvent (h : s.Worked m p t) (w : Bool) : s.Worked m p (t.resetWaitEvent p w) := by
  unfold State.resetWaitEvent
  split
  · split
    · exact h.finishReset
    · exact h.transmit p _ _
  · exact h

/-! ## The arbiter -/

theorem admitted (h : s.Worked m p t) (j : Job) (rest : Lanes) (hn : t.inProgress p = none) (hl : (t.lane p).HeadIs j rest) :
    s.Worked m p (t.admitted p j rest) := by
  have h1 : s.Worked m p ((t.putLane p rest).putProgress p (some ⟨{ j with state := .printing, reservation := 6 }, false⟩)) := by
    refine ⟨h.works.trans (.admitted t j _ rest hn hl ⟨rfl, rfl, rfl⟩), fun _ _ g hg hst => ?_⟩
    rw [State.putProgress_inProgress, if_pos rfl] at hg
    obtain rfl := Option.some.inj hg
    cases hst
  exact noteRecords (h1.rest (u := ((t.putLane p rest).putStock
    { t.stock with reservation := t.stock.reservation + 6 }).putProgress p _))

theorem offer (h : s.Worked m p t) (j : Job) (rest : Lanes) (hn : t.inProgress p = none) (hl : (t.lane p).HeadIs j rest) :
    s.Worked m p (t.offer p j rest) := by
  unfold State.offer
  split
  · exact h.hold p _ _
  · split
    · exact h
    · exact (h.admitted j rest hn hl).beginLoop

theorem arbiter (h : s.Worked m p t) : s.Worked m p (t.arbiter p) := by
  unfold State.arbiter
  split
  · exact h
  · split
    · split
      · exact h
      · split
        · exact h.hold p _ _
        · exact beginLoop (h.mapJob _ (fun _ => ⟨rfl, rfl, rfl⟩) fun _ _ => .inr (by simp))
    · rename_i hn
      split
      · rename_i _ j rest ho
        exact h.offer j ⟨rest, (t.lane p).window⟩ hn (.inl ⟨ho, rfl⟩)
      · rename_i j rest ho hw
        exact h.offer j ⟨[], rest⟩ hn (.inr ⟨ho, rfl, hw⟩)
      · exact h

/-! ## Printer requests -/

theorem resetPrinter (h : s.Worked m p t) : s.Worked m p (t.resetPrinter p) :=
  sendOp (setPrinterState (mapCtl (clearEntry (h.endJob _) p) p _) p _) p _ _

end State.Worked
end Sys2Proof.Machine

/-! # Invariants of the printers' work

What the printers' work keeps, every event of a printer keeps. -/

namespace Sys2Proof.Machine

open Sys2Proof Sys2Proof.Machine

theorem LineState.pump_calm (ln : LineState) (r : StartResult) : ln.Calm (ln.pump r) := by
  unfold LineState.pump
  split
  · exact .refl _
  · split
    · rename_i h; exact ⟨rfl, rfl, by simp [LineState.owed, h], id⟩
    · split
      · split
        · exact ⟨rfl, rfl, le_rfl, id⟩
        · exact ⟨rfl, rfl, le_rfl, id⟩
      · exact .refl _

/-- Two states with the sessions, the lanes and the jobs in progress of one. -/
structure State.SameJobs (s t : State) : Prop where
  sessions : t.till.sessions = s.till.sessions
  lanes : t.lanes = s.lanes
  progress : t.progress = s.progress

/-- `P` is kept by work done on any printer, done while the printers run if it is work on the jobs. -/
def WorkClosed (P : State → Prop) : Prop :=
  ∀ p s t, State.Worked True p s t → s.printersRun = true ∨ s.SameJobs t → P s → P t

theorem State.Works.phase {p : PrinterId} {s t : State} (w : s.Works p t) : t.phase = s.phase := by
  induction w with
  | refl | calm | count | work | released | settled | admitted => rfl
  | trans _ _ ih1 ih2 => exact ih2.trans ih1
  | rest _ _ _ _ phase => exact phase
  | handOver s o => exact congrArg Settings.phase (s.handOver_settings o)

theorem State.printersRun_of_phase {s t : State} (h : t.phase = s.phase) : t.printersRun = s.printersRun := by
  unfold State.printersRun; rw [h]

namespace WorkClosed

variable {P : State → Prop} (k : WorkClosed P) {s : State}
include k

theorem rest {t : State} (h : P s) (sessions : t.till.sessions = s.till.sessions := by rfl) (lanes : t.lanes = s.lanes := by rfl)
    (progress : t.progress = s.progress := by rfl) (lines : t.lines = s.lines := by rfl) (phase : t.phase = s.phase := by rfl)
    (result : t.startResult = s.startResult := by rfl) : P t :=
  k 0 s t ((State.Worked.refl _ _ _).rest sessions lanes progress lines phase result) (.inr ⟨sessions, lanes, progress⟩) h

theorem pump (l : Line) (h : P s) : P (s.pump l) :=
  k 0 _ _ ((State.Worked.refl _ _ s).putLine l _ (LineState.pump_calm ..)) (.inr ⟨rfl, rfl, rfl⟩) h

theorem pumpAll (h : P s) : P s.pumpAll := by
  refine k 0 _ _ ((State.Worked.refl _ _ s).calm _ fun l => ?_) (.inr ⟨rfl, rfl, rfl⟩) h
  simp only [Fin.getElem_fin, Vector.getElem_ofFn, Fin.eta]
  exact LineState.pump_calm ..

theorem raise (c : NoticeClass) (sub : Subject) (h : P s) : P (s.raise c sub) :=
  k 0 _ _ ((State.Worked.refl _ _ s).raise c sub) (.inr ⟨by simp, by simp, by simp⟩) h

theorem frameEnded (l : Line) (h : P s) : P (s.frameEnded l) :=
  k 0 _ _ ((State.Worked.refl _ _ s).putLine l _ ⟨rfl, rfl, le_rfl, id⟩) (.inr ⟨rfl, rfl, rfl⟩) h

theorem arbiters (ps : List PrinterId) : ∀ {s : State}, s.printersRun = true → P s → P (ps.foldl (fun t p => t.arbiter p) s) := by
  induction ps with
  | nil => exact fun _ h => h
  | cons p ps ih =>
    intro s hr h
    have w : s.Worked True p (s.arbiter p) := (State.Worked.refl _ _ _).arbiter
    exact ih ((State.printersRun_of_phase w.works.phase).trans hr) (k p _ _ w (.inl hr) h)

theorem arbitrateAll (hr : s.printersRun = true) (h : P s) : P s.arbitrateAll := by
  unfold State.arbitrateAll
  split
  · exact k.arbiters (s := s.putDraws _) _ hr (k.rest h)
  · exact k.arbiters _ hr h

theorem afterEvent (hr : s.printersRun = true) (h : P s) : P s.afterEvent := k.pumpAll (k.rest (k.arbitrateAll hr h))

theorem printerEvent (p : PrinterId) (f : State → State) (hf : s.Worked True p (f s)) (h : P s) : P (s.printerEvent f) := by
  unfold State.printerEvent
  split
  · rename_i hr
    exact k.afterEvent ((State.printersRun_of_phase hf.works.phase).trans hr) (k p _ _ hf (.inl hr) h)
  · exact h

theorem takePrinterFrame (p : PrinterId) (f : PrinterFrame) (h : P s) : P (takePrinterFrame p s f) := by
  have answered : ∀ (op : Operation) (c : FrameContent) (r : Purpose → State → State × NextStep),
      (∀ w u, s.Worked True p u → s.Worked True p (r w u).1) → P (s.printerEvent fun t => t.answerTo p op c r) :=
    fun op c r hr => k.printerEvent p _ ((State.Worked.refl _ p s).answerTo op c r hr) h
  cases f with
  | engage a => exact answered _ _ (fun w u => u.engaged p w) fun w _ h => h.engaged w
  | lift a => exact answered _ _ (fun _ u => u.lifted p) fun _ _ h => h.lifted
  | advance a => exact answered _ _ (fun w u => advanced u w) fun _ _ h => h
  | readStrip a => exact answered _ _ (fun w u => u.stripRead p a w) fun w _ h => h.stripRead a w
  | printLine a => exact answered _ _ (fun w u => linePrinted u w) fun _ _ h => h
  | eject a => exact answered _ _ (fun w u => u.ejected p w) fun w _ h => h.ejected w
  | enquire a => exact answered _ _ (fun _ u => (u, .nothing)) fun _ _ h => h
  | sensorChange x => exact k.printerEvent p (fun t => t.sensorFrame p x) ((State.Worked.refl _ p s).sensorFrame x) h
  | other => exact k.printerEvent p (fun t => t.frameSetAside p .other) ((State.Worked.refl _ p s).frameSetAside _) h

theorem secondPasses (h : P s) : P s.secondPasses := by
  have h1 : P (s.runClock s.clock.tick) := k.rest h
  unfold State.secondPasses
  dsimp only
  split
  · exact k.pumpAll (k.raise _ _ h1)
  · exact h1

/-- Every event keeps `P`, if the requests, the replies of frames that are none, the halts and start-up do beside the printers'
work. -/
theorem events (takes : ∀ i s, P s → P (takeRequest i s))
    (refusal : ∀ l code status s, P s → P (s.request l code (·.pump l) (refuse · status)))
    (reject : ∀ l first s, P s → P (s.rejectFrame l first)) (frameSent : ∀ l s, P s → P (s.frameSent l))
    (pfail : ∀ s, P s → P { s.halt with pfail := true, lines := Vector.ofFn fun l => { s.halt.line l with body := [] } })
    (rst : ∀ s, P s → P { s.halt with rst := true }) (cutShort : ∀ s, P s → P { s.halt with signature := .updating })
    (startUp : ∀ straps stage s, P s → P (s.startTo straps stage)) : EventsKeep P where
  pending _ _ h := k.rest h
  receiver s l _ h := k 0 _ _ ((State.Worked.refl _ _ s).putLine l _ ⟨rfl, rfl, le_rfl, id⟩) (.inr ⟨rfl, rfl, rfl⟩) h
  printerReceiver _ _ _ h := k.rest h
  request := takes
  refusal := refusal
  reject := reject
  frameSent := frameSent
  printerFrame p f _ h := k.takePrinterFrame p f h
  setAside p c s h := k.printerEvent p (fun t => t.frameSetAside p c) ((State.Worked.refl _ p s).frameSetAside c) h
  deadline p s h := k.printerEvent p (fun t => t.deadline p) (State.Worked.refl _ p s).deadline h
  settleEnds p s h := k.printerEvent p (fun t => t.settleEnds p) (State.Worked.refl _ p s).settleEnds h
  idleLiftEnds p s h := k.printerEvent p (fun t => t.idleLiftEnds p) (State.Worked.refl _ p s).idleLiftEnds h
  enquire p s h := k.printerEvent p (fun t => t.enquire p) (State.Worked.refl _ p s).enquire h
  resetWait p w s h := k.printerEvent p (fun t => t.resetWaitEvent p w) ((State.Worked.refl _ p s).resetWaitEvent w) h
  drawer _ _ h := k.rest h
  flash _ _ h := k.rest h
  second _ h := k.secondPasses h
  pfail := pfail
  rst := rst
  signature _ _ h := k.rest h
  cutShort := cutShort
  startUp := startUp

end WorkClosed

/-! ## What serving a request can do -/

/-- The sessions that a request writes: one signed on; an entry voided; cash lifted; a session between OPEN, CASHUP and CLOSED, or its
declarations (R46, R57, R59, R156, R161, R169, R171). -/
inductive State.Rewrites (s : State) (n : SessionId) : Session → Prop
  | signedOn (clerk float : Nat) (d : DrawerState) (closed : (s.session n).state = .closed) :
      Rewrites s n { Session.signedOn clerk float s.stampNow with drawer := d }
  | voided (e : JournalEntry) (x : Session) (found : (s.session n).journal.find? (·.issue == e.issue) = some e)
      (issued : e.isVoided = false) (opened : (s.session n).state = .opened)
      (hx : (e.tender ≠ .cash ∧ x = (s.session n).voided e) ∨ (e.tender = .cash ∧ e.total ≤ (s.session n).estimate ∧
        ∃ d, x = { (s.session n).voided e with estimate := (s.session n).estimate - e.total, drawer := d })) : Rewrites s n x
  | lifted (amount : Nat) (d : DrawerState) (covered : amount ≤ (s.session n).estimate) :
      Rewrites s n { s.session n with
        liftsTotal := (s.session n).liftsTotal + amount, liftsCount := (s.session n).liftsCount + 1
        estimate := (s.session n).estimate - amount, drawer := d }
  | turned (st : SessionState) (o : Option Line) (d : Declarations)
      (h : st = .opened ∨ (s.session n).state ≠ .opened ∨ (s.session n).outstanding = 0) :
      Rewrites s n { s.session n with state := st, owner := o, declared := d }

/-- What serving a request can do: work of a printer and of the blocks that it may change; a session written; an issue accepted; a
job withdrawn, marked or diverted; an outcome list read, a body written. -/
inductive State.Serves : State → State → Prop
  | worked {s t : State} (p : PrinterId) (h : s.Worked True p t) : Serves s t
  | trans {s t u : State} : Serves s t → Serves t u → Serves s u
  | session (s : State) (n : SessionId) (x : Session) (h : s.Rewrites n x) : Serves s (s.putSession n x)
  | issued (s : State) (l : Line) (t : IssueTerms) (p : PrinterId) (opened : (s.session l).state = .opened)
      (room : s.hasRoom p l = true) : Serves s (s.acceptIssue l t p)
  | withdrawn (s : State) (n : SessionId) (issue : Nat) (p : PrinterId) (j : Job) (h : s.queuedJob n issue = some (p, j)) :
      Serves s (s.withdraw p j)
  | marked (s : State) (p : PrinterId) (g : Progress) (hg : s.inProgress p = some g) (hs : g.job.state ≠ .suspended) :
      Serves s (s.markProgress p (some { g with job := { g.job with abortMark := true } }))
  | divertedOne (s : State) (a b : PrinterId) (ne : a ≠ b) : Serves s (s.divertSuspended a b)
  | diverted (s : State) (a b : PrinterId) (ne : a ≠ b) : Serves s (s.moveLanes a b)
  | outcomesRead (s : State) (l : Line) : Serves s (s.putLine l { s.line l with outcomes := [] })
  | bodyWritten (s : State) (l : Line) (bytes : List Byte) (h : bytes.length ≤ 192) :
      Serves s (s.putLine l { s.line l with body := bytes })

namespace State.Serves

variable {s t : State}

theorem refl (s : State) : s.Serves s := .worked 0 (.refl _ _ _)

/-- Work goes on behind what was done. -/
theorem then_ {u : State} (h : s.Serves t) (p : PrinterId) (w : t.Worked True p t → t.Worked True p u) : s.Serves u :=
  h.trans (.worked p (w (.refl _ _ _)))

theorem rest {u : State} (h : s.Serves t) (sessions : u.till.sessions = t.till.sessions := by rfl)
    (lanes : u.lanes = t.lanes := by rfl) (progress : u.progress = t.progress := by rfl) (lines : u.lines = t.lines := by rfl)
    (phase : u.phase = t.phase := by rfl) (result : u.startResult = t.startResult := by rfl) : s.Serves u :=
  h.then_ 0 fun w => w.rest sessions lanes progress lines phase result

theorem raise (h : s.Serves t) (c : NoticeClass) (sub : Subject) : s.Serves (t.raise c sub) := h.then_ 0 fun w => w.raise c sub

theorem putLine (h : s.Serves t) (l : Line) (x : LineState) (hx : (t.line l).Calm x) : s.Serves (t.putLine l x) :=
  h.then_ 0 fun w => w.putLine l x hx

theorem addRecord (h : s.Serves t) (r : ExceptionRecord) : s.Serves (t.addRecord r) :=
  h.then_ 0 fun w => State.Worked.noteRecords w.rest

theorem voidRecords (n : SessionId) (cs : List Coupon) : ∀ {t : State}, s.Serves t → s.Serves (t.voidRecords n cs) := by
  induction cs with
  | nil => exact fun h => h
  | cons c cs ih => exact fun h => ih (h.addRecord _)

/-- A session is written with its estimate, and the notice of its drawer state and the pulse follow (R60, R62, R63). -/
theorem estimate (h : s.Serves t) (n : SessionId) (x : Session) (e : Nat) (before : DrawerState)
    (hx : t.Rewrites n { x with estimate := e, drawer := drawerStateOf t.till.high t.till.low e }) :
    s.Serves (((t.putSession n x).updateEstimate n e before).pulse n) := by
  rw [State.updateEstimate_eq]
  exact ((h.trans (.session t n _ hx)).then_ 0 fun w => w.updated n before).rest

end State.Serves
end Sys2Proof.Machine

namespace Sys2Proof.Machine

open Sys2Proof Sys2Proof.Machine

/-! ## The requests, each by what it can do -/

/-- A request is answered at once, in a state that serving can reach. -/
def Served.Answers (r : Served) (u : State) : Prop := r.answer.isSome = true ∧ u.Serves r.state

namespace Served.Answers

variable {u t : State}

theorem refuse (u : State) (status : Status) : (refuse u status).Answers u := ⟨rfl, .refl u⟩

theorem accept (h : u.Serves t) (fields : List Byte) : (accept t fields).Answers u := ⟨rfl, h⟩

end Served.Answers

section
variable (l : Line) (u : State)

theorem answers_readNotices : (serveReadNotices l u).Answers u :=
  .accept ((State.Serves.refl u).putLine l { u.line l with pendingSet := 0 } ⟨rfl, rfl, le_rfl, id⟩) _

theorem answers_setNoticeMask (mask : BitVec 16) : (serveSetNoticeMask l mask u).Answers u :=
  .accept ((State.Serves.refl u).putLine l { u.line l with mask := mask } ⟨rfl, rfl, le_rfl, id⟩) _

theorem answers_readOutcomes : (serveReadOutcomes l u).Answers u := .accept (.outcomesRead u l) _

theorem answers_abort : (serveAbort l u).Answers u := by
  unfold serveAbort
  split
  · exact .accept (.refl u) _
  · rename_i d _
    refine .accept ?_ _
    cases d with
    | loadPack p => exact .worked p ((State.Worked.refl _ p u).abortLoad.endDeferred _ _)
    | printerReset p => exact .worked p (((State.Worked.refl _ p u).mapCtl p _).endDeferred _ _)

theorem answers_setClock (stamp day hour : Nat) : (serveSetClock l stamp day hour u).Answers u := by
  unfold serveSetClock
  split
  · exact .refuse _ _
  · split
    · exact .refuse _ _
    · exact .accept (State.Serves.raise (State.Serves.refl u).rest _ _) _

theorem answers_signOn (clerk float : Nat) : (serveSignOn l clerk float u).Answers u := by
  unfold serveSignOn
  split
  · exact .refuse _ _
  · rename_i hc
    split
    · exact .refuse _ _
    · exact .accept ((State.Serves.refl u).estimate l _ _ _ (.signedOn clerk float _ (not_not.mp hc))) _

theorem State.voidRecords_till (n : SessionId) (cs : List Coupon) : ∀ s : State, (s.voidRecords n cs).till = s.till := by
  induction cs with
  | nil => exact fun _ => rfl
  | cons c cs ih => exact fun s => (ih _).trans (s.addRecord_till _)

theorem answers_void (issue : Nat) : (serveVoid l issue u).Answers u := by
  unfold serveVoid
  dsimp only
  split
  · exact .refuse _ _
  · exact .refuse _ _
  · rename_i ho
    split
    · exact .refuse _ _
    · split
      · exact .refuse _ _
      · rename_i e he
        split
        · exact .refuse _ _
        · rename_i hv
          split
          · exact .refuse _ _
          · split
            · exact .refuse _ _
            · rename_i hd
              have hi : e.issue = issue := by simpa using List.find?_some he
              have h1 : u.Serves (u.voidRecords l e.coupons) := State.Serves.voidRecords l _ (.refl u)
              have hs : (u.voidRecords l e.coupons).session l = u.session l :=
                congrArg (fun x : Till => x.sessions[l]) (State.voidRecords_till l e.coupons u)
              refine .accept ?_ _
              split
              · rename_i hc
                let w := u.voidRecords l e.coupons
                let d := drawerStateOf w.till.high w.till.low ((u.session l).estimate - e.total)
                refine h1.estimate l _ _ _ (.voided e _ ?_ (Bool.eq_false_iff.mpr hv) ?_ (.inr ⟨hc, ?_, d, ?_⟩))
                · rw [hs, hi]; exact he
                · rw [hs]; exact ho
                · rw [hs]; exact Nat.not_lt.mp fun h => hd ⟨hc, h⟩
                · rw [hs]
              · rename_i hc
                refine h1.trans (.session _ l _ (.voided e _ ?_ (Bool.eq_false_iff.mpr hv) ?_ (.inl ⟨hc, ?_⟩)))
                · rw [hs, hi]; exact he
                · rw [hs]; exact ho
                · rw [hs]

theorem answers_lift (session amount : Nat) : (serveLift l session amount u).Answers u := by
  unfold serveLift
  split
  · exact .refuse _ _
  · rename_i n _
    dsimp only
    split
    · exact .refuse _ _
    · split
      · exact .refuse _ _
      · exact .refuse _ _
      · split
        · exact .refuse _ _
        · rename_i hc
          split
          · exact .refuse _ _
          · exact .accept ((State.Serves.refl u).estimate n _ _ _ (.lifted amount _ (Nat.not_lt.mp hc))) _

theorem answers_setThresholds (high low : Nat) : (serveSetThresholds l high low u).Answers u := by
  unfold serveSetThresholds
  split
  · exact .refuse _ _
  · exact .accept (State.Serves.refl u).rest _

theorem answers_readTill (session : Nat) : (serveReadTill l session u).Answers u := by
  unfold serveReadTill
  split
  · exact .refuse _ _
  · exact .accept (.refl u) _

theorem answers_readJournal (session position : Nat) : (serveReadJournal l session position u).Answers u := by
  unfold serveReadJournal
  split
  · exact .refuse _ _
  · dsimp only
    split
    · exact .refuse _ _
    · split
      · exact .refuse _ _
      · split
        · exact .refuse _ _
        · exact .accept (.refl u) _

theorem answers_writeBody (bytes : List Byte) : (serveWriteBody l bytes u).Answers u := by
  unfold serveWriteBody
  split
  · exact .refuse _ _
  · rename_i h; exact .accept (.bodyWritten u l bytes (Nat.not_lt.mp h)) _

/-! ### The queue -/

theorem find?_snd_of_mem {α : Type} {xs : List (α × Bool)} {x : α × Bool} (h : xs.find? (·.2) = some x) : x.2 = true ∧ x ∈ xs :=
  ⟨by simpa using List.find?_some h, List.mem_of_find?_eq_some h⟩

/-- Routing finds room in the lane that the job joins (R86, R88). -/
theorem route_hasRoom {s : State} {l : Line} {kind passengers base index tender coupons : Nat} {named : Option Nat}
    {text : List Byte} {t : IssueTerms} {p : PrinterId}
    (ht : s.issueTerms l kind passengers base index tender coupons named text = some t) (hp : s.route l t = .ok p) :
    s.hasRoom p l = true := by
  have hpr : namedPrinter l named = some t.printer := by
    unfold State.issueTerms at ht
    split at ht
    · rename_i hn
      split at ht
      · split at ht
        · obtain rfl := Option.some.inj ht; exact hn
        · cases ht
      · cases ht
    · cases ht
  unfold State.route at hp
  unfold State.hasRoom
  by_cases hl : l = officeLine
  · rw [if_pos hl]
    split at hp
    · unfold State.routeOffice at hp
      split at hp
      · rename_i h
        obtain rfl : _ = p := by injection hp
        exact (Bool.and_eq_true _ _ ▸ h).2
      · split at hp <;> cases hp
    · rename_i hnone
      rw [hnone] at hpr
      unfold namedPrinter at hpr
      rw [if_pos hl] at hpr
      split at hpr
      · cases hx : printerOf _ <;> rw [hx] at hpr <;> cases hpr
      · cases hpr
  · rw [if_neg hl]
    split at hp
    · rename_i q hq
      rw [hq] at hpr
      unfold namedPrinter at hpr
      rw [if_neg hl] at hpr
      cases hpr
    · split at hp
      · unfold State.routeWindow at hp
        split at hp
        · rename_i q b hf
          obtain rfl : q = p := by injection hp
          obtain ⟨hb, hm⟩ := find?_snd_of_mem hf
          dsimp only at hb
          subst hb
          have test : ∀ (e : Option PrinterId) (f : PrinterId → Bool),
              ((some q, true) : Option PrinterId × Bool) = (e, match e with | some q => f q && s.windowRoom q | none => false) →
              s.windowRoom q = true := by
            intro e f he
            obtain ⟨rfl, h2⟩ := Prod.mk.inj he
            exact (Bool.and_eq_true _ _ ▸ h2.symm).2
          simp only [State.windowTests, List.mem_cons, List.not_mem_nil, or_false] at hm
          rcases hm with hm | hm | hm | hm <;> exact test _ _ hm
        · split at hp <;> cases hp
      · cases hp

theorem answers_issue (kind passengers base index tender coupons : Nat) (named : Option Nat) (text : List Byte) :
    (serveIssue l kind passengers base index tender coupons named text u).Answers u := by
  unfold serveIssue
  split
  · exact .refuse _ _
  · dsimp only
    split
    · exact .refuse _ _
    · exact .refuse _ _
    · rename_i ho
      split
      · exact .refuse _ _
      · split
        · exact .refuse _ _
        · rename_i t ht
          split
          · exact .refuse _ _
          · split
            · exact .refuse _ _
            · split
              · exact .refuse _ _
              · rename_i p hp; exact .accept (.issued u l t p ho (route_hasRoom ht hp)) _

theorem answers_cancel (issue : Nat) : (serveCancel l issue u).Answers u := by
  unfold serveCancel
  split
  · exact .refuse _ _
  · split
    · exact .refuse _ _
    · split
      · exact .refuse _ _
      · rename_i p j hj; exact .accept (.withdrawn u l issue p j hj) _

theorem jobInProgress_some {s : State} {n : SessionId} {issue : Nat} {p : PrinterId} {j : Job}
    (h : s.jobInProgress n issue = some (p, j)) : ∃ g, s.inProgress p = some g ∧ g.job = j ∧ j.is n issue = true := by
  obtain ⟨q, -, hq⟩ := List.exists_of_findSome?_eq_some h
  split at hq
  · rename_i g hg
    split at hq
    · rename_i hi
      obtain ⟨rfl, rfl⟩ := Prod.mk.inj (Option.some.inj hq)
      exact ⟨g, hg, rfl, hi⟩
    · cases hq
  · cases hq

theorem answers_abortJob (issue : Nat) : (serveAbortJob l issue u).Answers u := by
  unfold serveAbortJob
  split
  · exact .refuse _ _
  · split
    · rename_i p j hj
      obtain ⟨g, hg, rfl, -⟩ := jobInProgress_some hj
      split
      · exact .accept (.worked p ((State.Worked.refl _ p u).endJob _)) _
      · rename_i hs
        refine .accept ?_ _
        rw [State.markAbort, hg]
        exact .marked u p g hg hs
    · rename_i p j _ hj
      exact .accept (((State.Serves.withdrawn u l issue p j hj).then_ p fun w => w.handOver _).raise _ _) _
    · exact .refuse _ _

theorem State.Serves.raiseDiverted {s : State} (ns : List SessionId) : ∀ {t : State}, s.Serves t → s.Serves (t.raiseDiverted ns) := by
  induction ns with
  | nil => exact fun h => h
  | cons n ns ih => exact fun h => ih (h.raise _ _)

theorem answers_divert (a b : Nat) : (serveDivert l a b u).Answers u := by
  unfold serveDivert
  split
  · split
    · exact .refuse _ _
    · rename_i h
      have ne := fun e => h (.inl e)
      exact .accept (State.Serves.raiseDiverted _ ((State.Serves.divertedOne u _ _ ne).trans (.diverted _ _ _ ne))) _
  · exact .refuse _ _

theorem answers_setWindowMap (session : Nat) (entries : Vector (Nat × Nat) 8) : (serveSetWindowMap l session entries u).Answers u := by
  unfold serveSetWindowMap
  split
  · exact .refuse _ _
  · split
    · exact .refuse _ _
    · exact .accept (State.Serves.refl u).rest _

theorem answers_setDiscount (index rate floor step : Nat) : (serveSetDiscount l index rate floor step u).Answers u := by
  unfold serveSetDiscount
  split
  · split
    · exact .refuse _ _
    · exact .accept (State.Serves.refl u).rest _
  · exact .refuse _ _

/-! ### The stock -/

theorem answers_setStockKind (kind : Nat) (letter1 letter2 : Byte) (threshold : Nat) :
    (serveSetStockKind l kind letter1 letter2 threshold u).Answers u := by
  unfold serveSetStockKind
  split
  · exact .refuse _ _
  · split
    · exact .refuse _ _
    · split
      · exact .refuse _ _
      · exact .accept (State.Serves.refl u).rest _

theorem answers_receivePack (kind first count : Nat) : (serveReceivePack l kind first count u).Answers u := by
  unfold serveReceivePack
  split
  · exact .refuse _ _
  · split
    · exact .refuse _ _
    · split
      · exact .refuse _ _
      · split
        · exact .refuse _ _
        · exact .accept (State.Serves.refl u).rest _

theorem answers_unloadPack (printer : Nat) : (serveUnloadPack l printer u).Answers u := by
  unfold serveUnloadPack
  split
  · exact .refuse _ _
  · split
    · exact .refuse _ _
    · split
      · exact .refuse _ _
      · split
        · exact .refuse _ _
        · exact .accept (State.Serves.refl u).rest _

theorem answers_closePack (slot : Nat) : (serveClosePack l slot u).Answers u := by
  unfold serveClosePack
  split
  · exact .refuse _ _
  · split
    · exact .refuse _ _
    · split
      · exact .refuse _ _
      · split
        · exact .refuse _ _
        · refine .accept ?_ _
          split
          · exact ((State.Serves.refl u).addRecord _).rest
          · exact (State.Serves.refl u).rest

theorem answers_purgePack (slot : Nat) : (servePurgePack l slot u).Answers u := by
  unfold servePurgePack
  split
  · exact .refuse _ _
  · split
    · exact .refuse _ _
    · split
      · exact .refuse _ _
      · split
        · exact .refuse _ _
        · split
          · exact .refuse _ _
          · refine .accept (.worked 0 ?_) _
            refine (State.Worked.noteRecords (t := u.putStock _) ?_).rest
            exact (State.Worked.refl _ 0 u).rest

theorem answers_readPack (slot : Nat) : (serveReadPack l slot u).Answers u := by
  unfold serveReadPack
  split
  · exact .refuse _ _
  · split
    · exact .refuse _ _
    · exact .accept (.refl u) _

theorem answers_readException : (serveReadException l u).Answers u := by
  unfold serveReadException
  split
  · exact .refuse _ _
  · exact .accept (State.Serves.refl u).rest _

theorem answers_auditSet (slot serial : Nat) : (serveAuditSet l slot serial u).Answers u := by
  unfold serveAuditSet
  split
  · exact .refuse _ _
  · split
    · exact .refuse _ _
    · split
      · exact .refuse _ _
      · exact .accept (State.Serves.refl u).rest _

theorem answers_auditNext : (serveAuditNext l u).Answers u := by
  unfold serveAuditNext
  split
  · exact .refuse _ _
  · split
    · exact .refuse _ _
    · refine .accept ?_ _
      split
      · exact .refl u
      · exact (State.Serves.refl u).rest

/-! ### The printers -/

theorem answers_setPrinter (printer kind feed settle : Nat) : (serveSetPrinter l printer kind feed settle u).Answers u := by
  unfold serveSetPrinter
  split
  · split
    · exact .refuse _ _
    · split
      · exact .refuse _ _
      · split
        · exact .refuse _ _
        · exact .accept (State.Serves.raise (State.Serves.refl u).rest _ _) _
  · exact .refuse _ _

theorem answers_release (printer : Nat) : (serveRelease l printer u).Answers u := by
  unfold serveRelease
  split
  · exact .refuse _ _
  · rename_i p _
    split
    · exact .refuse _ _
    · split
      · exact .refuse _ _
      · exact .accept (.worked p ((((State.Worked.refl _ p u).clearEntry p).mapCtl p _).setPrinterState p _)) _

theorem answers_takeOffline (printer : Nat) : (serveTakeOffline l printer u).Answers u := by
  unfold serveTakeOffline
  split
  · exact .refuse _ _
  · rename_i p _
    split
    · exact .refuse _ _
    · split
      · exact .refuse _ _
      · exact .accept (.worked p (((State.Worked.refl _ p u).setPrinterState p _).liftOffline p)) _

theorem answers_bringOnline (printer : Nat) : (serveBringOnline l printer u).Answers u := by
  unfold serveBringOnline
  split
  · exact .refuse _ _
  · rename_i p _
    split
    · exact .refuse _ _
    · exact .accept (.worked p (((State.Worked.refl _ p u).setPrinterState p _).sendOp p _ _)) _

theorem answers_readPrinters : (serveReadPrinters l u).Answers u := .accept (State.Serves.refl u).rest _

theorem answers_readFaults (start : Nat) : (serveReadFaults l start u).Answers u := by
  unfold serveReadFaults
  split
  · exact .accept (.refl u) _
  · exact ⟨rfl, .refl u⟩

theorem answers_acknowledge (entry : Nat) : (serveAcknowledge l entry u).Answers u := by
  unfold serveAcknowledge
  split
  · exact .refuse _ _
  · split
    · exact .refuse _ _
    · split
      · exact .refuse _ _
      · exact .accept (.worked 0 ((State.Worked.refl _ 0 u).setEntries _)) _

/-! ### Cash-up -/

theorem Session.turned_self (x : Session) (d : Declarations) : { x with declared := d } =
    { x with state := x.state, owner := x.owner, declared := d } := rfl

theorem answers_cashupBegin (session : Nat) : (serveCashupBegin l session u).Answers u := by
  unfold serveCashupBegin
  split
  · exact .refuse _ _
  · dsimp only
    split
    · exact .refuse _ _
    · exact .refuse _ _
    · split
      · exact .refuse _ _
      · rename_i n _ _ _ ho
        exact .accept (State.Serves.rest (.session u n _ (.turned .cashup (some l) .zero (.inr (.inr (by omega)))))) _

/-- A session that a line owns is in CASHUP (R161). -/
theorem ownedSession_state {n : SessionId} {session : Nat} (h : u.ownedSession l session = .ok n) : (u.session n).state = .cashup := by
  unfold State.ownedSession at h
  split at h
  · cases h
  · split at h
    · cases h
    · split at h
      · cases h
      · rename_i hs _
        obtain rfl : _ = n := by injection h
        exact not_not.mp hs

/-- The declarations of a session in CASHUP are written. -/
theorem serves_declared {n : SessionId} {session : Nat} (h : u.ownedSession l session = .ok n) (d : Declarations) :
    u.Serves (u.putSession n { u.session n with declared := d }) :=
  .session u n _ (.turned (u.session n).state (u.session n).owner d (.inr (.inl (by simp [ownedSession_state l u h]))))

theorem answers_declareCash (session index count : Nat) : (serveDeclareCash l session index count u).Answers u := by
  unfold serveDeclareCash
  split
  · exact .refuse _ _
  · rename_i n hn
    split
    · split
      · exact .refuse _ _
      · exact .accept (serves_declared l u hn _) _
    · exact .refuse _ _

theorem answers_declareCard (session total : Nat) : (serveDeclareCard l session total u).Answers u := by
  unfold serveDeclareCard
  split
  · exact .refuse _ _
  · rename_i n hn
    split
    · exact .refuse _ _
    · exact .accept (serves_declared l u hn _) _

theorem answers_declareWarrants (session count total : Nat) : (serveDeclareWarrants l session count total u).Answers u := by
  unfold serveDeclareWarrants
  split
  · exact .refuse _ _
  · rename_i n hn
    split
    · exact .refuse _ _
    · exact .accept (serves_declared l u hn _) _

theorem answers_cashupCommit (session : Nat) : (serveCashupCommit l session u).Answers u := by
  unfold serveCashupCommit
  split
  · exact .refuse _ _
  · rename_i n hn
    split
    · exact .refuse _ _
    · refine .accept (State.Serves.raise (State.Serves.rest (.session u n _ (.turned .closed none (u.session n).declared
        (.inr (.inl (by simp [ownedSession_state l u hn])))))) _ _) _

theorem answers_cashupAbandon (session : Nat) : (serveCashupAbandon l session u).Answers u := by
  unfold serveCashupAbandon
  split
  · exact .refuse _ _
  · dsimp only
    split
    · exact .refuse _ _
    · split
      · exact .refuse _ _
      · exact .accept (.session u _ _ (.turned .opened none .zero (.inl rfl))) _

theorem answers_setDenomination (index face : Nat) : (serveSetDenomination l index face u).Answers u := by
  unfold serveSetDenomination
  split
  · split
    · exact .refuse _ _
    · split
      · exact .refuse _ _
      · split
        · exact .refuse _ _
        · exact .accept (State.Serves.refl u).rest _
  · exact .refuse _ _

theorem answers_setTolerance (tolerance : Nat) : (serveSetTolerance l tolerance u).Answers u := by
  unfold serveSetTolerance
  split
  · exact .refuse _ _
  · exact .accept (State.Serves.refl u).rest _

theorem answers_readCashup : (serveReadCashup l u).Answers u := by
  unfold serveReadCashup
  split
  · exact .refuse _ _
  · exact ⟨rfl, (State.Serves.refl u).rest⟩

theorem answers_review (record : Nat) : (serveReview l record u).Answers u := by
  unfold serveReview
  split
  · exact .refuse _ _
  · split
    · exact .refuse _ _
    · split
      · exact .refuse _ _
      · split
        · exact .accept (.refl u) _
        · exact .accept (State.Serves.refl u).rest _

/-! ### The deferred requests -/

/-- A request becomes the office line's deferred request, and its work begins (R182). -/
def Served.Defers (r : Served) (u : State) : Prop := r.answer = none ∧ ∃ d, (u.holdDeferred d).Serves r.state

theorem defers_loadPack (slot printer : Nat) : (serveLoadPack l slot printer u).Answers u ∨ (serveLoadPack l slot printer u).Defers u := by
  unfold serveLoadPack
  split
  · split
    · exact .inl (.refuse _ _)
    · split
      · exact .inl (.refuse _ _)
      · split
        · exact .inl (.refuse _ _)
        · split
          · exact .inl (.refuse _ _)
          · split
            · exact .inl (.refuse _ _)
            · exact .inr ⟨rfl, _, .worked _ ((State.Worked.refl _ _ _).beginLoad _)⟩
  · exact .inl (.refuse _ _)

theorem defers_printerReset (printer : Nat) :
    (servePrinterReset l printer u).Answers u ∨ (servePrinterReset l printer u).Defers u := by
  unfold servePrinterReset
  split
  · exact .inl (.refuse _ _)
  · exact .inr ⟨rfl, _, .worked _ (State.Worked.refl _ _ _).resetPrinter⟩

end

/-- What serving a request does: it is answered at once, or it is one of the office line's that is deferred (R180, R182). -/
theorem serveRequest_answers (i : Instr) (l : Line) (code : Byte) (rest : List Byte) (u : State)
    (e : requestBody i = some (l, code :: rest)) : (serveRequest i u).Answers u ∨
      (code.toNat ∈ officeCodes ∧ code ≠ abortCode ∧ (serveRequest i u).Defers u) := by
  cases i <;> simp only [requestBody, Option.some.injEq, Prod.mk.injEq, List.cons_append, List.cons.injEq, reduceCtorEq] at e <;>
    obtain ⟨e, rfl, -⟩ := e <;> obtain rfl := e.symm
  case readNotices => exact .inl (answers_readNotices l u)
  case setNoticeMask => exact .inl (answers_setNoticeMask l u _)
  case readOutcomes => exact .inl (answers_readOutcomes l u)
  case abort => exact .inl (answers_abort l u)
  case readClock => exact .inl (.accept (.refl u) _)
  case setClock => exact .inl (answers_setClock l u _ _ _)
  case signOn => exact .inl (answers_signOn l u _ _)
  case void => exact .inl (answers_void l u _)
  case lift => exact .inl (answers_lift l u _ _)
  case setThresholds => exact .inl (answers_setThresholds l u _ _)
  case readTill => exact .inl (answers_readTill l u _)
  case readJournal => exact .inl (answers_readJournal l u _ _)
  case writeBody => exact .inl (answers_writeBody l u _)
  case issue => exact .inl (answers_issue l u _ _ _ _ _ _ _ _)
  case cancel => exact .inl (answers_cancel l u _)
  case abortJob => exact .inl (answers_abortJob l u _)
  case divert => exact .inl (answers_divert l u _ _)
  case setWindowMap => exact .inl (answers_setWindowMap l u _ _)
  case setDiscount => exact .inl (answers_setDiscount l u _ _ _ _)
  case setStockKind => exact .inl (answers_setStockKind l u _ _ _ _)
  case receivePack => exact .inl (answers_receivePack l u _ _ _)
  case loadPack => exact (defers_loadPack l u _ _).imp id fun h => ⟨by decide, by decide, h⟩
  case unloadPack => exact .inl (answers_unloadPack l u _)
  case closePack => exact .inl (answers_closePack l u _)
  case purgePack => exact .inl (answers_purgePack l u _)
  case readPack => exact .inl (answers_readPack l u _)
  case readException => exact .inl (answers_readException l u)
  case auditSet => exact .inl (answers_auditSet l u _ _)
  case auditNext => exact .inl (answers_auditNext l u)
  case setPrinter => exact .inl (answers_setPrinter l u _ _ _ _)
  case release => exact .inl (answers_release l u _)
  case takeOffline => exact .inl (answers_takeOffline l u _)
  case bringOnline => exact .inl (answers_bringOnline l u _)
  case printerReset => exact (defers_printerReset l u _).imp id fun h => ⟨by decide, by decide, h⟩
  case readPrinters => exact .inl (answers_readPrinters l u)
  case readFaults => exact .inl (answers_readFaults l u _)
  case acknowledge => exact .inl (answers_acknowledge l u _)
  case cashupBegin => exact .inl (answers_cashupBegin l u _)
  case declareCash => exact .inl (answers_declareCash l u _ _ _)
  case declareCard => exact .inl (answers_declareCard l u _ _)
  case declareWarrants => exact .inl (answers_declareWarrants l u _ _ _)
  case cashupCommit => exact .inl (answers_cashupCommit l u _)
  case cashupAbandon => exact .inl (answers_cashupAbandon l u _)
  case setDenomination => exact .inl (answers_setDenomination l u _ _)
  case setTolerance => exact .inl (answers_setTolerance l u _)
  case readCashup => exact .inl (answers_readCashup l u)
  case review => exact .inl (answers_review l u _)

end Sys2Proof.Machine

/-! # The bounds of the queues and of the replies

O51: a move of the printers' work, what serving a request can do, and a stage of start-up each keep the bounds of the queues; and none of
them makes a line owe one more reply, which a request's own answer alone does. -/

namespace Sys2Proof.Machine

open Sys2Proof Sys2Proof.Machine

/-! ## Queues -/

theorem joinOutcome_length_le (list : List Outcome) (o : Outcome) : (joinOutcome list o).length ≤ 8 := by
  simp only [joinOutcome, List.length_drop, List.length_append, List.length_singleton]; omega

theorem joinOutcomes_length_le (os list : List Outcome) (h : list.length ≤ 8) : (os.foldl joinOutcome list).length ≤ 8 := by
  induction os generalizing list with
  | nil => exact h
  | cons o os ih => exact ih _ (joinOutcome_length_le list o)

@[simp] theorem Session.setTally_journal (x : Session) (t : Tender) (y : Tally) : (x.setTally t y).journal = x.journal := by
  cases t <;> rfl

theorem State.settledSession_journal (s : State) (j : Job) :
    (s.settledSession j).journal = (s.journalEntry j :: (s.session j.session).journal).take 32 := by
  unfold State.settledSession; dsimp only; split <;> rfl

theorem dropFirst_length_le {α : Type} (test : α → Bool) (xs : List α) : (dropFirst test xs).length ≤ xs.length := by
  induction xs with
  | nil => exact le_rfl
  | cons x xs ih => unfold dropFirst; split <;> simp; omega

/-- A line's outcome list and body are within their bounds, and the office line keeps no outcome (R67, R188). -/
def LineState.Bounded (l : Line) (ln : LineState) : Prop :=
  ln.outcomes.length ≤ 8 ∧ ln.body.length ≤ 192 ∧ (l = officeLine → ln.outcomes = [])

namespace LineState.Bounded

theorem of_same {l : Line} {a b : LineState} (h : a.Bounded l) (ho : b.outcomes = a.outcomes) (hb : b.body = a.body) : b.Bounded l := by
  unfold LineState.Bounded; rw [ho, hb]; exact h

end LineState.Bounded

/-- A printer's lanes are within their bounds (R89). -/
def Lanes.Bounded (x : Lanes) : Prop := x.office.length ≤ 2 ∧ x.window.length ≤ 8

theorem State.queuesBounded_iff {s : State} : s.QueuesBounded ↔
    (∀ p, (s.lane p).Bounded) ∧ (∀ n, (s.session n).journal.length ≤ 32) ∧ ∀ l, (s.line l).Bounded l := by
  constructor
  · rintro ⟨h1, h2, h3, h4⟩
    exact ⟨h1, h2, fun l => ⟨(h3 l).1, (h3 l).2, fun e => by rw [e]; exact h4⟩⟩
  · rintro ⟨h1, h2, h3⟩
    exact ⟨h1, h2, fun l => ⟨(h3 l).1, (h3 l).2.1⟩, (h3 officeLine).2.2 rfl⟩

theorem Lanes.HeadIs.bounded {x rest : Lanes} {j : Job} (h : x.HeadIs j rest) (hx : x.Bounded) : rest.Bounded := by
  obtain ⟨h1, h2⟩ := hx
  rcases h with ⟨ho, hw⟩ | ⟨-, ho, hw⟩
  · rw [ho] at h1; rw [hw] at h2; exact ⟨Nat.le_of_succ_le h1, h2⟩
  · rw [hw] at h2; exact ⟨by rw [ho]; exact Nat.zero_le _, Nat.le_of_succ_le h2⟩

theorem line_of_lines {s t : State} (h : t.lines = s.lines) (l : Line) : t.line l = s.line l := congrArg (·[l]) h

/-- Behind a job that is gone, dropping it is work of other blocks. -/
theorem dropJob_worked {s : State} {p : PrinterId} {g : Progress} (hg : s.inProgress p = some g) (q : PrinterId) :
    (s.putProgress p none).Worked True q (s.dropJob p) := by
  simp only [State.dropJob, hg]
  exact State.Worked.noteRecords (State.Worked.refl _ q _).rest

/-- The job that DIVERT moves has room in the lane it goes to (R101). -/
theorem divertible_room {s : State} {a b : PrinterId} {j : Job} (h : s.divertible a b = some j) : s.hasRoom b j.session = true := by
  unfold State.divertible at h
  split at h
  · cases h
  · split at h
    · rename_i hc
      obtain rfl := Option.some.inj h
      exact hc.2.2
    · cases h

namespace State.QueuesBounded

variable {s t : State}

theorem of_blocks (h : s.QueuesBounded) (sessions : t.till.sessions = s.till.sessions) (lanes : t.lanes = s.lanes)
    (lines : ∀ l, (t.line l).outcomes = (s.line l).outcomes ∧ (t.line l).body = (s.line l).body) : t.QueuesBounded := by
  rw [State.queuesBounded_iff] at *
  obtain ⟨h1, h2, h3⟩ := h
  refine ⟨fun p => ?_, fun n => ?_, fun l => (h3 l).of_same (lines l).1 (lines l).2⟩
  · rw [show t.lane p = s.lane p from congrArg (·[p]) lanes]; exact h1 p
  · rw [show t.session n = s.session n from congrArg (·[n]) sessions]; exact h2 n

theorem putLine (h : s.QueuesBounded) (l : Line) (x : LineState) (hx : x.Bounded l) : (s.putLine l x).QueuesBounded := by
  rw [State.queuesBounded_iff] at *
  obtain ⟨h1, h2, h3⟩ := h
  refine ⟨h1, h2, fun k => ?_⟩
  rw [State.putLine_line]
  split
  · rename_i e; rw [e]; exact hx
  · exact h3 k

theorem putSession (h : s.QueuesBounded) (n : SessionId) (x : Session) (hx : x.journal.length ≤ 32) : (s.putSession n x).QueuesBounded := by
  obtain ⟨h1, h2, h3⟩ := h
  refine ⟨h1, fun m => ?_, h3⟩
  rw [State.putSession_session]
  split
  · exact hx
  · exact h2 m

theorem putLane (h : s.QueuesBounded) (p : PrinterId) (x : Lanes) (hx : x.Bounded) : (s.putLane p x).QueuesBounded := by
  obtain ⟨h1, h2, h3⟩ := h
  refine ⟨fun q => ?_, h2, h3⟩
  rw [State.putLane_lane]
  split
  · exact hx
  · exact h1 q

theorem releaseCharge (h : s.QueuesBounded) (j : Job) : (s.releaseCharge j).QueuesBounded :=
  h.putSession _ _ (by rw [Session.setTally_journal]; exact h.2.1 _)

theorem line (h : s.QueuesBounded) (l : Line) : (s.line l).Bounded l := (State.queuesBounded_iff.mp h).2.2 l

theorem handOver (h : s.QueuesBounded) (o : Outcome) : (s.handOver o).QueuesBounded := by
  unfold State.handOver
  split
  · exact h
  · rename_i hne
    exact h.putLine _ _ ⟨joinOutcome_length_le _ _, (h.line _).2.1, fun e => absurd e hne⟩

/-- The printers' work keeps the bounds of the queues. -/
theorem works {p : PrinterId} (w : s.Works p t) (h : s.QueuesBounded) : t.QueuesBounded := by
  induction w with
  | refl => exact h
  | trans _ _ ih1 ih2 => exact ih2 (ih1 h)
  | rest sessions lanes _ lines => exact h.of_blocks sessions lanes fun l => by rw [line_of_lines lines l]; exact ⟨rfl, rfl⟩
  | calm s v hv => exact h.of_blocks rfl rfl fun l => ⟨(hv l).outcomes, (hv l).body⟩
  | handOver s o => exact h.handOver o
  | count s n k f => exact h.putSession _ _ (h.2.1 n)
  | work => exact h
  | released s g j => exact h.releaseCharge j
  | settled s g =>
    refine h.putSession _ _ ?_
    rw [State.settledSession_journal, List.length_take]
    exact Nat.min_le_left _ _
  | admitted s j g rest _ hl => exact h.putLane _ _ (hl.bounded (h.1 _))

/-- The journal of a session that a request writes is no longer than it was. -/
theorem rewrites {n : SessionId} {x : Session} (h : s.QueuesBounded) (r : s.Rewrites n x) : x.journal.length ≤ 32 := by
  cases r with
  | signedOn => exact Nat.zero_le _
  | voided e x _ _ _ hx =>
    have hv : ((s.session n).voided e).journal.length ≤ 32 := by
      rw [Session.voided, voidEntry, changeFirst_length]; exact h.2.1 n
    rcases hx with ⟨-, rfl⟩ | ⟨-, -, d, rfl⟩ <;> exact hv
  | lifted => exact h.2.1 n
  | turned => exact h.2.1 n

/-- A lane with room for a session's job is within its bounds behind it (R89). -/
theorem join (h : s.QueuesBounded) (p : PrinterId) (j : Job) (room : s.hasRoom p j.session = true) : ((s.lane p).join j).Bounded := by
  obtain ⟨h1, h2⟩ := h.1 p
  unfold State.hasRoom at room
  unfold Lanes.join
  by_cases e : j.session = officeLine
  · simp only [e, if_true, State.officeRoom, decide_eq_true_eq] at room ⊢
    exact ⟨by simpa using room, h2⟩
  · simp only [e, if_false, State.windowRoom, decide_eq_true_eq] at room ⊢
    exact ⟨h1, by simpa using room⟩

theorem moveLanes (h : s.QueuesBounded) (a b : PrinterId) : (s.moveLanes a b).QueuesBounded := by
  obtain ⟨h1, h2⟩ := h.1 a
  obtain ⟨k1, k2⟩ := h.1 b
  refine (h.putLane a _ ⟨?_, ?_⟩).putLane b _ ⟨?_, ?_⟩ <;>
    simp only [State.divertLanes, List.length_drop, List.length_append, List.length_map, List.length_take] <;> omega

/-- The job in progress leaves its printer, its reservation released. -/
theorem dropJob (h : s.QueuesBounded) (p : PrinterId) : (s.dropJob p).QueuesBounded := by
  cases hg : s.inProgress p with
  | none => simp only [State.dropJob, hg]; exact h
  | some g => exact works (dropJob_worked hg p).works h

/-- Serving a request keeps the bounds of the queues. -/
theorem serves (w : s.Serves t) (h : s.QueuesBounded) : t.QueuesBounded := by
  induction w with
  | worked p w => exact h.works w.works
  | trans _ _ ih1 ih2 => exact ih2 (ih1 h)
  | session s n x r => exact h.putSession n x (h.rewrites r)
  | issued s l t p _ room => exact (h.putSession _ _ (by simpa using h.2.1 l)).putLane p _ (h.join p (s.newJob l t p) room)
  | withdrawn s n issue p j _ =>
    refine (h.putLane p _ ⟨?_, ?_⟩).releaseCharge j
    exacts [(dropFirst_length_le _ _).trans (h.1 p).1, (dropFirst_length_le _ _).trans (h.1 p).2]
  | marked => exact h
  | divertedOne s a b =>
    unfold State.divertSuspended
    split
    · exact h
    · rename_i j hj
      have hb : (s.dropJob a).hasRoom b j.session = s.hasRoom b j.session := by
        unfold State.hasRoom State.officeRoom State.windowRoom; rw [dropJob_lane]
      exact (h.dropJob a).putLane b _ ((h.dropJob a).join b (j.movedTo b) (hb.trans (divertible_room hj)))
  | diverted s a b => exact h.moveLanes a b
  | outcomesRead s l => exact h.putLine l _ ⟨Nat.zero_le _, (h.line l).2.1, fun _ => rfl⟩
  | bodyWritten s l bytes hb => exact h.putLine l _ ⟨(h.line l).1, hb, (h.line l).2.2⟩

end State.QueuesBounded

/-- Serving a request leaves the part in its phase. -/
theorem State.Serves.phase {s t : State} (w : s.Serves t) : t.phase = s.phase := by
  induction w with
  | worked p w => exact w.works.phase
  | trans _ _ ih1 ih2 => exact ih2.trans ih1
  | session | issued | withdrawn | marked | diverted | outcomesRead | bodyWritten => rfl
  | divertedOne s a b =>
    unfold State.divertSuspended
    split
    · rfl
    · exact congrArg Settings.phase (s.dropJob_settings a)

/-! ## Replies -/

/-- No line owes more replies than before, and none defers a new request. -/
def State.Quiet (s t : State) : Prop :=
  ∀ l, (t.line l).owed ≤ (s.line l).owed ∧ ((s.line l).deferred = none → (t.line l).deferred = none)

namespace State.Quiet

variable {s t : State}

theorem of_line (h : ∀ l, (t.line l).replies = (s.line l).replies ∧ (t.line l).deferred = (s.line l).deferred) : s.Quiet t := fun l => by
  obtain ⟨hr, hd⟩ := h l
  unfold LineState.owed
  rw [hr, hd]
  exact ⟨le_rfl, id⟩

theorem of_lines (h : t.lines = s.lines) : s.Quiet t := of_line fun l => by rw [line_of_lines h l]; exact ⟨rfl, rfl⟩

theorem trans {u : State} (h : s.Quiet t) (k : t.Quiet u) : s.Quiet u := fun l =>
  ⟨(k l).1.trans (h l).1, fun hd => (k l).2 ((h l).2 hd)⟩

theorem putLine (l : Line) (x : LineState) (hr : x.replies = (s.line l).replies) (hd : x.deferred = (s.line l).deferred) :
    s.Quiet (s.putLine l x) := of_line fun k => by
  rw [State.putLine_line]
  split
  · rename_i e; rw [e]; exact ⟨hr, hd⟩
  · exact ⟨rfl, rfl⟩

theorem handOver (s : State) (o : Outcome) : s.Quiet (s.handOver o) := by
  unfold State.handOver
  split
  · exact of_lines rfl
  · exact putLine _ _ rfl rfl

theorem works {p : PrinterId} (w : s.Works p t) : s.Quiet t := by
  induction w with
  | refl => exact of_lines rfl
  | trans _ _ ih1 ih2 => exact ih1.trans ih2
  | rest _ _ _ lines => exact of_lines lines
  | calm s v hv => exact fun l => ⟨(hv l).owed, (hv l).deferred⟩
  | handOver s o => exact handOver s o
  | count | work | released | settled | admitted => exact of_lines rfl

theorem dropJob (s : State) (p : PrinterId) : s.Quiet (s.dropJob p) := by
  cases hg : s.inProgress p with
  | none => simp only [State.dropJob, hg]; exact of_lines rfl
  | some g =>
    have cleared : s.Quiet (s.putProgress p none) := of_lines rfl
    exact cleared.trans (works (dropJob_worked hg p).works)

theorem serves (w : s.Serves t) : s.Quiet t := by
  induction w with
  | worked p w => exact works w.works
  | trans _ _ ih1 ih2 => exact ih1.trans ih2
  | session | issued | withdrawn | marked | diverted => exact of_lines rfl
  | divertedOne s a b =>
    unfold State.divertSuspended
    split
    · exact of_lines rfl
    · exact (dropJob s a).trans (of_lines rfl)
  | outcomesRead s l => exact putLine l _ rfl rfl
  | bodyWritten s l bytes hb => exact putLine l _ rfl rfl

end State.Quiet

/-- The replies that a line may owe (R179, R182). -/
def replyBound (l : Line) : Nat := if l = officeLine then 5 else 4

theorem State.repliesBounded_iff {s : State} : s.RepliesBounded ↔
    ∀ l, (s.line l).owed ≤ replyBound l ∧ (l ≠ officeLine → (s.line l).deferred = none) := by
  refine forall_congr' fun l => ?_
  unfold replyBound LineState.owed
  by_cases e : l = officeLine
  · simp [e]
  · simp only [e, if_false, ne_eq, not_false_eq_true, forall_true_left]
    constructor
    · rintro ⟨h1, h2⟩; rw [h2]; exact ⟨h1, rfl⟩
    · rintro ⟨h1, h2⟩; rw [h2] at h1; exact ⟨h1, h2⟩

namespace State.RepliesBounded

variable {s t : State}

theorem quiet (h : s.RepliesBounded) (q : s.Quiet t) : t.RepliesBounded := by
  rw [State.repliesBounded_iff] at *
  exact fun l => ⟨(q l).1.trans (h l).1, fun hl => (q l).2 ((h l).2 hl)⟩

theorem putLine (h : s.RepliesBounded) (l : Line) (x : LineState) (ho : x.owed ≤ replyBound l)
    (hd : l ≠ officeLine → x.deferred = none) : (s.putLine l x).RepliesBounded := by
  rw [State.repliesBounded_iff] at *
  intro k
  rw [State.putLine_line]
  split
  · rename_i e; rw [e]; exact ⟨ho, hd⟩
  · exact h k

/-- A line with fewer than 4 waiting replies owes one fewer than it may (R179, R182). -/
theorem room (h : s.RepliesBounded) {l : Line} (hr : s.replyFull l = false) : (s.line l).owed + 1 ≤ replyBound l := by
  have h1 : (s.line l).replies.length < 4 := by simpa [State.replyFull] using hr
  have h2 := ((State.repliesBounded_iff.mp h) l).2
  unfold LineState.owed replyBound
  by_cases hl : l = officeLine
  · rw [if_pos hl]; split <;> omega
  · rw [if_neg hl, h2 hl]; exact h1

/-- One more reply is queued on a line that owes one fewer than it may. -/
theorem queueReply (h : s.RepliesBounded) {l : Line} (hr : (s.line l).owed + 1 ≤ replyBound l) (r : Reply) :
    (s.queueReply l r).RepliesBounded :=
  h.putLine l _ (by simp only [LineState.owed, List.length_append, List.length_singleton] at hr ⊢; omega)
    ((State.repliesBounded_iff.mp h) l).2

/-- A request is deferred on an office line that owes one fewer than it may. -/
theorem holdDeferred (h : s.RepliesBounded) (hr : (s.line officeLine).owed + 1 ≤ replyBound officeLine) (d : Deferred) :
    (s.holdDeferred d).RepliesBounded :=
  h.putLine officeLine _ (by unfold LineState.owed at hr ⊢; simp only [Option.isSome_some, if_true]; omega) fun hl => absurd rfl hl

/-- No line owes more than it may when none owes anything. -/
theorem of_idle (h : ∀ l, (t.line l).replies = [] ∧ (t.line l).deferred = none) : t.RepliesBounded := by
  rw [State.repliesBounded_iff]
  intro l
  obtain ⟨hr, hd⟩ := h l
  unfold LineState.owed
  rw [hr, hd]
  exact ⟨Nat.zero_le _, fun _ => rfl⟩

end State.RepliesBounded

/-! ## Events -/

theorem State.BoundsKept.works {p : PrinterId} {s t : State} (w : s.Works p t) (h : s.BoundsKept) : t.BoundsKept :=
  ⟨h.1.works w, h.2.quiet (.works w)⟩

theorem boundsKept_workClosed : WorkClosed State.BoundsKept := fun _ _ _ w _ h => h.works w.works

theorem boundsKept_closeRequest (i : Instr) (l : Line) {s : State} (hr : s.phase = .running)
    (h : s.BoundsKept) : (closeRequest i l s).BoundsKept := by
  rcases closeRequest_cases i l with e | e | e <;> rw [e]
  exacts [boundsKept_workClosed.pump l h, boundsKept_workClosed.pumpAll h, boundsKept_workClosed.afterEvent (by simp [State.printersRun, hr]) h]

theorem State.BoundsKept.queueReply {s : State} {l : Line} (h : s.BoundsKept) (hr : (s.line l).owed + 1 ≤ replyBound l) (r : Reply) :
    (s.queueReply l r).BoundsKept :=
  ⟨h.1.putLine l _ ((h.1.line l).of_same rfl rfl), h.2.queueReply hr r⟩

/-- A request keeps the bounds: it is answered on a line with room for a reply, or it is the office line's first that is deferred. -/
theorem boundsKept_request {s : State} {l : Line} {code : Byte} {close : State → State} {serve : State → Served}
    (hclose : ∀ t, t.phase = .running → t.BoundsKept → (close t).BoundsKept)
    (hserve : ∀ u, (serve u).Answers u ∨ (code.toNat ∈ officeCodes ∧ code ≠ abortCode ∧ (serve u).Defers u)) (h : s.BoundsKept) :
    (s.request l code close serve).BoundsKept := by
  unfold State.request
  split
  · exact h
  · have hf := boundsKept_workClosed.frameEnded l h
    generalize s.frameEnded l = u at hf ⊢
    dsimp only
    split
    · exact hf
    · rename_i hfull
      have room := hf.2.room (Bool.eq_false_iff.mpr hfull)
      split
      · exact boundsKept_workClosed.pump l (hf.queueReply room _)
      · rename_i ht
        obtain ⟨running, -, hoffice⟩ := State.lineTest_none ht
        have answered : State.phase (match (serve u).answer with
            | none => (serve u).state
            | some a => (serve u).state.queueReply l (a.reply code)) = .running ∧ State.BoundsKept (match (serve u).answer with
            | none => (serve u).state
            | some a => (serve u).state.queueReply l (a.reply code)) := by
          rcases hserve u with ⟨ha, hs⟩ | ⟨hoff, hab, ha, d, hs⟩
          · obtain ⟨a, ha⟩ := Option.isSome_iff_exists.mp ha
            rw [ha]
            have quiet := State.Quiet.serves hs
            exact ⟨hs.phase.trans running, State.BoundsKept.queueReply ⟨hf.1.serves hs, hf.2.quiet quiet⟩
              ((Nat.succ_le_succ (quiet l).1).trans room) _⟩
          · rw [ha]
            obtain rfl := hoffice hoff
            have held : (u.holdDeferred d).BoundsKept :=
              ⟨hf.1.putLine officeLine _ ((hf.1.line _).of_same rfl rfl), hf.2.holdDeferred room d⟩
            exact ⟨hs.phase.trans running, held.1.serves hs, held.2.quiet (.serves hs)⟩
        split
        · exact hclose _ answered.1 answered.2
        · exact boundsKept_workClosed.pump l answered.2

theorem boundsKept_takeRequest (i : Instr) (s : State) (h : s.BoundsKept) : (takeRequest i s).BoundsKept := by
  cases e : requestBody i with
  | none => rw [takeRequest_none i s e]; exact h
  | some r =>
    obtain ⟨l, body⟩ := r
    obtain ⟨code, rest, rfl⟩ := requestBody_cons i l body e
    rw [takeRequest_eq i l code rest e]
    exact boundsKept_request (fun t hr ht => boundsKept_closeRequest i l hr ht) (fun u => serveRequest_answers i l code rest u e) h

theorem boundsKept_rejectFrame (l : Line) (first : Option Byte) (s : State) (h : s.BoundsKept) : (s.rejectFrame l first).BoundsKept := by
  unfold State.rejectFrame
  split
  · exact h
  · have hf := boundsKept_workClosed.frameEnded l h
    dsimp only
    split
    · exact hf
    · rename_i hfull
      exact boundsKept_workClosed.pump l (hf.queueReply (hf.2.room (Bool.eq_false_iff.mpr hfull)) _)

theorem boundsKept_frameSent (l : Line) (s : State) (h : s.BoundsKept) : (s.frameSent l).BoundsKept := by
  unfold State.frameSent
  split
  · exact h
  · exact boundsKept_workClosed.pump l ⟨h.1.putLine l _ ((h.1.line l).of_same rfl rfl), h.2.quiet (.putLine l _ rfl rfl)⟩

theorem State.halt_line (s : State) (l : Line) : s.halt.line l = (s.line l).halted := by
  simp [State.halt, State.line]

/-- A halt takes the replies and the deferred request from every line (R195). -/
theorem boundsKept_halt {s t : State} (h : s.BoundsKept) (sessions : t.till.sessions = s.till.sessions) (lanes : t.lanes = s.lanes)
    (lines : ∀ l, ∃ body, (body = (s.line l).body ∨ body = []) ∧ t.line l = { (s.line l).halted with body := body }) : t.BoundsKept := by
  refine ⟨?_, .of_idle fun l => ?_⟩
  · rw [State.queuesBounded_iff]
    obtain ⟨h1, h2, h3⟩ := State.queuesBounded_iff.mp h.1
    refine ⟨fun p => ?_, fun n => ?_, fun l => ?_⟩
    · rw [show t.lane p = s.lane p from congrArg (·[p]) lanes]; exact h1 p
    · rw [show t.session n = s.session n from congrArg (·[n]) sessions]; exact h2 n
    · obtain ⟨body, hb, e⟩ := lines l
      rw [e]
      rcases hb with rfl | rfl
      exacts [h3 l, ⟨(h3 l).1, Nat.zero_le _, (h3 l).2.2⟩]
  · obtain ⟨body, -, e⟩ := lines l
    rw [e]
    exact ⟨rfl, rfl⟩

/-! ## Start-up -/

/-- A part that every stage of start-up keeps, start-up keeps. -/
theorem State.startTo_keeps {P : State → Prop} (straps : Straps) (stage : StartStage)
    (hstage : ∀ t n, P t → P (State.runStage t straps n)) {s : State} (h : P s) : P (s.startTo straps stage) := by
  unfold State.startTo
  refine List.foldlRecOn (motive := P) _ _ h fun t ht n _ => ?_
  split
  · exact hstage t n ht
  · exact ht

/-- Recovery of a printer's record is work that undoes the job's forms, and then the job's end without a release of its charge
(R26, R65, R198). -/
theorem State.recover_worked (s : State) (p : PrinterId) : s.inProgress p = none ∧ s.recover p = s ∨
    ∃ u g h, s.Worked True p u ∧ s.inProgress p = some g ∧ u.inProgress p = some h ∧ g.job.SameDue h.job ∧
      (u.putProgress p none).Worked True p (s.recover p) := by
  unfold State.recover
  split
  · rename_i hg; exact .inl ⟨hg, rfl⟩
  · rename_i g hg
    have w : s.Worked True p (s.formsUndone p g .printerReset) := (State.Worked.refl True p s).formsUndone g .printerReset
    have hj := (formsUndone_recorded hg .printerReset).1.job
    exact .inr ⟨s.formsUndone p g .printerReset, g, _, w, hg, hj, ⟨rfl, rfl, rfl⟩, (dropJob_worked hj p).rest⟩

theorem State.handOvers_works (p : PrinterId) (os : List Outcome) : ∀ s : State, s.Works p (os.foldl (fun t o => t.handOver o) s) := by
  induction os with
  | nil => exact fun s => .refl s
  | cons o os ih => exact fun s => (State.Works.handOver s o).trans (ih _)

/-- The recovery of a printer's record keeps the bounds. -/
theorem boundsKept_recover (s : State) (p : PrinterId) (h : s.BoundsKept) : (s.recover p).BoundsKept := by
  rcases s.recover_worked p with ⟨-, e⟩ | ⟨u, g, g', w, -, -, -, w'⟩
  · rw [e]; exact h
  · have undone : u.BoundsKept := h.works w.works
    have gone : (u.putProgress p none).BoundsKept := undone
    exact gone.works w'.works

/-- A block is written whose journals are within their bounds; the lanes stay or are emptied. -/
theorem State.BoundsKept.of_lines {s t : State} (h : s.BoundsKept) (lines : t.lines = s.lines)
    (lanes : ∀ p, (t.lane p).Bounded) (journals : ∀ n, (t.session n).journal.length ≤ 32) : t.BoundsKept :=
  ⟨State.queuesBounded_iff.mpr ⟨lanes, journals, fun l => by rw [line_of_lines lines l]; exact h.1.line l⟩, h.2.quiet (.of_lines lines)⟩

theorem boundsKept_runStage (straps : Straps) (s : State) (n : Nat) (h : s.BoundsKept) : (s.runStage straps n).BoundsKept := by
  have h1 : ({ s with phase := .starting (n + 1) } : State).BoundsKept := h
  unfold State.runStage
  generalize ({ s with phase := .starting (n + 1) } : State) = u at h1
  dsimp only
  split
  · have startUp : ∀ l, (u.firstStage straps).line l = .startUp := fun l => by simp [State.firstStage, State.line]
    refine ⟨State.queuesBounded_iff.mpr ⟨h1.1.1, h1.1.2.1, fun l => ?_⟩, .of_idle fun l => ?_⟩ <;> rw [startUp]
    exacts [⟨Nat.zero_le _, Nat.zero_le _, fun _ => rfl⟩, ⟨rfl, rfl⟩]
  · split
    · refine State.BoundsKept.works (p := 0) (State.Worked.noteRecords (m := True) (.refl _ 0 _)).works (h1.of_lines rfl h1.1.1 fun n => ?_)
      rw [show State.session _ n = (u.session n).settledOnly by simp [State.session, State.putTill, State.putLog]]
      exact h1.1.2.1 n
    · refine h1.of_lines rfl h1.1.1 fun n => ?_
      rw [show (u.settleLost).session n = .storeLoss by simp [State.settleLost, State.session, Till.storeLoss]]
      exact Nat.zero_le _
  · have h2 : (u.setAside.foldl (fun t o => t.handOver o) u).BoundsKept :=
      ⟨h1.1.works (u.handOvers_works 0 _), h1.2.quiet (.works (u.handOvers_works 0 _))⟩
    refine h2.of_lines rfl (fun p => ?_) h2.1.2.1
    rw [show (u.volatileStage).lane p = ⟨[], []⟩ by simp [State.volatileStage, State.lane]]
    exact ⟨Nat.zero_le _, Nat.zero_le _⟩
  · refine boundsKept_workClosed.pumpAll ⟨?_, h1.2.quiet (.of_line fun l => ?_)⟩
    · refine h1.1.of_blocks rfl rfl fun l => ?_
      rw [State.line, Fin.getElem_fin, Vector.getElem_ofFn]; exact ⟨rfl, rfl⟩
    · rw [State.line, Fin.getElem_fin, Vector.getElem_ofFn]; exact ⟨rfl, rfl⟩
  · split
    · exact boundsKept_recover u _ h1
    · exact h1

/-! ## The obligation -/

theorem boundsKept_events : EventsKeep State.BoundsKept :=
  boundsKept_workClosed.events boundsKept_takeRequest
    (fun l _ status _ => boundsKept_request (fun _ _ => boundsKept_workClosed.pump l) fun u => .inl (.refuse u status))
    boundsKept_rejectFrame boundsKept_frameSent
    (fun s h => boundsKept_halt h rfl rfl fun l => ⟨[], .inr rfl, by simp [State.halt, State.line]⟩)
    (fun s h => boundsKept_halt h rfl rfl fun l => ⟨_, .inl rfl, s.halt_line l⟩)
    (fun s h => boundsKept_halt h rfl rfl fun l => ⟨_, .inl rfl, s.halt_line l⟩)
    fun straps stage _ => State.startTo_keeps straps stage (boundsKept_runStage straps)

/-- Settles O51, over the moves of the printers' work and of the requests. -/
theorem queuesAndRepliesStayBounded : Obligations.QueuesAndRepliesStayBounded := by
  intro s t h e
  exact boundsKept_events.step s t h e

end Sys2Proof.Machine

/-! # The drawer estimates and what may be voided

O53: each session's estimate, tallies and journal agree, whatever writes the session. -/

namespace Sys2Proof.Machine

open Sys2Proof Sys2Proof.Machine

/-! ## Invariants that do not look at the lines -/

/-- Before the lines open, a request is answered STARTING, or not at all (R190, R195). -/
theorem LineBlind.request_closed {P : State → Prop} (b : LineBlind P) {s : State} {l : Line} {code : Byte} {close : State → State}
    {serve : State → Served} (hs : s.phase ≠ .running) (h : P s) : P (s.request l code close serve) := by
  unfold State.request
  split
  · exact h
  · have hf := b.frameEnded (l := l) h
    dsimp only
    split
    · exact hf
    · split
      · exact b.pump (b.queueReply _ hf)
      · rename_i ht
        exact absurd (State.lineTest_none ht).1 hs

/-- The requests keep a `P` that does not look at the lines, if what serving one can do keeps it. -/
theorem WorkClosed.takes {P : State → Prop} (k : WorkClosed P) (b : LineBlind P)
    (serves : ∀ s t, s.phase = .running → s.Serves t → P s → P t) (i : Instr) (s : State) (h : P s) : P (takeRequest i s) := by
  cases e : requestBody i with
  | none => rw [takeRequest_none i s e]; exact h
  | some r =>
    obtain ⟨l, body⟩ := r
    obtain ⟨code, rest, rfl⟩ := requestBody_cons i l body e
    rw [takeRequest_eq i l code rest e]
    by_cases hs : s.phase = .running
    · have hf := b.frameEnded (l := l) h
      refine (State.request_keeps (P := fun t => t.phase = .running ∧ P t) ⟨hs, h⟩ ⟨hs, hf⟩ (fun _ r h => ⟨h.1, b.queueReply r h.2⟩)
        (fun _ h => ⟨h.1, b.pump h.2⟩) (fun t ht => ?_) fun _ => ?_).2
      · rcases closeRequest_cases i l with e | e | e <;> rw [e]
        · exact ⟨ht.1, k.pump l ht.2⟩
        · exact ⟨ht.1, k.pumpAll ht.2⟩
        · have hr : t.printersRun = true := by simp [State.printersRun, ht.1]
          exact ⟨(congrArg Settings.phase t.afterEvent_settings).trans ht.1, k.afterEvent hr ht.2⟩
      · rcases serveRequest_answers i l code rest (s.frameEnded l) e with ⟨-, w⟩ | ⟨-, -, -, d, w⟩
        · exact ⟨w.phase.trans hs, serves (s.frameEnded l) _ hs w hf⟩
        · exact ⟨w.phase.trans hs, serves ((s.frameEnded l).holdDeferred d) _ hs w (b (s.frameEnded l) _ hf)⟩
    · exact b.request_closed hs h

/-- Every event keeps a `P` that does not look at the lines, if the printers' work, the requests, the halts and start-up keep it. -/
theorem WorkClosed.blindEvents {P : State → Prop} (k : WorkClosed P) (b : LineBlind P)
    (serves : ∀ s t, s.phase = .running → s.Serves t → P s → P t) (halt : ∀ s, P s → P s.halt)
    (startUp : ∀ straps stage s, P s → P (s.startTo straps stage)) : EventsKeep P := by
  refine k.events (k.takes b serves) (fun l code status s h => b.refusal status h) (fun l first s h => b.rejectFrame first h)
    (fun l s h => b.frameSent h) (fun s h => ?_) (fun s h => k.rest (halt s h)) (fun s h => k.rest (halt s h)) startUp
  have h1 : P { s.halt with pfail := true } := k.rest (halt s h)
  exact b _ _ h1

/-! ## A session's figures -/

/-- The figures of a session agree (R48, R57, R60). -/
structure Session.Right (x : Session) : Prop where
  estimate : x.estimate + x.cash.voidedTotal + x.liftsTotal = x.float + x.cash.settledTotal
  covered : ∀ t, (x.tally t).voidedTotal + issuedTotal t x.journal ≤ (x.tally t).settledTotal

theorem State.tillKept_iff {s : State} : s.TillKept ↔ ∀ n, (s.session n).Right :=
  ⟨fun ⟨h1, h2⟩ n => ⟨h1 n, h2 n⟩, fun h => ⟨fun n => (h n).estimate, fun n => (h n).covered⟩⟩

/-- Tallies that differ in what is pending alone. -/
def Tally.SameSettled (a b : Tally) : Prop := b.settledTotal = a.settledTotal ∧ b.voidedTotal = a.voidedTotal

@[simp] theorem Session.setTally_tally (x : Session) (t u : Tender) (y : Tally) :
    (x.setTally t y).tally u = if u = t then y else x.tally u := by cases t <;> cases u <;> rfl

@[simp] theorem Session.setTally_estimate (x : Session) (t : Tender) (y : Tally) : (x.setTally t y).estimate = x.estimate := by
  cases t <;> rfl

@[simp] theorem Session.setTally_float (x : Session) (t : Tender) (y : Tally) : (x.setTally t y).float = x.float := by
  cases t <;> rfl

@[simp] theorem Session.setTally_liftsTotal (x : Session) (t : Tender) (y : Tally) : (x.setTally t y).liftsTotal = x.liftsTotal := by
  cases t <;> rfl

theorem issuedTotal_cons (t : Tender) (e : JournalEntry) (es : List JournalEntry) :
    issuedTotal t (e :: es) = (if e.isVoided = false ∧ e.tender = t then e.total else 0) + issuedTotal t es := by
  unfold issuedTotal
  by_cases h : e.isVoided = false ∧ e.tender = t
  · rw [if_pos h, List.filter_cons_of_pos (by simpa using h), List.map_cons, List.sum_cons]
  · rw [if_neg h, List.filter_cons_of_neg (by simpa using h), Nat.zero_add]

/-- Entries that leave the journal take what they cover along. -/
theorem issuedTotal_take_le (t : Tender) (n : Nat) (es : List JournalEntry) : issuedTotal t (es.take n) ≤ issuedTotal t es :=
  (((List.take_sublist n es).filter _).map _).sum_le_sum fun _ _ => Nat.zero_le _

/-- Voiding an ISSUED entry takes its charge from what may still be voided (R57). -/
theorem issuedTotal_voidEntry (t : Tender) {e : JournalEntry} (hv : e.isVoided = false) (es : List JournalEntry)
    (found : es.find? (·.issue == e.issue) = some e) :
    (if e.tender = t then e.total else 0) + issuedTotal t (voidEntry es e.issue) = issuedTotal t es := by
  unfold voidEntry
  induction es with
  | nil => cases found
  | cons x xs ih =>
    unfold changeFirst
    rw [List.find?_cons] at found
    by_cases hx : x.issue == e.issue
    · rw [hx] at found
      obtain rfl := Option.some.inj found
      rw [if_pos hx, issuedTotal_cons, issuedTotal_cons]
      simp [hv]
    · simp only [hx] at found
      rw [if_neg hx, issuedTotal_cons, issuedTotal_cons, ← ih found]
      omega

namespace Session.Right

variable {x y : Session}

/-- A write of a session that leaves these figures leaves them right. -/
theorem of_same (h : x.Right) (tally : ∀ t, (x.tally t).SameSettled (y.tally t)) (estimate : y.estimate = x.estimate)
    (float : y.float = x.float) (lifts : y.liftsTotal = x.liftsTotal) (journal : y.journal = x.journal) : y.Right := by
  refine ⟨?_, fun t => ?_⟩
  · obtain ⟨h1, h2⟩ := tally .cash
    have := h.estimate
    simp only [Session.tally] at h1 h2
    omega
  · obtain ⟨h1, h2⟩ := tally t
    rw [h1, h2, journal]
    exact h.covered t

/-- What is pending in one tally changes. -/
theorem setTally (h : x.Right) (t : Tender) (z : Tally) (hz : (x.tally t).SameSettled z) : (x.setTally t z).Right := by
  refine h.of_same (fun u => ?_) (by simp) (by simp) (by simp) (by simp)
  rw [Session.setTally_tally]
  split
  · rename_i e; rw [e]; exact hz
  · exact ⟨rfl, rfl⟩

/-- A charge settled rises with the estimate, for cash, and with its entry (R51, R53, R60). -/
theorem settle (h : x.Right) (e : JournalEntry) (estimate : Nat) (d : DrawerState)
    (he : estimate = x.estimate + if e.tender = .cash then e.total else 0) :
    ({ x.setTally e.tender ((x.tally e.tender).settle e.total) with
      journal := (e :: x.journal).take 32, estimate := estimate, drawer := d } : Session).Right := by
  refine ⟨?_, fun t => ?_⟩
  · have := h.estimate
    cases ht : e.tender <;> simp [ht, Session.setTally, Session.tally, Tally.settle, Tally.releasePending] at he ⊢ <;> omega
  · have h1 := issuedTotal_take_le t 32 (e :: x.journal)
    rw [issuedTotal_cons] at h1
    have h2 := h.covered t
    change ((x.setTally e.tender _).tally t).voidedTotal + issuedTotal t ((e :: x.journal).take 32) ≤
      ((x.setTally e.tender _).tally t).settledTotal
    rw [Session.setTally_tally]
    by_cases ht : t = e.tender
    · subst ht
      simp only [if_true, Tally.settle, Tally.releasePending]
      have : (if e.isVoided = false ∧ e.tender = e.tender then e.total else 0) ≤ e.total := by split <;> omega
      omega
    · rw [if_neg ht]
      rw [if_neg fun c => ht c.2.symm] at h1
      omega

/-- An entry voided moves its charge from what may be voided, and for cash from the estimate (R57, R60). -/
theorem void (h : x.Right) {e : JournalEntry} (hv : e.isVoided = false) (found : x.journal.find? (·.issue == e.issue) = some e)
    (estimate : Nat) (d : DrawerState) (he : estimate + (if e.tender = .cash then e.total else 0) = x.estimate) :
    ({ x.voided e with estimate := estimate, drawer := d } : Session).Right := by
  refine ⟨?_, fun t => ?_⟩
  · have := h.estimate
    cases ht : e.tender <;> simp [ht, Session.voided, Session.setTally, Session.tally, Tally.void] at he ⊢ <;> omega
  · have h1 := issuedTotal_voidEntry t hv x.journal found
    have h2 := h.covered t
    change ((x.setTally e.tender _).tally t).voidedTotal + issuedTotal t (voidEntry x.journal e.issue) ≤
      ((x.setTally e.tender _).tally t).settledTotal
    rw [Session.setTally_tally]
    by_cases ht : t = e.tender
    · subst ht
      simp only [if_true, Tally.void] at h1 ⊢
      omega
    · rw [if_neg ht]
      rw [if_neg (Ne.symm ht)] at h1
      omega

/-- A session with nothing settled, its estimate the float. -/
theorem fresh (h1 : y.estimate = y.float) (h2 : y.liftsTotal = 0) (h3 : ∀ t, y.tally t = .zero) (h4 : y.journal = []) : y.Right := by
  refine ⟨?_, fun t => ?_⟩
  · rw [h1, h2, show y.cash = .zero from h3 .cash]; simp [Tally.zero]
  · rw [h3, h4]; exact le_rfl

end Session.Right

/-! ## Writes of the till -/

namespace State.TillKept

variable {s t : State}

theorem of_sessions (h : s.TillKept) (sessions : t.till.sessions = s.till.sessions) : t.TillKept := by
  rw [State.tillKept_iff] at *
  intro n
  rw [show t.session n = s.session n from congrArg (·[n]) sessions]
  exact h n

theorem putSession (h : s.TillKept) (n : SessionId) (x : Session) (hx : (s.session n).Right → x.Right) : (s.putSession n x).TillKept := by
  rw [State.tillKept_iff] at *
  intro m
  rw [State.putSession_session]
  split
  · exact hx (h n)
  · exact h m

theorem releaseCharge (h : s.TillKept) (j : Job) : (s.releaseCharge j).TillKept :=
  h.putSession _ _ fun r => r.setTally _ _ ⟨rfl, rfl⟩

theorem settled (h : s.TillKept) (j : Job) : (s.putSession j.session (s.settledSession j)).TillKept := by
  refine h.putSession _ _ fun r => ?_
  unfold State.settledSession
  dsimp only
  split
  · rename_i hc
    exact r.settle (s.journalEntry j) _ _ (by rw [if_pos (show (s.journalEntry j).tender = .cash from hc)]; rfl)
  · rename_i hc
    let y := (s.session j.session).setTally j.tender (((s.session j.session).tally j.tender).settle j.total)
    have same : y.estimate = (s.session j.session).estimate := by simp [y]
    exact r.settle (s.journalEntry j) y.estimate y.drawer (by
      rw [if_neg (show (s.journalEntry j).tender ≠ .cash from hc)]; exact same)

/-- The printers' work keeps the sessions right. -/
theorem works {p : PrinterId} (w : s.Works p t) (h : s.TillKept) : t.TillKept := by
  induction w with
  | refl | calm | work => exact h
  | trans _ _ ih1 ih2 => exact ih2 (ih1 h)
  | rest sessions => exact h.of_sessions sessions
  | handOver s o => exact h.of_sessions (by rw [State.handOver_till])
  | count s n k f => exact h.putSession _ _ fun r => r.of_same (fun _ => ⟨rfl, rfl⟩) rfl rfl rfl rfl
  | released s g j => exact h.releaseCharge j
  | settled s g => exact h.settled g.job
  | admitted => exact h

theorem rewrites {n : SessionId} {x : Session} (w : s.Rewrites n x) (h : (s.session n).Right) : x.Right := by
  cases w with
  | signedOn clerk float d => exact .fresh rfl rfl (fun t => by cases t <;> rfl) rfl
  | voided e x found issued _ hx =>
    rcases hx with ⟨hc, rfl⟩ | ⟨hc, hle, d, rfl⟩
    · exact h.void issued found ((s.session n).voided e).estimate ((s.session n).voided e).drawer
        (by rw [if_neg hc]; simp [Session.voided])
    · exact h.void issued found _ _ (by rw [if_pos hc]; omega)
  | lifted amount d covered =>
    refine ⟨?_, h.covered⟩
    have := h.estimate
    dsimp only
    omega
  | turned st o d => exact h.of_same (fun _ => ⟨rfl, rfl⟩) rfl rfl rfl rfl

theorem dropJob (h : s.TillKept) (p : PrinterId) : (s.dropJob p).TillKept := h.of_sessions (by rw [State.dropJob_till])

/-- Serving a request keeps the sessions right. -/
theorem serves (w : s.Serves t) (h : s.TillKept) : t.TillKept := by
  induction w with
  | worked p w => exact h.works w.works
  | trans _ _ ih1 ih2 => exact ih2 (ih1 h)
  | session s n x r => exact h.putSession n x (rewrites r)
  | issued s l t p =>
    refine h.putSession l _ fun r => (r.setTally t.tender _ ?_).of_same (fun _ => ⟨rfl, rfl⟩) rfl rfl rfl rfl
    exact ⟨rfl, rfl⟩
  | withdrawn s n issue p j _ => exact h.releaseCharge (s := s.putLane p _) j
  | marked | diverted | outcomesRead | bodyWritten => exact h
  | divertedOne s a b =>
    unfold State.divertSuspended
    split
    · exact h
    · exact h.dropJob a

/-- A stage of start-up keeps the sessions right: what is pending is set to 0, or all figures are (R66, R198). -/
theorem runStage (straps : Straps) (s : State) (n : Nat) (h : s.TillKept) : (s.runStage straps n).TillKept := by
  have h1 : ({ s with phase := .starting (n + 1) } : State).TillKept := h
  unfold State.runStage
  generalize ({ s with phase := .starting (n + 1) } : State) = u at h1
  dsimp only
  split
  · exact h1
  · split
    · refine State.TillKept.of_sessions (s := u.putTill { u.till with sessions := Vector.ofFn fun n => (u.session n).settledOnly })
        ?_ (by unfold State.settleKept; rw [State.noteRecords_till]; rfl)
      rw [State.tillKept_iff] at h1 ⊢
      intro m
      rw [show State.session _ m = (u.session m).settledOnly by simp [State.session, State.putTill]]
      exact (h1 m).of_same (fun t => by cases t <;> exact ⟨rfl, rfl⟩) rfl rfl rfl rfl
    · rw [State.tillKept_iff]
      intro m
      rw [show (u.settleLost).session m = .storeLoss by simp [State.settleLost, State.session, Till.storeLoss]]
      exact .fresh rfl rfl (fun t => by cases t <;> rfl) rfl
  · exact of_sessions (h1.works (u.handOvers_works 0 u.setAside)) rfl
  · exact h1
  · split
    · rcases u.recover_worked _ with ⟨-, e⟩ | ⟨v, g, g', w, -, -, -, w'⟩
      · rw [e]; exact h1
      · have undone : v.TillKept := h1.works w.works
        exact works w'.works undone
    · exact h1

end State.TillKept

/-- Settles O53, over the moves of the printers' work and of the requests. -/
theorem tillStaysRight : Obligations.TillStaysRight := by
  intro s t h e
  have k : WorkClosed State.TillKept := fun _ _ _ w _ h => h.works w.works
  exact (k.blindEvents (fun _ _ h => h) (fun _ _ _ w h => h.serves w) (fun _ h => h)
    fun straps stage _ => State.startTo_keeps straps stage (State.TillKept.runStage straps)).step s t h e

end Sys2Proof.Machine

/-! # The pending tallies and the jobs outstanding

O54: what is pending of a session and tender is what its jobs in lanes and in progress come to. The jobs are summed printer by printer
under a weight, which is a job's charged total or 1 if it is of the session and tender, and 0 otherwise; so a move of one printer's jobs
changes the sum by what that printer's part changes. -/

namespace Sys2Proof.Machine

open Sys2Proof Sys2Proof.Machine

/-! ## Sums over the jobs outstanding -/

/-- A tally's pending total, or its pending count (R49). -/
def Tally.pending (t : Tally) (total : Bool) : Nat := if total then t.pendingTotal else t.pendingCount

/-- What a job adds to the pending total, or to the pending count, of a session and tender (R49). -/
def Job.dueIn (n : SessionId) (t : Tender) (total : Bool) (j : Job) : Nat :=
  if j.session = n ∧ j.tender = t then if total then j.total else 1 else 0

/-- The jobs of a list, weighted. -/
def weigh (w : Job → Nat) (js : List Job) : Nat := (js.map w).sum

/-- The jobs in a printer's lanes and in progress on it. -/
def State.jobsOn (s : State) (p : PrinterId) : List Job :=
  (s.lane p).office ++ (s.lane p).window ++ ((s.inProgress p).map (·.job)).toList

/-- All jobs outstanding, weighted. -/
def State.due (w : Job → Nat) (s : State) : Nat := weigh w (printers.flatMap s.jobsOn)

@[simp] theorem weigh_nil (w : Job → Nat) : weigh w [] = 0 := rfl

@[simp] theorem weigh_cons (w : Job → Nat) (j : Job) (js : List Job) : weigh w (j :: js) = w j + weigh w js := rfl

@[simp] theorem weigh_append (w : Job → Nat) (js ks : List Job) : weigh w (js ++ ks) = weigh w js + weigh w ks := by
  simp [weigh]

theorem weigh_map (w : Job → Nat) (f : Job → Job) (hf : ∀ j, w (f j) = w j) (js : List Job) : weigh w (js.map f) = weigh w js := by
  simp [weigh, Function.comp_def, hf]

theorem weigh_eq_zero {w : Job → Nat} {js : List Job} : weigh w js = 0 ↔ ∀ j ∈ js, w j = 0 := by
  simp [weigh, List.sum_eq_zero_iff]

/-- Filtered jobs weigh what all jobs weigh, those left out weighing nothing. -/
theorem weigh_filter (c : Job → Bool) (w : Job → Nat) (js : List Job) :
    weigh w (js.filter c) = weigh (fun j => if c j then w j else 0) js := by
  induction js with
  | nil => rfl
  | cons j js ih =>
    rw [List.filter_cons, weigh_cons, ← ih]
    split <;> simp

theorem State.due_eq (w : Job → Nat) (s : State) :
    s.due w = weigh w (s.jobsOn 0) + (weigh w (s.jobsOn 1) + (weigh w (s.jobsOn 2) + weigh w (s.jobsOn 3))) := by
  simp [State.due, printers]

/-- A change of one printer's jobs changes the sum by what they weigh more or less. -/
theorem State.due_change (w : Job → Nat) {s t : State} (p : PrinterId) (h : ∀ q, q ≠ p → t.jobsOn q = s.jobsOn q) :
    t.due w + weigh w (s.jobsOn p) = s.due w + weigh w (t.jobsOn p) := by
  rw [State.due_eq, State.due_eq]
  have h0 := h 0; have h1 := h 1; have h2 := h 2; have h3 := h 3
  fin_cases p <;> simp at h0 h1 h2 h3 ⊢ <;> simp only [h0, h1, h2, h3] <;> omega

theorem State.due_congr (w : Job → Nat) {s t : State} (h : ∀ q, weigh w (t.jobsOn q) = weigh w (s.jobsOn q)) : t.due w = s.due w := by
  rw [State.due_eq, State.due_eq, h, h, h, h]

/-- Two states with the jobs of one. -/
theorem State.jobsOn_congr {s t : State} {p : PrinterId} (lane : t.lane p = s.lane p) (job : t.inProgress p = s.inProgress p) :
    t.jobsOn p = s.jobsOn p := by
  unfold State.jobsOn; rw [lane, job]

/-- The pending tallies are right when each is the sum of its jobs' dues (R49). -/
theorem State.pendingRight_iff {s : State} :
    s.PendingRight ↔ ∀ n t b, ((s.session n).tally t).pending b = s.due (Job.dueIn n t b) := by
  have total (n : SessionId) (t : Tender) : ((s.outstandingJobs n t).map (·.total)).sum = s.due (Job.dueIn n t true) := by
    change weigh (·.total) (s.outstandingJobs n t) = _
    unfold State.outstandingJobs
    rw [weigh_filter]
    unfold State.due
    congr 1
    funext j
    simp [Job.dueIn]
  have count (n : SessionId) (t : Tender) : (s.outstandingJobs n t).length = s.due (Job.dueIn n t false) := by
    rw [show (s.outstandingJobs n t).length = weigh (fun _ => 1) (s.outstandingJobs n t) by simp [weigh]]
    unfold State.outstandingJobs
    rw [weigh_filter]
    unfold State.due
    congr 1
    funext j
    simp [Job.dueIn]
  refine forall₂_congr fun n t => ?_
  rw [total, count]
  simp [Bool.forall_bool, Tally.pending, and_comm]

theorem Job.SameDue.dueIn {j k : Job} (h : j.SameDue k) (n : SessionId) (t : Tender) (b : Bool) : k.dueIn n t b = j.dueIn n t b := by
  obtain ⟨h1, h2, h3⟩ := h
  unfold Job.dueIn
  rw [h1, h2, h3]

/-! ## What the moves of jobs weigh -/

section
variable {s : State} (w : Job → Nat) (p : PrinterId)

theorem State.jobsOn_putProgress (x : Option Progress) (q : PrinterId) : (s.putProgress p x).jobsOn q =
    if q = p then (s.lane p).office ++ (s.lane p).window ++ (x.map (·.job)).toList else s.jobsOn q := by
  unfold State.jobsOn
  rw [State.putProgress_inProgress, show (s.putProgress p x).lane q = s.lane q from rfl]
  split
  · rename_i e; rw [e]
  · rfl

theorem State.jobsOn_putLane (x : Lanes) (q : PrinterId) : (s.putLane p x).jobsOn q =
    if q = p then x.office ++ x.window ++ ((s.inProgress p).map (·.job)).toList else s.jobsOn q := by
  unfold State.jobsOn
  rw [State.putLane_lane, show (s.putLane p x).inProgress q = s.inProgress q from rfl]
  split
  · rename_i e; rw [e]
  · rfl

/-- The job in progress weighs on its own. -/
theorem State.due_putProgress (x : Option Progress) :
    (s.putProgress p x).due w + weigh w ((s.inProgress p).map (·.job)).toList = s.due w + weigh w (x.map (·.job)).toList := by
  have h := State.due_change w (s := s) (t := s.putProgress p x) p fun q hq => by rw [State.jobsOn_putProgress, if_neg hq]
  rw [State.jobsOn_putProgress, if_pos rfl, State.jobsOn] at h
  simp only [weigh_append] at h
  omega

/-- The lanes weigh on their own. -/
theorem State.due_putLane (x : Lanes) : (s.putLane p x).due w + (weigh w (s.lane p).office + weigh w (s.lane p).window) =
    s.due w + (weigh w x.office + weigh w x.window) := by
  have h := State.due_change w (s := s) (t := s.putLane p x) p fun q hq => by rw [State.jobsOn_putLane, if_neg hq]
  rw [State.jobsOn_putLane, if_pos rfl, State.jobsOn] at h
  simp only [weigh_append] at h
  omega

theorem Lanes.HeadIs.weigh {x rest : Lanes} {j : Job} (h : x.HeadIs j rest) :
    Machine.weigh w x.office + Machine.weigh w x.window = w j + (Machine.weigh w rest.office + Machine.weigh w rest.window) := by
  rcases h with ⟨ho, hw⟩ | ⟨ho, ho', hw⟩
  · rw [ho, hw, weigh_cons]; omega
  · rw [ho, ho', hw, weigh_cons, weigh_nil]; omega

theorem Lanes.weigh_join (x : Lanes) (j : Job) :
    weigh w (x.join j).office + weigh w (x.join j).window = weigh w x.office + weigh w x.window + w j := by
  unfold Lanes.join
  split <;> simp <;> omega

theorem weigh_dropFirst {test : Job → Bool} {j : Job} {js : List Job} (h : js.find? test = some j) :
    weigh w (dropFirst test js) + w j = weigh w js := by
  induction js with
  | nil => cases h
  | cons k ks ih =>
    rw [List.find?_cons] at h
    unfold dropFirst
    by_cases hk : test k
    · rw [hk] at h
      obtain rfl := Option.some.inj h
      rw [if_pos hk, weigh_cons, Nat.add_comm]
    · simp only [hk] at h
      rw [if_neg hk, weigh_cons, weigh_cons, ← ih h, Nat.add_assoc]

theorem dropFirst_of_none {test : Job → Bool} {js : List Job} (h : ∀ j ∈ js, test j = false) : dropFirst test js = js := by
  induction js with
  | nil => rfl
  | cons k ks ih =>
    unfold dropFirst
    rw [if_neg (by simp [h k (by simp)]), ih fun j hj => h j (List.mem_cons_of_mem _ hj)]

/-- The jobs that are taken and those that are left weigh what all do. -/
theorem weigh_take_drop (n : Nat) (js : List Job) : weigh w (js.drop (js.take n).length) + weigh w (js.take n) = weigh w js := by
  conv_rhs => rw [← List.prefix_iff_eq_append.mp (List.take_prefix n js)]
  rw [weigh_append, Nat.add_comm]

end
end Sys2Proof.Machine

/-! ## The jobs outstanding of a running part -/

namespace Sys2Proof.Machine

open Sys2Proof Sys2Proof.Machine

/-- An office lane holds session 7's jobs, a window lane the windows', and no job of either is marked (R89, R100). -/
def Lanes.Right (x : Lanes) : Prop :=
  (∀ j ∈ x.office, j.session = officeLine ∧ j.abortMark = false) ∧ ∀ j ∈ x.window, j.session ≠ officeLine ∧ j.abortMark = false

theorem Lanes.Right.join {x : Lanes} (h : x.Right) {j : Job} (hj : j.abortMark = false) : (x.join j).Right := by
  obtain ⟨h1, h2⟩ := h
  unfold Lanes.join
  split
  · rename_i e
    refine ⟨fun k hk => ?_, h2⟩
    rcases List.mem_append.mp hk with hk | hk
    · exact h1 k hk
    · obtain rfl := List.mem_singleton.mp hk; exact ⟨e, hj⟩
  · rename_i e
    refine ⟨h1, fun k hk => ?_⟩
    rcases List.mem_append.mp hk with hk | hk
    · exact h2 k hk
    · obtain rfl := List.mem_singleton.mp hk; exact ⟨e, hj⟩

/-- Lanes whose jobs are among those of lanes that are right. -/
theorem Lanes.Right.of_subset {x y : Lanes} (h : x.Right) (ho : y.office ⊆ x.office) (hw : y.window ⊆ x.window) : y.Right :=
  ⟨fun j hj => h.1 j (ho hj), fun j hj => h.2 j (hw hj)⟩

theorem Lanes.Right.append {x y : Lanes} (hx : x.Right) (hy : y.Right) :
    Lanes.Right ⟨x.office ++ y.office, x.window ++ y.window⟩ :=
  ⟨fun j hj => (List.mem_append.mp hj).elim (hx.1 j) (hy.1 j), fun j hj => (List.mem_append.mp hj).elim (hx.2 j) (hy.2 j)⟩

/-- Jobs that DIVERT moves keep their sessions and their marks (R101). -/
theorem Lanes.Right.moved {x : Lanes} (h : x.Right) (b : PrinterId) :
    Lanes.Right ⟨x.office.map (·.movedTo b), x.window.map (·.movedTo b)⟩ := by
  refine ⟨fun j hj => ?_, fun j hj => ?_⟩ <;> obtain ⟨k, hk, rfl⟩ := List.mem_map.mp hj
  exacts [h.1 k hk, h.2 k hk]

theorem Lanes.HeadIs.right {x rest : Lanes} {j : Job} (h : x.HeadIs j rest) (hx : x.Right) : rest.Right := by
  rcases h with ⟨ho, hw⟩ | ⟨-, ho', hw⟩
  · exact hx.of_subset (by rw [ho]; exact List.subset_cons_self ..) (by rw [hw]; exact List.Subset.refl _)
  · exact hx.of_subset (by rw [ho']; exact List.nil_subset _) (by rw [hw]; exact List.subset_cons_self ..)

/-- A session with a job outstanding is OPEN (R49, R156). -/
def Session.OpenIfDue (x : Session) : Prop := x.state = .opened ∨ x.outstanding = 0

/-- What the jobs outstanding of a running part agree in, but for the marks of the jobs in progress. -/
structure State.Dues (s : State) : Prop where
  pending : ∀ n t b, ((s.session n).tally t).pending b = s.due (Job.dueIn n t b)
  lanes : ∀ p, (s.lane p).Right
  opened : ∀ n, (s.session n).OpenIfDue

theorem State.dues_iff {s : State} :
    s.PendingRight ∧ s.LanesApart ∧ s.OpenWhilePending ∧ s.MarksSettled ↔ s.Dues ∧ ∀ p, s.MarkFree p := by
  constructor
  · rintro ⟨h1, h2, h3, h4, h5⟩
    exact ⟨⟨State.pendingRight_iff.mp h1, fun p => ⟨fun j hj => ⟨(h2 p).1 j hj, h4 p j (List.mem_append_left _ hj)⟩,
      fun j hj => ⟨(h2 p).2 j hj, h4 p j (List.mem_append_right _ hj)⟩⟩, h3⟩, h5⟩
  · rintro ⟨⟨h1, h2, h3⟩, h5⟩
    refine ⟨State.pendingRight_iff.mpr h1, fun p => ⟨fun j hj => ((h2 p).1 j hj).1, fun j hj => ((h2 p).2 j hj).1⟩, h3,
      fun p j hj => ?_, h5⟩
    rcases List.mem_append.mp hj with hj | hj
    exacts [((h2 p).1 j hj).2, ((h2 p).2 j hj).2]

/-- The pending figures of a session are those of another. -/
def Session.SamePending (x y : Session) : Prop := ∀ t b, (y.tally t).pending b = (x.tally t).pending b

theorem Session.SamePending.outstanding {x y : Session} (h : x.SamePending y) : y.outstanding = x.outstanding := by
  have h1 := h .cash false
  have h2 := h .card false
  have h3 := h .warrant false
  simp only [Session.tally, Tally.pending, Bool.false_eq_true, if_false] at h1 h2 h3
  unfold Session.outstanding
  omega

/-- A session whose figures fall by what a job of it is due. -/
structure Session.Released (j : Job) (x y : Session) : Prop where
  pending : ∀ t b, (y.tally t).pending b = (x.tally t).pending b - j.dueIn j.session t b
  state : y.state = x.state

theorem Session.Released.openIfDue {j : Job} {x y : Session} (h : x.Released j y) (hx : x.OpenIfDue) : y.OpenIfDue := by
  refine hx.imp h.state.trans fun h0 => ?_
  have h1 := h.pending .cash false
  have h2 := h.pending .card false
  have h3 := h.pending .warrant false
  simp only [Session.tally, Tally.pending, Bool.false_eq_true, if_false] at h1 h2 h3
  unfold Session.outstanding at h0 ⊢
  omega

theorem Session.released_setTally (x : Session) (j : Job) (y : Tally)
    (hy : ∀ b, y.pending b = (x.tally j.tender).pending b - if b then j.total else 1) : x.Released j (x.setTally j.tender y) := by
  refine ⟨fun t b => ?_, by cases j.tender <;> rfl⟩
  rw [Session.setTally_tally]
  unfold Job.dueIn
  by_cases e : t = j.tender
  · rw [if_pos e, if_pos ⟨rfl, e.symm⟩, hy, e]
  · rw [if_neg e, if_neg fun c => e c.2.symm, Nat.sub_zero]

theorem State.released_settledSession (s : State) (j : Job) : (s.session j.session).Released j (s.settledSession j) := by
  have h := (s.session j.session).released_setTally j (((s.session j.session).tally j.tender).settle j.total)
    fun b => by cases b <;> rfl
  unfold State.settledSession
  dsimp only
  split
  · exact ⟨fun t b => h.pending t b, h.state⟩
  · exact ⟨fun t b => h.pending t b, h.state⟩

theorem dropJob_progress {s : State} {p : PrinterId} {g : Progress} (hg : s.inProgress p = some g) :
    (s.dropJob p).progress = (s.putProgress p none).progress := by
  simp only [State.dropJob, hg, State.noteRecords_progress]
  rfl

namespace State.Dues

variable {s t : State}

theorem of_same (h : s.Dues) (sessions : t.till.sessions = s.till.sessions) (lanes : t.lanes = s.lanes)
    (progress : t.progress = s.progress) : t.Dues := by
  have hl (p : PrinterId) : t.lane p = s.lane p := congrArg (·[p]) lanes
  have hs (n : SessionId) : t.session n = s.session n := congrArg (·[n]) sessions
  refine ⟨fun n u b => ?_, fun p => by rw [hl]; exact h.lanes p, fun n => by rw [hs]; exact h.opened n⟩
  rw [hs, h.pending]
  exact (State.due_congr _ fun q => by rw [State.jobsOn_congr (hl q) (inProgress_of_progress progress q)]).symm

/-- A session is written with its pending figures. -/
theorem putSession (h : s.Dues) (n : SessionId) (x : Session) (same : (s.session n).SamePending x)
    (hx : (s.session n).OpenIfDue → x.OpenIfDue) : (s.putSession n x).Dues := by
  refine ⟨fun m t b => ?_, h.lanes, fun m => ?_⟩
  · refine Eq.trans ?_ (h.pending m t b)
    rw [State.putSession_session]
    split
    · rename_i e; rw [e]; exact same t b
    · rfl
  · rw [State.putSession_session]
    split
    · exact hx (h.opened n)
    · exact h.opened m

/-- A job is gone from where it stood, and its charge from its session. -/
theorem release {j : Job} {x : Session} (h : s.Dues) (u : State) (hx : (s.session j.session).Released j x)
    (session : ∀ n, u.session n = if n = j.session then x else s.session n) (lanes : ∀ p, (u.lane p).Right)
    (due : ∀ n t b, u.due (Job.dueIn n t b) + j.dueIn n t b = s.due (Job.dueIn n t b)) : u.Dues := by
  refine ⟨fun n t b => ?_, lanes, fun n => ?_⟩
  · have hd := due n t b
    rw [session]
    split
    · rename_i e
      rw [e] at hd ⊢
      rw [hx.pending, h.pending]
      omega
    · rename_i e
      rw [h.pending, ← hd, show j.dueIn n t b = 0 from if_neg fun c => e c.1.symm, Nat.add_zero]
  · rw [session]
    split
    · exact hx.openIfDue (h.opened _)
    · exact h.opened n

/-- The job in progress gives way to another with its charge, or to none as it takes its charge along. -/
theorem putProgress (h : s.Dues) {p : PrinterId} {g x : Progress} (hg : s.inProgress p = some g) (same : g.job.SameDue x.job) :
    (s.putProgress p (some x)).Dues := by
  refine ⟨fun n t b => (h.pending n t b).trans ?_, h.lanes, h.opened⟩
  have hd := State.due_putProgress (s := s) (Job.dueIn n t b) p (some x)
  rw [hg] at hd
  simp only [Option.map_some, Option.toList_some, weigh_cons, weigh_nil, same.dueIn] at hd
  omega

/-- A printer's lane and its job in progress are written, all their jobs weighing what they did. -/
theorem of_due (h : s.Dues) (sessions : t.till.sessions = s.till.sessions) (lanes : ∀ p, (t.lane p).Right)
    (due : ∀ n u b, t.due (Job.dueIn n u b) = s.due (Job.dueIn n u b)) : t.Dues := by
  have hs (n : SessionId) : t.session n = s.session n := congrArg (·[n]) sessions
  exact ⟨fun n u b => by rw [hs, due]; exact h.pending n u b, lanes, fun n => by rw [hs]; exact h.opened n⟩

theorem lane_put (h : s.Dues) (p : PrinterId) {x : Lanes} (hx : x.Right) (q : PrinterId) : ((s.putLane p x).lane q).Right := by
  rw [State.putLane_lane]
  split
  · exact hx
  · exact h.lanes q

theorem due_gone {p : PrinterId} {g : Progress} (hg : s.inProgress p = some g) (w : Job → Nat) :
    (s.putProgress p none).due w + w g.job = s.due w := by
  have hd := State.due_putProgress (s := s) w p none
  rw [hg] at hd
  simpa using hd

/-- The printers' work keeps the dues. -/
theorem works {p : PrinterId} (w : s.Works p t) (h : s.Dues) : t.Dues := by
  induction w with
  | refl => exact h
  | calm => exact h.of_same rfl rfl rfl
  | trans _ _ ih1 ih2 => exact ih2 (ih1 h)
  | rest sessions lanes progress => exact h.of_same sessions lanes progress
  | handOver s o => exact h.of_same (by rw [State.handOver_till]) (s.handOver_lanes o) (s.handOver_progress o)
  | count s n k f => exact h.putSession n _ (fun _ _ => rfl) id
  | work s g x hg same => exact h.putProgress hg same
  | released s g j hg same =>
    have hx := (s.session j.session).released_setTally j (((s.session j.session).tally j.tender).releasePending j.total)
      fun b => by cases b <;> rfl
    refine h.release _ hx (fun n => State.putSession_session ..) h.lanes fun n t b => ?_
    rw [same.dueIn]
    exact due_gone hg (Job.dueIn n t b)
  | settled s g hg =>
    exact h.release _ (s.released_settledSession g.job) (fun n => State.putSession_session ..) h.lanes
      fun n t b => due_gone hg (Job.dueIn n t b)
  | admitted s j x rest hn hl same =>
    refine h.of_due rfl (h.lane_put p (hl.right (h.lanes p))) fun n t b => ?_
    have h1 := State.due_putLane (s := s) (Job.dueIn n t b) p rest
    have h2 := State.due_putProgress (s := s.putLane p rest) (Job.dueIn n t b) p (some x)
    rw [hl.weigh] at h1
    rw [show (s.putLane p rest).inProgress p = none from hn] at h2
    simp only [Option.map_some, Option.toList_some, Option.map_none, Option.toList_none, weigh_cons, weigh_nil, same.dueIn] at h2
    omega

/-- Nothing is due in a session with no job outstanding. -/
theorem due_eq_zero (h : s.Dues) {n : SessionId} (none : (s.session n).outstanding = 0) (t : Tender) (b : Bool) :
    s.due (Job.dueIn n t b) = 0 := by
  have count : s.due (Job.dueIn n t false) = 0 := by
    rw [← h.pending]
    unfold Session.outstanding at none
    cases t <;> simp only [Session.tally, Tally.pending, Bool.false_eq_true, if_false] <;> omega
  unfold State.due at count ⊢
  rw [weigh_eq_zero] at count ⊢
  intro j hj
  have hj := count j hj
  unfold Job.dueIn at hj ⊢
  split at hj
  · cases hj
  · rename_i hc; exact if_neg hc

/-- What a request writes into a session leaves its pending figures; a session is signed on only when nothing of it is outstanding. -/
theorem rewrites {n : SessionId} {x : Session} (h : s.Dues) (w : s.Rewrites n x) : (s.putSession n x).Dues := by
  cases w with
  | signedOn clerk float d closed =>
    refine h.putSession n _ (fun t b => ?_) fun _ => .inl rfl
    have none : (s.session n).outstanding = 0 := (h.opened n).resolve_left (by simp [closed])
    rw [h.pending, h.due_eq_zero none]
    cases t <;> cases b <;> rfl
  | voided e x found issued opened hx =>
    have same : (s.session n).SamePending ((s.session n).voided e) := fun t b => by
      change (((s.session n).setTally e.tender _).tally t).pending b = _
      rw [Session.setTally_tally]
      split
      · rename_i e; rw [e]; cases b <;> rfl
      · rfl
    have stays : ((s.session n).voided e).state = .opened := opened ▸ by unfold Session.voided; cases e.tender <;> rfl
    rcases hx with ⟨-, rfl⟩ | ⟨-, -, d, rfl⟩
    · exact h.putSession n _ same fun _ => .inl stays
    · exact h.putSession n _ (fun t b => same t b) fun _ => .inl stays
  | lifted => exact h.putSession n _ (fun _ _ => rfl) id
  | turned st o d hst =>
    refine h.putSession n _ (fun _ _ => rfl) fun ho => ?_
    rcases hst with rfl | hst | hst
    exacts [.inl rfl, .inr (ho.resolve_left hst), .inr hst]

/-- The job of an issue accepted joins its lane, and its charge what is pending (R49, R85). -/
theorem issued (h : s.Dues) (l : Line) (x : IssueTerms) (p : PrinterId) (opened : (s.session l).state = .opened) :
    (s.acceptIssue l x p).Dues := by
  let j := s.newJob l x p
  have session (n : SessionId) : (s.acceptIssue l x p).session n =
      if n = l then { (s.session l).setTally x.tender (((s.session l).tally x.tender).addPending j.total) with
        nextIssue := nextIssueNumber (s.session l).nextIssue } else s.session n := State.putSession_session ..
  refine ⟨fun n t b => ?_, h.lane_put p ((h.lanes p).join rfl), fun n => ?_⟩
  · have h1 := State.due_putLane (s := s) (Job.dueIn n t b) p ((s.lane p).join j)
    rw [Lanes.weigh_join] at h1
    have h2 : (s.acceptIssue l x p).due (Job.dueIn n t b) = s.due (Job.dueIn n t b) + j.dueIn n t b := by
      rw [show (s.acceptIssue l x p).due (Job.dueIn n t b) = (s.putLane p ((s.lane p).join j)).due (Job.dueIn n t b) from rfl]
      omega
    rw [h2, session]
    split
    · rename_i e
      change (((s.session l).setTally x.tender _).tally t).pending b = _
      rw [Session.setTally_tally, e]
      have h3 := h.pending l t b
      by_cases et : t = x.tender
      · rw [if_pos et, ← h3, show j.dueIn l t b = if b then j.total else 1 from if_pos ⟨rfl, et.symm⟩, et]
        cases b <;> rfl
      · rw [if_neg et, ← h3, show j.dueIn l t b = 0 from if_neg fun c => et c.2.symm]
        rfl
    · rename_i e
      rw [h.pending, show j.dueIn n t b = 0 from if_neg fun c => e c.1.symm]
      rfl
  · rw [session]
    split
    · left
      change ((s.session l).setTally x.tender _).state = _
      rw [← opened]
      cases x.tender <;> rfl
    · exact h.opened n

theorem queuedJob_some {n : SessionId} {issue : Nat} {p : PrinterId} {j : Job} (h : s.queuedJob n issue = some (p, j)) :
    ((s.lane p).office ++ (s.lane p).window).find? (·.is n issue) = some j ∧ j.session = n ∧ j.issue = issue := by
  obtain ⟨q, -, hq⟩ := List.exists_of_findSome?_eq_some h
  obtain ⟨k, hk, e⟩ := Option.map_eq_some_iff.mp hq
  obtain ⟨rfl, rfl⟩ := Prod.mk.inj e
  have hi := List.find?_some hk
  simp only [Job.is, Bool.and_eq_true, beq_iff_eq] at hi
  exact ⟨hk, hi⟩

/-- A queued job stands in one of its printer's lanes alone, and leaves it (R89, R99). -/
theorem weigh_withdrawn (h : s.Dues) {n : SessionId} {issue : Nat} {p : PrinterId} {j : Job} (w : Job → Nat)
    (hq : s.queuedJob n issue = some (p, j)) :
    weigh w (dropFirst (·.is j.session j.issue) (s.lane p).office) + weigh w (dropFirst (·.is j.session j.issue) (s.lane p).window) + w j =
      weigh w (s.lane p).office + weigh w (s.lane p).window := by
  obtain ⟨hf, rfl, rfl⟩ := queuedJob_some hq
  obtain ⟨ho, hw⟩ := h.lanes p
  by_cases e : j.session = officeLine
  · have none : ∀ k ∈ (s.lane p).window, k.is j.session j.issue = false := fun k hk => by
      simp [Job.is, e, (hw k hk).1]
    rw [List.find?_append, (List.find?_eq_none (l := (s.lane p).window)).mpr (by simpa using none), Option.or_none] at hf
    rw [dropFirst_of_none none, ← weigh_dropFirst w hf]
    omega
  · have none : ∀ k ∈ (s.lane p).office, k.is j.session j.issue = false := fun k hk => by
      have : j.session ≠ officeLine := e
      simp [Job.is, (ho k hk).1, Ne.symm this]
    rw [List.find?_append, (List.find?_eq_none (l := (s.lane p).office)).mpr (by simpa using none), Option.none_or] at hf
    rw [dropFirst_of_none none, ← weigh_dropFirst w hf]
    omega

theorem withdrawn (h : s.Dues) {n : SessionId} {issue : Nat} {p : PrinterId} {j : Job} (hq : s.queuedJob n issue = some (p, j)) :
    (s.withdraw p j).Dues := by
  have hx := (s.session j.session).released_setTally j (((s.session j.session).tally j.tender).releasePending j.total)
    fun b => by cases b <;> rfl
  refine h.release _ hx (fun n => State.putSession_session ..) (h.lane_put p ?_) fun n t b => ?_
  · exact (h.lanes p).of_subset (dropFirst_mem _ _) (dropFirst_mem _ _)
  · have h1 := State.due_putLane (s := s) (Job.dueIn n t b) p ⟨dropFirst (·.is j.session j.issue) (s.lane p).office,
      dropFirst (·.is j.session j.issue) (s.lane p).window⟩
    have h2 := h.weigh_withdrawn (Job.dueIn n t b) hq
    dsimp only at h1
    change (s.putLane p _).due _ + _ = _
    omega

/-- The suspended job of one printer joins a lane of another (R101). -/
theorem divertedOne (h : s.Dues) (marks : ∀ p, s.MarkFree p) (a b : PrinterId) : (s.divertSuspended a b).Dues := by
  unfold State.divertSuspended
  split
  · exact h
  · rename_i j hj
    obtain ⟨g, hg, rfl, hst⟩ := divertible_some hj
    have right := (h.lanes b).join (j := g.job.movedTo b) (marks a g hg hst)
    have moved : ((s.putProgress a none).putLane b ((s.lane b).join (g.job.movedTo b))).Dues := by
      refine h.of_due rfl (h.lane_put b right) fun n t c => ?_
      have h1 := due_gone hg (Job.dueIn n t c)
      have h2 := State.due_putLane (s := s.putProgress a none) (Job.dueIn n t c) b ((s.lane b).join (g.job.movedTo b))
      rw [Lanes.weigh_join, show (g.job.movedTo b).dueIn n t c = g.job.dueIn n t c from rfl] at h2
      change _ + (weigh _ (s.lane b).office + weigh _ (s.lane b).window) = _ at h2
      omega
    refine moved.of_same ?_ ?_ ?_
    · exact congrArg Till.sessions (s.dropJob_till a)
    · dsimp only
      rw [dropJob_lane, State.putLane_lanes, State.dropJob_lanes]
      rfl
    · exact dropJob_progress hg

/-- Jobs of one printer's lanes go to another's (R101). -/
theorem diverted (h : s.Dues) {a b : PrinterId} (ne : a ≠ b) : (s.moveLanes a b).Dues := by
  let k := (s.lane a).office.take (2 - (s.lane b).office.length)
  let m := (s.lane a).window.take (8 - (s.lane b).window.length)
  let left : Lanes := ⟨(s.lane a).office.drop k.length, (s.lane a).window.drop m.length⟩
  let joined : Lanes := ⟨(s.lane b).office ++ k.map (·.movedTo b), (s.lane b).window ++ m.map (·.movedTo b)⟩
  have leftRight : left.Right := (h.lanes a).of_subset (List.drop_subset ..) (List.drop_subset ..)
  have movedRight : Lanes.Right ⟨k, m⟩ := (h.lanes a).of_subset (List.take_subset ..) (List.take_subset ..)
  rw [show s.moveLanes a b = (s.putLane a left).putLane b joined from rfl]
  refine h.of_due rfl (fun q => ?_) fun n t c => ?_
  · rw [State.putLane_lane]
    split
    · exact (h.lanes b).append (movedRight.moved b)
    · exact h.lane_put a leftRight q
  · have h1 := State.due_putLane (s := s) (Job.dueIn n t c) a left
    have h2 := State.due_putLane (s := s.putLane a left) (Job.dueIn n t c) b joined
    have h3 : weigh (Job.dueIn n t c) left.office + weigh (Job.dueIn n t c) k = weigh (Job.dueIn n t c) (s.lane a).office :=
      weigh_take_drop ..
    have h4 : weigh (Job.dueIn n t c) left.window + weigh (Job.dueIn n t c) m = weigh (Job.dueIn n t c) (s.lane a).window :=
      weigh_take_drop ..
    rw [State.putLane_lane, if_neg ne.symm] at h2
    have h5 : weigh (Job.dueIn n t c) joined.office = weigh (Job.dueIn n t c) (s.lane b).office + weigh (Job.dueIn n t c) k := by
      rw [weigh_append, weigh_map (Job.dueIn n t c) (·.movedTo b) fun _ => rfl]
    have h6 : weigh (Job.dueIn n t c) joined.window = weigh (Job.dueIn n t c) (s.lane b).window + weigh (Job.dueIn n t c) m := by
      rw [weigh_append, weigh_map (Job.dueIn n t c) (·.movedTo b) fun _ => rfl]
    omega

end State.Dues

/-! ## The jobs outstanding, with the marks -/

/-- What a running part's jobs outstanding agree in (R49, R81, R89, R100, R156). -/
structure State.Agrees (s : State) : Prop where
  dues : s.Dues
  marks : ∀ p, s.MarkFree p

theorem State.agrees_iff {s : State} : s.PendingRight ∧ s.LanesApart ∧ s.OpenWhilePending ∧ s.MarksSettled ↔ s.Agrees :=
  State.dues_iff.trans ⟨fun ⟨h1, h2⟩ => ⟨h1, h2⟩, fun ⟨h1, h2⟩ => ⟨h1, h2⟩⟩

/-- A printer's work leaves the other printers' jobs in progress as they are. -/
theorem State.Works.inProgress_ne {p : PrinterId} {s t : State} (w : s.Works p t) {q : PrinterId} (hq : q ≠ p) :
    t.inProgress q = s.inProgress q := by
  induction w with
  | refl | calm | count => rfl
  | trans _ _ ih1 ih2 => exact ih2.trans ih1
  | rest _ _ progress => exact inProgress_of_progress progress q
  | handOver s o => exact inProgress_of_progress (s.handOver_progress o) q
  | work | released | settled | admitted => exact (State.putProgress_inProgress ..).trans (if_neg hq)

namespace State.Agrees

variable {s t : State}

theorem worked (h : s.Agrees) {p : PrinterId} (w : s.Worked True p t) : t.Agrees := by
  refine ⟨h.dues.works w.works, fun q => ?_⟩
  by_cases hq : q = p
  · rw [hq]; exact w.marks trivial (h.marks p)
  · intro g hg
    rw [w.works.inProgress_ne hq] at hg
    exact h.marks q g hg

theorem marks_of_progress (h : s.Agrees) (hp : t.progress = s.progress) (p : PrinterId) : t.MarkFree p := (h.marks p).of_progress hp

/-- Serving a request keeps the agreement. -/
theorem serves (w : s.Serves t) (h : s.Agrees) : t.Agrees := by
  induction w with
  | worked p w => exact h.worked w
  | trans _ _ ih1 ih2 => exact ih2 (ih1 h)
  | session s n x r => exact ⟨h.dues.rewrites r, h.marks⟩
  | issued s l x p opened => exact ⟨h.dues.issued l x p opened, h.marks⟩
  | withdrawn s n issue p j hq => exact ⟨h.dues.withdrawn hq, h.marks⟩
  | marked s p g hg hs =>
    have dues : (s.putProgress p (some { g with job := { g.job with abortMark := true } })).Dues := h.dues.putProgress hg ⟨rfl, rfl, rfl⟩
    refine ⟨dues.of_same rfl rfl rfl, fun q x hx hst => ?_⟩
    change (s.putProgress p _).inProgress q = _ at hx
    rw [State.putProgress_inProgress] at hx
    split at hx
    · obtain rfl := Option.some.inj hx; exact absurd hst hs
    · exact h.marks q x hx hst
  | divertedOne s a b =>
    refine ⟨h.dues.divertedOne h.marks a b, fun q x hx => ?_⟩
    unfold State.divertSuspended at hx
    split at hx
    · exact h.marks q x hx
    · change (s.dropJob a).inProgress q = _ at hx
      by_cases hq : q = a
      · rw [hq, dropJob_inProgress_self] at hx; cases hx
      · rename_i j hj
        obtain ⟨g, hg, -, -⟩ := divertible_some hj
        rw [inProgress_of_progress (dropJob_progress hg), State.putProgress_inProgress, if_neg hq] at hx
        exact h.marks q x hx
  | diverted s a b ne => exact ⟨h.dues.diverted ne, h.marks⟩
  | outcomesRead s l => exact ⟨h.dues.of_same rfl rfl rfl, h.marks⟩
  | bodyWritten s l bytes => exact ⟨h.dues.of_same rfl rfl rfl, h.marks⟩

end State.Agrees

/-! ## Start-up, and every event -/

/-- Nothing is pending, in progress or queued, as the last stages of start-up find it (R198, R199). -/
structure State.Cleared (s : State) : Prop where
  pending : ∀ n t b, ((s.session n).tally t).pending b = 0
  jobs : ∀ p, s.inProgress p = none
  lanes : ∀ p, s.lane p = ⟨[], []⟩

namespace State.Cleared

variable {s t : State}

/-- With no job, the printers' work changes none of it. -/
theorem works {p : PrinterId} (w : s.Works p t) (h : s.Cleared) : t.Cleared := by
  induction w with
  | refl => exact h
  | calm => exact ⟨h.pending, h.jobs, h.lanes⟩
  | trans _ _ ih1 ih2 => exact ih2 (ih1 h)
  | rest sessions lanes progress =>
    refine ⟨fun n u b => ?_, fun q => (inProgress_of_progress progress q).trans (h.jobs q), fun q => ?_⟩
    · exact (congrArg (fun v : Vector Session 7 => ((v[n]).tally u).pending b) sessions).trans (h.pending n u b)
    · exact (congrArg (·[q]) lanes).trans (h.lanes q)
  | handOver s o =>
    refine ⟨fun n u b => ?_, fun q => (inProgress_of_progress (s.handOver_progress o) q).trans (h.jobs q), fun q => ?_⟩
    · exact (congrArg (fun v : Till => ((v.sessions[n]).tally u).pending b) (s.handOver_till o)).trans (h.pending n u b)
    · exact (congrArg (·[q]) (s.handOver_lanes o)).trans (h.lanes q)
  | count s n k f =>
    refine ⟨fun m u b => ?_, h.jobs, h.lanes⟩
    rw [State.countKind, State.putSession_session]
    split
    exacts [h.pending n u b, h.pending m u b]
  | work s g x hg | released s g x hg | settled s g hg => rw [h.jobs p] at hg; cases hg
  | admitted s j x rest hn hl => rcases hl with ⟨hl, -⟩ | ⟨-, -, hl⟩ <;> rw [h.lanes p] at hl <;> cases hl

/-- Such a part agrees. -/
theorem agrees (h : s.Cleared) : s.Agrees := by
  have none (p : PrinterId) : s.jobsOn p = [] := by unfold State.jobsOn; rw [h.lanes, h.jobs]; rfl
  refine ⟨⟨fun n t b => ?_, fun p => ?_, fun n => .inr ?_⟩, fun p => .of_none (h.jobs p)⟩
  · rw [h.pending, State.due_eq, none, none, none, none]; rfl
  · rw [h.lanes]; exact ⟨by simp, by simp⟩
  · have h1 := h.pending n .cash false
    have h2 := h.pending n .card false
    have h3 := h.pending n .warrant false
    simp only [Session.tally, Tally.pending, Bool.false_eq_true, if_false] at h1 h2 h3
    unfold Session.outstanding
    omega

end State.Cleared

/-- The figures of two states with one phase, result, till, lanes and jobs in progress. -/
theorem State.PendingKept.of_same {s t : State} (h : s.PendingKept) (phase : t.phase = s.phase) (result : t.startResult = s.startResult)
    (same : s.SameJobs t) : t.PendingKept := by
  have hj (p : PrinterId) : t.inProgress p = s.inProgress p := inProgress_of_progress same.progress p
  have hl (p : PrinterId) : t.lane p = s.lane p := congrArg (·[p]) same.lanes
  have hs (n : SessionId) : t.session n = s.session n := congrArg (·[n]) same.sessions
  refine ⟨fun n hn => ?_, fun hr => ?_⟩
  · simp only [result, hj, hl, hs]
    exact h.1 n (phase ▸ hn)
  · have agrees := State.agrees_iff.mp (h.2 (phase ▸ hr))
    exact State.agrees_iff.mpr ⟨agrees.dues.of_same same.sessions same.lanes same.progress, agrees.marks_of_progress same.progress⟩

/-- The printers run on their way to the opening of the lines once all is cleared (R199). -/
theorem State.PendingKept.cleared {s : State} (h : s.PendingKept) {n : Nat} (hp : s.phase = .starting n) (hn : 7 ≤ n) : s.Cleared := by
  obtain ⟨-, jobs, pending, lanes⟩ := h.1 n hp
  refine ⟨fun m t b => ?_, jobs (by omega), lanes hn⟩
  obtain ⟨h1, h2⟩ := pending (by omega) m t
  cases b
  exacts [h2, h1]

theorem State.Cleared.kept {s : State} (h : s.Cleared) : s.PendingKept :=
  ⟨fun _ _ => ⟨fun _ p _ => h.jobs p, fun _ => h.jobs, fun _ n t => ⟨h.pending n t true, h.pending n t false⟩, fun _ => h.lanes⟩,
    fun _ => State.agrees_iff.mpr h.agrees⟩

theorem State.Agrees.kept {s : State} (h : s.Agrees) (hr : s.phase = .running) : s.PendingKept :=
  ⟨fun n hn => (by rw [hr] at hn; cases hn), fun _ => State.agrees_iff.mpr h⟩

theorem State.Works.startResult {p : PrinterId} {s t : State} (w : s.Works p t) : t.startResult = s.startResult := by
  induction w with
  | refl | calm | count | work | released | settled | admitted => rfl
  | trans _ _ ih1 ih2 => exact ih2.trans ih1
  | rest _ _ _ _ _ result => exact result
  | handOver s o => exact congrArg Settings.startResult (s.handOver_settings o)

theorem pendingKept_workClosed : WorkClosed State.PendingKept := by
  intro p s t w guard h
  rcases guard with hr | same
  · cases hp : s.phase with
    | halted => simp [State.printersRun, hp] at hr
    | running => exact ((State.agrees_iff.mp (h.2 hp)).worked w).kept (w.works.phase.trans hp)
    | starting n =>
      have hn : 7 ≤ n := by simpa [State.printersRun, hp] using hr
      exact ((h.cleared hp hn).works w.works).kept
  · exact h.of_same w.works.phase w.works.startResult same

/-- What start-up has done when it took its first `m` stages. -/
theorem State.PendingKept.of_starting {s : State} {m : Nat} (hp : s.phase = .starting m)
    (kept : s.startResult = .storeKept → ∀ p : PrinterId, p.val + 2 ≤ m → s.inProgress p = none)
    (jobs : 6 ≤ m → ∀ p, s.inProgress p = none) (pending : 6 ≤ m → ∀ n t b, ((s.session n).tally t).pending b = 0)
    (lanes : 7 ≤ m → ∀ p, s.lane p = ⟨[], []⟩) : s.PendingKept := by
  refine ⟨fun n hn => ?_, fun hr => by rw [hp] at hr; cases hr⟩
  obtain rfl : m = n := by rw [hp] at hn; injection hn
  exact ⟨kept, jobs, fun hm n t => ⟨pending hm n t true, pending hm n t false⟩, lanes⟩

theorem State.recover_inProgress (s : State) (p q : PrinterId) :
    (s.recover p).inProgress q = if q = p then none else s.inProgress q := by
  split
  · rename_i e
    rw [e]
    unfold State.recover
    split
    · rename_i hg; exact hg
    · exact dropJob_inProgress_self
  · rename_i hq
    rcases s.recover_worked p with ⟨-, e⟩ | ⟨u, g, g', w, -, -, -, w'⟩
    · rw [e]
    · rw [w'.works.inProgress_ne hq, State.putProgress_inProgress, if_neg hq, w.works.inProgress_ne hq]

theorem State.recover_phase (s : State) (p : PrinterId) :
    (s.recover p).phase = s.phase ∧ (s.recover p).startResult = s.startResult := by
  rcases s.recover_worked p with ⟨-, e⟩ | ⟨u, g, g', w, -, -, -, w'⟩
  · rw [e]; exact ⟨rfl, rfl⟩
  · exact ⟨w'.works.phase.trans w.works.phase, w'.works.startResult.trans w.works.startResult⟩

/-- A kept store's job in progress on the printer whose turn it is ends (R198). -/
theorem pendingKept_recovered {s : State} {n : Nat} (hn : n ≤ 4) (hp : s.phase = .starting (n + 1)) (p : PrinterId) (hpn : p.val + 1 = n)
    (before : s.startResult = .storeKept → ∀ q : PrinterId, q.val + 2 ≤ n → s.inProgress q = none) : (s.recover p).PendingKept := by
  obtain ⟨phase, result⟩ := s.recover_phase p
  refine .of_starting (phase.trans hp) (fun hk q hq => ?_) (by omega) (by omega) (by omega)
  rw [s.recover_inProgress]
  split
  · rfl
  · rename_i hne
    have : q.val ≠ p.val := fun e => hne (Fin.ext e)
    exact before (result ▸ hk) q (by omega)

/-- With the retained items settled nothing is pending, whether or not the store was kept (R66, R198). -/
theorem pendingKept_retained {s : State} (hp : s.phase = .starting 6) (result : s.startResult = .storeKept → ∀ p, s.inProgress p = none) :
    (match s.startResult with
      | .storeKept => s.settleKept
      | .storeLost => s.settleLost).PendingKept := by
  split
  · rename_i hr
    have progress : s.settleKept.progress = s.progress := State.noteRecords_progress ..
    have jobs (p : PrinterId) : s.settleKept.inProgress p = none := (inProgress_of_progress progress p).trans (result hr p)
    refine .of_starting (m := 6) ?_ (fun _ p _ => jobs p) (fun _ => jobs) (fun _ n t b => ?_) (by omega)
    · exact (congrArg Settings.phase (State.noteRecords_settings _)).trans hp
    · have till : s.settleKept.till = { s.till with sessions := Vector.ofFn fun n => (s.session n).settledOnly } :=
        State.noteRecords_till ..
      rw [State.session, till]
      simp only [Fin.getElem_fin, Vector.getElem_ofFn, Fin.eta]
      cases t <;> cases b <;> rfl
  · have jobs (p : PrinterId) : s.settleLost.inProgress p = none := by simp [State.settleLost, State.inProgress]
    refine .of_starting (m := 6) hp (fun _ p _ => jobs p) (fun _ => jobs) (fun _ n t b => ?_) (by omega)
    rw [show s.settleLost.session n = .storeLoss by simp [State.settleLost, State.session, Till.storeLoss]]
    cases t <;> cases b <;> rfl

/-- The lanes are emptied (R199). -/
theorem cleared_volatileStage {s : State} (jobs : ∀ p, s.inProgress p = none) (pending : ∀ n t b, ((s.session n).tally t).pending b = 0) :
    s.volatileStage.Cleared := by
  have till : s.volatileStage.till = s.till := State.handOvers_frame State.till (fun t o => t.handOver_till o) _ s
  have progress : s.volatileStage.progress = s.progress :=
    State.handOvers_frame State.progress (fun t o => t.handOver_progress o) _ s
  refine ⟨fun n t b => ?_, fun p => (inProgress_of_progress progress p).trans (jobs p), fun p => ?_⟩
  · rw [State.session, till]; exact pending n t b
  · simp [State.volatileStage, State.lane]

/-- A stage of start-up does its part: a kept store's jobs end printer by printer, then nothing is pending, then nothing queued. -/
theorem pendingKept_runStage (straps : Straps) (s : State) (n : Nat) (hn : n ≤ 7) (taken : s.phase.stagesTaken = n)
    (h : s.PendingKept) : (s.runStage straps n).PendingKept := by
  have starting : 0 < n → s.phase = .starting n := fun h0 => by
    cases hp : s.phase with
    | halted => rw [hp] at taken; exact absurd taken (Nat.ne_of_lt h0)
    | running => rw [hp] at taken; change 8 = n at taken; omega
    | starting m => rw [hp] at taken; exact congrArg Phase.starting taken
  unfold State.runStage
  dsimp only
  split
  · exact .of_starting (m := 1) rfl (by omega) (by omega) (by omega) (by omega)
  · exact pendingKept_retained (s := { s with phase := .starting 6 }) rfl fun hk p => (h.1 5 (starting (by omega))).1 hk p (by omega)
  · obtain ⟨-, jobs, pending, -⟩ := h.1 6 (starting (by omega))
    refine (cleared_volatileStage (s := { s with phase := .starting 7 }) (jobs le_rfl) fun n t b => ?_).kept
    obtain ⟨h1, h2⟩ := pending le_rfl n t
    cases b
    exacts [h2, h1]
  · have cleared := h.cleared (starting (by omega)) le_rfl
    have opened : State.Cleared { s with phase := .running } := ⟨cleared.pending, cleared.jobs, cleared.lanes⟩
    exact (opened.kept).of_same rfl rfl ⟨rfl, rfl, rfl⟩
  · rename_i n0 n5 n6 n7
    have small : n ≤ 4 := by
      have : n ≠ 5 := n5; have : n ≠ 6 := n6; have : n ≠ 7 := n7
      omega
    have before := (h.1 n (starting (Nat.pos_of_ne_zero n0))).1
    split
    · rename_i p hp _
      refine pendingKept_recovered (s := { s with phase := .starting (n + 1) }) small rfl p ?_ before
      unfold printerOf idOf at hp
      split at hp
      · obtain rfl := Option.some.inj hp
        change n - 1 + 1 = n
        omega
      · cases hp
    · rename_i hno
      refine .of_starting (m := n + 1) rfl (fun hk p hp => ?_) (by omega) (by omega) (by omega)
      have hn0 : n ≠ 0 := n0
      exact absurd hk (hno ⟨n - 1, by omega⟩ (by unfold printerOf idOf; rw [dif_pos (by omega)]))

/-- Settles O54: the moves of a printer's work and of the requests change the tallies and the jobs together. -/
theorem pendingStaysRight : Obligations.PendingStaysRight := by
  intro s t h e
  have halted : ∀ u : State, u.phase = .halted → u.PendingKept := fun u hu =>
    ⟨fun n hn => (by rw [hu] at hn; cases hn), fun hr => (by rw [hu] at hr; cases hr)⟩
  exact (pendingKept_workClosed.blindEvents (fun _ _ h => h)
    (fun u v hr w h => ((State.agrees_iff.mp (h.2 hr)).serves w).kept (w.phase.trans hr)) (fun _ _ => halted _ rfl)
    fun straps stage u h => State.startTo_stage straps stage u h fun v n hn hv hk =>
      ⟨pendingKept_runStage straps v n hn hv hk, v.runStage_stagesTaken straps n hn⟩).step s t h e

end Sys2Proof.Machine

/-! # The till's requests: SIGN ON, LIFT, READ TILL and READ JOURNAL -/

namespace Sys2Proof.Machine

open Sys2Proof Sys2Proof.Machine

variable {s : State}

/-! ## SIGN ON (O3) -/

/-- What SIGN ON answers at the end of its frame: its two checks, and the session it opens (R46). -/
theorem signOn_served (l : Line) (clerk float : Nat) : serveSignOn l clerk float (s.frameEnded l) =
    if (s.session l).state ≠ .closed then refuse (s.frameEnded l) .sessionOpen
    else if clerk < 1 ∨ 9999 < clerk ∨ 500000 < float then refuse (s.frameEnded l) .badParameter
    else accept ((((s.putSession l (.signedOn clerk float s.stampNow)).updateEstimate l float .normal).pulse l).frameEnded l)
      (byteOf (l.val + 1) :: be 2 s.clock.day) := by
  simp only [serveSignOn, State.frameEnded_session, State.frameEnded_stampNow, State.frameEnded_putSession,
    State.frameEnded_updateEstimate, State.frameEnded_pulse, State.frameEnded_clock]

/-- Settles O3: the checks of SIGN ON in their order; the estimate of the session opened is the float. -/
theorem signOnOpensSession : Obligations.SignOnOpensSession := by
  intro s l clerk float h
  rw [exec_ready (.signOn l clerk float) rfl (by decide) (.inr (by decide)) h]
  congr 1
  change (serveSignOn l clerk float (s.frameEnded l)).finish l 0x10 State.closeLines = _
  rw [signOn_served]
  split
  · exact Served.finish_of_refuse rfl
  · split
    · exact Served.finish_of_refuse rfl
    · refine (Served.finish_of_accept rfl).trans ?_
      rw [State.updateEstimate_eq]
      rfl

/-! ## LIFT (O5) -/

/-- What LIFT answers for a session at the end of its frame: the checks of R59 in their order, and its effect. -/
theorem lift_served (n : SessionId) (amount : Nat) (x : Session) (hx : s.session n = x) :
    serveLift officeLine (n.val + 1) amount (s.frameEnded officeLine) =
      if amount < 1 ∨ 9999999 < amount then refuse (s.frameEnded officeLine) .badParameter
      else if x.state = .closed then refuse (s.frameEnded officeLine) .wrongState
      else if x.state = .cashup then refuse (s.frameEnded officeLine) .inCashup
      else if x.estimate < amount then refuse (s.frameEnded officeLine) .drawerShort
      else if x.liftsCount = 65535 then refuse (s.frameEnded officeLine) .badParameter
      else accept ((((s.putSession n { x with liftsTotal := x.liftsTotal + amount, liftsCount := x.liftsCount + 1 }).updateEstimate n
        (x.estimate - amount) x.drawer).pulse n).frameEnded officeLine) (be 4 (x.estimate - amount)) := by
  simp only [serveLift, sessionOf_succ, State.frameEnded_session, hx, State.frameEnded_putSession, State.frameEnded_updateEstimate,
    State.frameEnded_pulse]
  split
  · rfl
  · cases x.state <;> rfl

/-- Settles O5: a window line may not send LIFT; on the office line it is its checks and its effect. -/
theorem liftTakesCash : Obligations.LiftTakesCash := by
  refine ⟨fun s l session amount hl h => ?_, fun s amount h => ⟨fun session hs => ?_, fun n => ?_⟩⟩
  · rw [exec_request (.lift l session amount) s rfl, takeRequest_eq (.lift l session amount) l 0x12 _ rfl]
    refine congrArg _ (s.request_test l 0x12 _ _ .notPermitted (by simp [h.1]) h.2.2 ?_)
    have running : (s.frameEnded l).phase = .running := h.1
    have free : ((s.frameEnded l).line l).deferred = none := by simp [h.2.1]
    simp only [State.lineTest, running, free]
    simp [requestCodes, officeCodes, hl]
  all_goals rw [exec_ready (.lift officeLine _ amount) rfl (by decide) (.inl rfl) h]; congr 1
  · exact Served.finish_of_refuse (by simp only [serveRequest, serveLift, sessionOf_out hs])
  · change (serveLift officeLine (n.val + 1) amount (s.frameEnded officeLine)).finish officeLine 0x12 State.closeLines = _
    rw [lift_served n amount _ rfl]
    iterate 5
      split
      · exact Served.finish_of_refuse rfl
    refine (Served.finish_of_accept rfl).trans ?_
    rw [State.updateEstimate_eq]
    rfl

/-! ## READ TILL and READ JOURNAL (O6) -/

theorem be_one (x : Nat) : be 1 x = [byteOf x] := by simp [be, byteOf]

/-- A line reaches a session, or is refused it (R44). -/
theorem reachSession_cases (l : Line) (n : SessionId) :
    reachSession l (n.val + 1) = if l ≠ officeLine ∧ n ≠ l then .error .notPermitted else .ok n := by
  rw [reachSession_succ]
  by_cases hl : l = officeLine <;> by_cases hn : n = l <;> simp [hl, hn]

/-- Settles O6: the fields of R64 and R55, read of the state as it is. -/
theorem tillIsRead : Obligations.TillIsRead := by
  refine fun s l h => ⟨fun session hs => ⟨?_, fun position => ?_⟩, fun n => ⟨?_, fun position => ?_⟩⟩
  · rw [exec_ready (.readTill l session) rfl (by decide) (.inr (by decide)) h]
    exact congrArg _ (Served.finish_of_refuse (by simp only [serveRequest, serveReadTill, reachSession_out l hs]))
  · rw [exec_ready (.readJournal l session position) rfl (by decide) (.inr (by decide)) h]
    exact congrArg _ (Served.finish_of_refuse (by simp only [serveRequest, serveReadJournal, sessionOf_out hs]))
  · rw [exec_ready (.readTill l (n.val + 1)) rfl (by decide) (.inr (by decide)) h]
    congr 1
    split <;> rename_i hc
    · exact Served.finish_of_refuse (by simp only [serveRequest, serveReadTill, reachSession_cases, if_pos hc])
    · refine Served.finish_of_said ?_
      simp only [serveRequest, serveReadTill, reachSession_cases, if_neg hc]
      congr 1
      simp only [State.tillBytes, be_one, Tally.bytes, Tally.settledBytes, stampDayBytes, List.flatMap_cons, List.flatMap_nil,
        List.append_assoc, List.cons_append, List.nil_append]
      rfl
  · rw [exec_ready (.readJournal l (n.val + 1) position) rfl (by decide) (.inr (by decide)) h]
    have served : serveReadJournal l (n.val + 1) position (s.frameEnded l) =
        if position < 1 ∨ 32 < position then refuse (s.frameEnded l) .badParameter
        else if (s.session n).journal.length < position then refuse (s.frameEnded l) .notFound
        else if l ≠ officeLine ∧ n ≠ l then refuse (s.frameEnded l) .notPermitted
        else accept (s.frameEnded l) (be 1 (s.session n).journal.length ++
          be 1 (min 4 ((s.session n).journal.length - (position - 1))) ++
          (((s.session n).journal.drop (position - 1)).take 4).flatMap JournalEntry.bytes) := by
      simp only [serveReadJournal, sessionOf_succ, reachSession_cases, State.frameEnded_session, be_one, List.length_take,
        List.length_drop]
      by_cases hc : l ≠ officeLine ∧ n ≠ l
      · simp only [if_pos hc]
      · simp only [if_neg hc]
        rfl
    congr 1
    change (serveReadJournal l (n.val + 1) position (s.frameEnded l)).finish l 0x15 (·.pump l) = _
    rw [served]
    iterate 3
      split
      · exact Served.finish_of_refuse rfl
    exact Served.finish_of_said rfl

end Sys2Proof.Machine

/-! # ISSUE -/

namespace Sys2Proof.Machine

open Sys2Proof Sys2Proof.Machine

variable {s : State} {l : Line}

/-! ## The parameters (R84) -/

@[simp] theorem State.frameEnded_body (s : State) (l m : Line) : ((s.frameEnded l).line m).body = (s.line m).body := by
  rw [State.frameEnded_line]
  split
  · rename_i e; rw [e]
  · rfl

theorem Tender.ofCode_code (t : Tender) : Tender.ofCode t.code = some t := by cases t <;> rfl

theorem Tender.ofCode_out {x : Nat} (h : x < 1 ∨ 3 < x) : Tender.ofCode x = none := by
  unfold Tender.ofCode
  split <;> first | omega | rfl

/-- The printer as a line's ISSUE names it: the office's, and none of a window. -/
def namedAs (l : Line) (p : Nat) : Option Nat := if l = officeLine then some p else none

theorem issueFits_namedAs (l : Line) (p : Nat) {text : List Byte} (ht : text.length ≤ 12) : issueFits l (namedAs l p) text = true := by
  unfold issueFits namedAs
  split <;> simp_all

theorem namedPrinter_succ (l : Line) (p : PrinterId) :
    namedPrinter l (namedAs l (p.val + 1)) = some (if l = officeLine then some p else none) := by
  unfold namedPrinter namedAs
  by_cases hl : l = officeLine <;> simp [hl]

/-- The text that a tender does not allow (R84). -/
theorem textAllowed_iff (t : Tender) {text : List Byte} (ht : text.length ≤ 12) : textAllowed t text = true ↔
    ¬((∃ b ∈ text, b.toNat < 0x20 ∨ 0x7E < b.toNat) ∨ (t = .warrant ∧ text = []) ∨ (t = .card ∧ 8 < text.length) ∨
      (t = .cash ∧ text ≠ [])) := by
  have chars : text.all printable = true ↔ ¬∃ b ∈ text, b.toNat < 0x20 ∨ 0x7E < b.toNat := by
    simp only [List.all_eq_true, printable, Bool.and_eq_true, decide_eq_true_eq, not_exists, not_and, not_or, Nat.not_lt]
  unfold textAllowed
  rw [Bool.and_eq_true, chars, not_or, and_congr_right_iff]
  intro _
  cases t
  · simp
  · simp
  · simp [ht, Nat.one_le_iff_ne_zero]

/-- Check 3 of ISSUE, for numbers that name a kind, a tender and a printer (R84). -/
theorem issueTerms_succ (k : Kind) (index : Fin 16) (t : Tender) (passengers base coupons : Nat) (p : PrinterId)
    {text : List Byte} (ht : text.length ≤ 12) :
    s.issueTerms l (k.val + 1) passengers base index.val t.code coupons (namedAs l (p.val + 1)) text =
      if (s.kind k = ⟨0x2D, 0x2D, (s.kind k).threshold⟩) ∨ passengers < 1 ∨ 9 < passengers ∨ 99999 < base ∨ coupons < 1 ∨
          4 < coupons ∨ (∃ b ∈ text, b.toNat < 0x20 ∨ 0x7E < b.toNat) ∨ (t = .warrant ∧ text = []) ∨
          (t = .card ∧ 8 < text.length) ∨ (t = .cash ∧ text ≠ []) ∨ (s.line l).body = [] then none
      else some ⟨k, t, passengers, base, index, coupons, if l = officeLine then some p else none, text⟩ := by
  have good : ((s.kind k).isUndefined = false ∧ 1 ≤ passengers ∧ passengers ≤ 9 ∧ base ≤ 99999 ∧ 1 ≤ coupons ∧ coupons ≤ 4 ∧
      textAllowed t text = true ∧ (s.line l).body ≠ []) ↔
      ¬((s.kind k = ⟨0x2D, 0x2D, (s.kind k).threshold⟩) ∨ passengers < 1 ∨ 9 < passengers ∨ 99999 < base ∨ coupons < 1 ∨
          4 < coupons ∨ (∃ b ∈ text, b.toNat < 0x20 ∨ 0x7E < b.toNat) ∨ (t = .warrant ∧ text = []) ∨
          (t = .card ∧ 8 < text.length) ∨ (t = .cash ∧ text ≠ []) ∨ (s.line l).body = []) := by
    rw [textAllowed_iff t ht, ← StockKind.isUndefined_iff]
    simp only [not_or, Nat.not_lt, Bool.not_eq_true, ne_eq, and_assoc]
  simp only [State.issueTerms, kindOf_succ, Tender.ofCode_code, namedPrinter_succ, index.isLt, dif_pos, good, ite_not, Fin.eta]

/-- Numbers out of range name nothing (R84). -/
theorem issueTerms_out {kind passengers base index tender coupons p : Nat} {text : List Byte}
    (h : kind < 1 ∨ 8 < kind ∨ 15 < index ∨ tender < 1 ∨ 3 < tender ∨ (l = officeLine ∧ (p < 1 ∨ 4 < p))) :
    s.issueTerms l kind passengers base index tender coupons (namedAs l p) text = none := by
  unfold State.issueTerms
  split
  · rename_i k t printer hk ht hp
    split
    · exfalso
      rcases h with h | h | h | h | h | ⟨rfl, h⟩
      · rw [kindOf_out (.inl h)] at hk; cases hk
      · rw [kindOf_out (.inr h)] at hk; cases hk
      · omega
      · rw [Tender.ofCode_out (.inl h)] at ht; cases ht
      · rw [Tender.ofCode_out (.inr h)] at ht; cases ht
      · simp [namedPrinter, namedAs, printerOf_out h] at hp
    · rfl
  · rfl

/-! ## The checks and the effect (R83, R85) -/

@[simp] theorem State.frameEnded_issueTerms (kind passengers base index tender coupons : Nat) (named : Option Nat) (text : List Byte) :
    (s.frameEnded l).issueTerms l kind passengers base index tender coupons named text =
      s.issueTerms l kind passengers base index tender coupons named text := by
  simp only [State.issueTerms, State.frameEnded_kind, State.frameEnded_body]

@[simp] theorem State.frameEnded_acceptIssue (t : IssueTerms) (p : PrinterId) :
    (s.frameEnded l).acceptIssue l t p = (s.acceptIssue l t p).frameEnded l := by
  simp only [State.acceptIssue, State.newJob, State.frameEnded_body, State.frameEnded_session, State.frameEnded_discounts]
  rfl

theorem exec_issue (h : s.Ready l) (kind passengers base index tender coupons : Nat) (named : Option Nat) (text : List Byte) :
    exec (.issue l kind passengers base index tender coupons named text) s = .next
      ((serveIssue l kind passengers base index tender coupons named text (s.frameEnded l)).finish l 0x20 State.afterEvent) := by
  rw [exec_ready (.issue l kind passengers base index tender coupons named text) rfl (by decide) (.inr (by decide)) h]
  rfl

/-- The route of terms as their line has them (R86, R88). -/
theorem route_terms (k : Kind) (index : Fin 16) (t : Tender) (passengers base coupons : Nat) (p : PrinterId) (text : List Byte) :
    s.route l ⟨k, t, passengers, base, index, coupons, if l = officeLine then some p else none, text⟩ =
      if h : l.val < 6 then s.routeWindow s.maps[l.val][k] k else s.routeOffice p k := by
  by_cases hl : l = officeLine
  · subst hl
    rfl
  · have hlt : l.val < 6 := by
      have : l.val ≠ 6 := fun e => hl (Fin.ext e)
      omega
    simp only [State.route, if_neg hl, dif_pos hlt]

/-- The job that the terms make, with its charges by its discount class and the line's body (R85). -/
theorem acceptIssue_eq (x : IssueTerms) (q : PrinterId) : s.acceptIssue l x q =
    (s.putSession l { (s.session l).setTally x.tender (((s.session l).tally x.tender).addPending (s.newJob l x q).total) with
        nextIssue := nextIssueNumber (s.session l).nextIssue }).putLane q
      (if l = officeLine then { s.lane q with office := (s.lane q).office ++ [s.newJob l x q] }
      else { s.lane q with window := (s.lane q).window ++ [s.newJob l x q] }) := rfl

section
variable {kind passengers base index tender coupons p : Nat} {text : List Byte} (ht : text.length ≤ 12)
include ht

/-- An ISSUE that fits its line, in a session that is not OPEN (R83). -/
theorem issue_notOpened (hs : (s.session l).state ≠ .opened) :
    serveIssue l kind passengers base index tender coupons (namedAs l p) text (s.frameEnded l) =
      refuse (s.frameEnded l) (if (s.session l).state = .closed then .noSession else .inCashup) := by
  simp only [serveIssue, issueFits_namedAs l p ht, Bool.not_true, Bool.false_eq_true, if_false, State.frameEnded_session]
  cases hx : (s.session l).state <;> simp_all

variable (hs : (s.session l).state = .opened)
include hs

theorem issue_unset (hc : s.clock.isSet = false) :
    serveIssue l kind passengers base index tender coupons (namedAs l p) text (s.frameEnded l) =
      refuse (s.frameEnded l) .clockNotSet := by
  simp [serveIssue, issueFits_namedAs l p ht, hs, hc]

variable (hc : s.clock.isSet = true)
include hc

theorem issue_badTerms (hn : s.issueTerms l kind passengers base index tender coupons (namedAs l p) text = none) :
    serveIssue l kind passengers base index tender coupons (namedAs l p) text (s.frameEnded l) =
      refuse (s.frameEnded l) .badParameter := by
  simp [serveIssue, issueFits_namedAs l p ht, hs, hc, hn]

variable {x : IssueTerms} (hx : s.issueTerms l kind passengers base index tender coupons (namedAs l p) text = some x)
include hx

theorem issue_queueFull (hfull : 4 ≤ (s.session l).outstanding) :
    serveIssue l kind passengers base index tender coupons (namedAs l p) text (s.frameEnded l) =
      refuse (s.frameEnded l) .queueFull := by
  simp [serveIssue, issueFits_namedAs l p ht, hs, hc, hx, hfull]

variable (hfree : ¬4 ≤ (s.session l).outstanding)
include hfree

theorem issue_tallyLimit (hlimit : ((s.session l).tally x.tender).exceeds (chargedTotal x.base s.discounts[x.index] x.passengers) = true) :
    serveIssue l kind passengers base index tender coupons (namedAs l p) text (s.frameEnded l) =
      refuse (s.frameEnded l) .tallyLimit := by
  simp only [serveIssue, issueFits_namedAs l p ht, Bool.not_true, Bool.false_eq_true, if_false, State.frameEnded_session, hs,
    State.frameEnded_clock, hc, State.frameEnded_issueTerms, hx, hfree, State.frameEnded_discounts, hlimit, if_true]

variable (hroom : ¬((s.session l).tally x.tender).exceeds (chargedTotal x.base s.discounts[x.index] x.passengers) = true)
include hroom

theorem issue_unrouted {status : Status} (hr : s.route l x = .error status) :
    serveIssue l kind passengers base index tender coupons (namedAs l p) text (s.frameEnded l) = refuse (s.frameEnded l) status := by
  have route : (s.frameEnded l).route l x = .error status := hr
  simp only [serveIssue, issueFits_namedAs l p ht, Bool.not_true, Bool.false_eq_true, if_false, State.frameEnded_session, hs,
    State.frameEnded_clock, hc, State.frameEnded_issueTerms, hx, hfree, State.frameEnded_discounts, hroom, route]

theorem issue_accepted {q : PrinterId} (hr : s.route l x = .ok q) :
    serveIssue l kind passengers base index tender coupons (namedAs l p) text (s.frameEnded l) =
      accept ((s.acceptIssue l x q).frameEnded l) (be 3 (s.session l).nextIssue ++
        be 4 (chargedTotal x.base s.discounts[x.index] x.passengers) ++ [byteOf (q.val + 1)]) := by
  have route : (s.frameEnded l).route l x = .ok q := hr
  simp only [serveIssue, issueFits_namedAs l p ht, Bool.not_true, Bool.false_eq_true, if_false, State.frameEnded_session, hs,
    State.frameEnded_clock, hc, State.frameEnded_issueTerms, hx, hfree, State.frameEnded_discounts, hroom, route,
    State.frameEnded_acceptIssue]

end

/-- A request that is not routed is refused with a status that is not OK (R87, R88). -/
theorem route_error {x : IssueTerms} {status : Status} (h : s.route l x = .error status) : status ≠ .ok := by
  have closed : ∀ (c : Bool), (if c then Except.error .queueFull else Except.error .noPrinter : Except Status PrinterId) =
      .error status → status ≠ .ok := by
    intro c hc
    cases c <;> cases hc <;> decide
  unfold State.route at h
  split at h
  · unfold State.routeOffice at h
    split at h
    · cases h
    · exact closed _ h
  · split at h
    · unfold State.routeWindow at h
      split at h
      · cases h
      · exact closed _ h
    · cases h; decide

theorem Tally.exceeds_iff (t : Tally) (total : Nat) : t.exceeds total = true ↔
    99999999 < t.settledTotal + t.pendingTotal + total ∨ 999999 < t.settledCount + t.pendingCount + 1 := by
  simp [Tally.exceeds]

/-- Settles O13: the checks of R83 in their order, R84's as one, and the job queued on the printer its line's routing chose. -/
theorem issueQueuesJob : Obligations.IssueQueuesJob := by
  refine ⟨fun s l kind passengers base index tender coupons named text h hf => ?_, fun s l h =>
    ⟨fun kind passengers base index tender coupons p text ht => ⟨fun hs => ?_, fun hs => ?_, fun hs hc => ?_, fun hs hc hout => ?_⟩,
      fun k index t passengers base coupons p text ht hs hc => ?_⟩⟩ <;> rw [exec_issue h] <;> congr 1
  · have unfit : issueFits l named text = false := by
      unfold issueFits
      rcases hf with hf | hf
      · simp only [Bool.and_eq_false_iff, beq_eq_false_iff_ne]
        exact .inl (by simpa [beq_eq_decide] using hf)
      · simp [Nat.not_le.mpr hf]
    exact Served.finish_of_refuse (by simp [serveIssue, unfit])
  · exact Served.finish_of_refuse ((issue_notOpened ht (by simp [hs])).trans (by simp [hs]))
  · exact Served.finish_of_refuse ((issue_notOpened ht (by simp [hs])).trans (by simp [hs]))
  · exact Served.finish_of_refuse (issue_unset ht hs hc)
  · exact Served.finish_of_refuse (issue_badTerms ht hs hc (issueTerms_out hout))
  · have terms := issueTerms_succ (s := s) (l := l) k index t passengers base coupons p ht
    change (serveIssue l (k.val + 1) passengers base index.val t.code coupons (namedAs l (p.val + 1)) text
      (s.frameEnded l)).finish l 0x20 State.afterEvent = _
    dsimp only
    split <;> rename_i hbad
    · exact Served.finish_of_refuse (issue_badTerms ht hs hc (terms.trans (if_pos hbad)))
    · have hx := terms.trans (if_neg hbad)
      have routed := route_terms (s := s) (l := l) k index t passengers base coupons p text
      split <;> rename_i hfull
      · exact Served.finish_of_refuse (issue_queueFull ht hs hc hx hfull)
      · split <;> rename_i hlimit <;> rw [← Tally.exceeds_iff] at hlimit
        · exact Served.finish_of_refuse (issue_tallyLimit ht hs hc hx hfull hlimit)
        · rw [← routed]
          cases hr : s.route l _ with
          | error status => exact Served.finish_of_refuse (issue_unrouted ht hs hc hx hfull hlimit hr) (route_error hr)
          | ok q =>
            refine (Served.finish_of_accept (issue_accepted ht hs hc hx hfull hlimit hr)).trans ?_
            rw [acceptIssue_eq]
            rfl

end Sys2Proof.Machine

/-! # CANCEL and ABORT JOB -/

namespace Sys2Proof.Machine

open Sys2Proof Sys2Proof.Machine

/-! ## A frame's end and the end of a job -/

section
variable (s : State) (l : Line) (p : PrinterId)

@[simp] theorem State.frameEnded_mapJob (f : Job → Job) : (s.frameEnded l).mapJob p f = (s.mapJob p f).frameEnded l := by
  simp only [State.mapJob, State.frameEnded_inProgress]
  split <;> rfl

@[simp] theorem State.frameEnded_addJobRecord (slot : Slot) (first span : Nat) (reason : Reason) :
    (s.frameEnded l).addJobRecord p slot first span reason = (s.addJobRecord p slot first span reason).frameEnded l := by
  simp only [State.addJobRecord, State.frameEnded_inProgress, State.frameEnded_newRecord, State.frameEnded_session,
    State.frameEnded_stock, State.frameEnded_putStock, State.frameEnded_mapJob, State.frameEnded_noteRecords]
  split <;> rfl

@[simp] theorem State.frameEnded_countKind (n : SessionId) (k : Kind) (f : KindCounters → KindCounters) :
    (s.frameEnded l).countKind n k f = (s.countKind n k f).frameEnded l := rfl

@[simp] theorem State.frameEnded_undoCoupons (n : SessionId) (k : Kind) (cs : List Coupon) :
    (s.frameEnded l).undoCoupons p n k cs = (s.undoCoupons p n k cs).frameEnded l := by
  induction cs generalizing s with
  | nil => rfl
  | cons c cs ih => simp only [State.undoCoupons, State.frameEnded_addJobRecord, State.frameEnded_countKind, ih]

@[simp] theorem State.frameEnded_moveCursor (slot : Slot) (serial : Nat) :
    (s.frameEnded l).moveCursor slot serial = (s.moveCursor slot serial).frameEnded l := by
  simp only [State.moveCursor, State.frameEnded_pack, State.frameEnded_kind, State.frameEnded_putPack, State.frameEnded_raise]
  cases s.pack slot with
  | none => rfl
  | some k =>
    dsimp only
    split
    · by_cases h1 : (s.kind k.kind).threshold < k.remaining <;>
        by_cases h2 : k.endSerial - serial ≤ (s.kind k.kind).threshold <;>
        cases hf : k.lowFlag <;> cases k.location <;> simp [h1, h2]
    · rfl

@[simp] theorem State.frameEnded_loseForm : (s.frameEnded l).loseForm p = (s.loseForm p).frameEnded l := by
  simp only [State.loseForm, State.frameEnded_inProgress, State.frameEnded_loadedPack, State.frameEnded_addJobRecord,
    State.frameEnded_moveCursor, State.frameEnded_countKind]
  repeat' split
  all_goals rfl

@[simp] theorem State.frameEnded_releaseCharge (j : Job) : (s.frameEnded l).releaseCharge j = (s.releaseCharge j).frameEnded l := rfl

@[simp] theorem State.frameEnded_handOver (o : Outcome) : (s.frameEnded l).handOver o = (s.handOver o).frameEnded l := by
  apply State.ext_lines
  · unfold State.handOver
    split <;> rfl
  · intro m
    simp only [State.handOver_line, State.frameEnded_line]
    by_cases hm : m = l
    · subst hm; split <;> simp_all
    · simp [hm]

@[simp] theorem State.frameEnded_endJob (r : JobResult) : (s.frameEnded l).endJob p r = (s.endJob p r).frameEnded l := by
  simp only [State.endJob, State.frameEnded_inProgress]
  split
  · rfl
  · split <;> simp only [State.frameEnded_undoCoupons, State.frameEnded_loseForm, State.frameEnded_releaseCharge,
      State.frameEnded_dropJob, State.frameEnded_handOver, State.frameEnded_raise]

end

variable {s : State} {l : Line}

/-! ## The job of a number -/

/-- The job of one printer alone is found among the four. -/
theorem printers_findSome? {α : Type} {f : PrinterId → Option α} {p : PrinterId} {x : α} (hp : f p = some x)
    (others : ∀ q, q ≠ p → f q = none) : printers.findSome? f = some x := by
  have h0 := others 0; have h1 := others 1; have h2 := others 2; have h3 := others 3
  unfold printers
  fin_cases p <;> simp_all [List.findSome?]

theorem jobInProgress_eq_some {number : Nat} {p : PrinterId} {g : Progress} (hg : s.inProgress p = some g)
    (hn : g.job.is l number = true) (others : ∀ q, q ≠ p → (s.inProgress q).all (fun g => !g.job.is l number) = true) :
    s.jobInProgress l number = some (p, g.job) := by
  refine printers_findSome? (p := p) (by simp [hg, hn]) fun q hq => ?_
  have := others q hq
  cases hx : s.inProgress q with
  | none => rfl
  | some x => rw [hx] at this; simp_all

theorem jobInProgress_eq_none {number : Nat} (none : ∀ p, (s.inProgress p).all (fun g => !g.job.is l number) = true) :
    s.jobInProgress l number = .none := by
  unfold State.jobInProgress
  rw [List.findSome?_eq_none_iff]
  intro p _
  have := none p
  cases hx : s.inProgress p with
  | none => rfl
  | some x => rw [hx] at this; simp_all

theorem jobInProgress_isSome {number : Nat} {p : PrinterId} (h : (s.inProgress p).any (fun g => g.job.is l number) = true) :
    (s.jobInProgress l number).isSome = true := by
  unfold State.jobInProgress
  rw [List.findSome?_isSome_iff]
  refine ⟨p, mem_printers p, ?_⟩
  cases hx : s.inProgress p with
  | none => rw [hx] at h; cases h
  | some x => rw [hx] at h; simp_all

/-! ### The queued job -/

/-- The jobs in a printer's lanes. -/
def State.queuedOn (s : State) (p : PrinterId) : List Job := (s.lane p).office ++ (s.lane p).window

/-- A job that alone satisfies a test among all queued ones: no other of its own lanes does, and none of another printer. -/
theorem queued_once {test : Job → Bool} (once : (printers.flatMap s.queuedOn).countP test = 1) {p : PrinterId} {before after : List Job}
    {j : Job} (hp : s.queuedOn p = before ++ j :: after) (hj : test j = true) :
    (∀ k ∈ before ++ after, test k = false) ∧ ∀ q, q ≠ p → ∀ k ∈ s.queuedOn q, test k = false := by
  have sum : (s.queuedOn 0).countP test + ((s.queuedOn 1).countP test + ((s.queuedOn 2).countP test +
      (s.queuedOn 3).countP test)) = 1 := by
    simpa [printers, List.countP_append, List.flatMap_cons] using once
  have here : (s.queuedOn p).countP test = (before ++ after).countP test + 1 := by
    rw [hp, List.countP_append, List.countP_cons_of_pos hj, List.countP_append, Nat.add_assoc]
  have le : ∀ q, q ≠ p → (s.queuedOn q).countP test + (s.queuedOn p).countP test ≤ 1 := by
    intro q hq
    fin_cases p <;> fin_cases q <;> simp at hq ⊢ <;> omega
  have one : (s.queuedOn p).countP test ≤ 1 := by
    fin_cases p <;> simp <;> omega
  refine ⟨fun k hk => ?_, fun q hq k hk => ?_⟩
  · have zero : (before ++ after).countP test = 0 := by omega
    exact Bool.eq_false_iff.mpr (List.countP_eq_zero.mp zero k hk)
  · have zero : (s.queuedOn q).countP test = 0 := by have := le q hq; omega
    exact Bool.eq_false_iff.mpr (List.countP_eq_zero.mp zero k hk)

theorem queuedJob_eq_some {number : Nat} {p : PrinterId} {before after : List Job} {j : Job}
    (once : (printers.flatMap s.queuedOn).countP (·.is l number) = 1) (hp : s.queuedOn p = before ++ j :: after)
    (hj : j.is l number = true) : s.queuedJob l number = some (p, j) := by
  obtain ⟨here, others⟩ := queued_once once hp hj
  refine printers_findSome? (p := p) ?_ fun q hq => ?_
  · change ((s.queuedOn p).find? (·.is l number)).map _ = _
    rw [hp, find?_behind before j after (fun k hk => here k (List.mem_append_left _ hk)) hj]
    rfl
  · change ((s.queuedOn q).find? (·.is l number)).map _ = _
    rw [List.find?_eq_none.mpr fun k hk => Bool.eq_false_iff.mp (others q hq k hk)]
    rfl

theorem queuedJob_eq_none {number : Nat} (none : ∀ j ∈ printers.flatMap s.queuedOn, j.is l number = false) :
    s.queuedJob l number = .none := by
  unfold State.queuedJob
  rw [List.findSome?_eq_none_iff]
  intro p hp
  rw [Option.map_eq_none_iff, List.find?_eq_none]
  exact fun j hj => Bool.eq_false_iff.mp (none j (List.mem_flatMap.mpr ⟨p, hp, hj⟩))

theorem dropFirst_behind {test : Job → Bool} {before after : List Job} {j : Job} (hb : ∀ k ∈ before, test k = false)
    (hj : test j = true) : dropFirst test (before ++ j :: after) = before ++ after := by
  induction before with
  | nil => simp [dropFirst, hj]
  | cons k ks ih =>
    rw [List.cons_append, dropFirst, if_neg (by simp [hb k (by simp)]), ih fun x hx => hb x (List.mem_cons_of_mem _ hx)]
    rfl

/-- The job leaves its lane, and its charge its session. -/
def State.withoutJob (s : State) (p : PrinterId) (j : Job) (rest : Lanes) : State :=
  (s.putSession j.session ((s.session j.session).setTally j.tender
    (((s.session j.session).tally j.tender).releasePending j.total))).putLane p rest

theorem Job.is_iff {j : Job} {n : SessionId} {number : Nat} : j.is n number = true ↔ j.session = n ∧ j.issue = number := by
  simp [Job.is]

section
variable {number : Nat} {p : PrinterId} {before after : List Job} {j : Job}
  (once : (printers.flatMap s.queuedOn).countP (·.is l number) = 1) (hj : j.is l number = true)
include once hj

theorem withdraw_office (hp : (s.lane p).office = before ++ j :: after) : s.queuedJob l number = some (p, j) ∧
    s.withdraw p j = s.withoutJob p j { s.lane p with office := before ++ after } := by
  have all : s.queuedOn p = before ++ j :: (after ++ (s.lane p).window) := by simp [State.queuedOn, hp]
  obtain ⟨here, -⟩ := queued_once once all hj
  obtain ⟨rfl, rfl⟩ := Job.is_iff.mp hj
  refine ⟨queuedJob_eq_some once all hj, ?_⟩
  unfold State.withdraw
  rw [hp, dropFirst_behind (fun k hk => here k (List.mem_append_left _ hk)) hj,
    dropFirst_of_none fun k hk => here k (List.mem_append_right _ (List.mem_append_right _ hk))]
  rfl

theorem withdraw_window (hp : (s.lane p).window = before ++ j :: after) : s.queuedJob l number = some (p, j) ∧
    s.withdraw p j = s.withoutJob p j { s.lane p with window := before ++ after } := by
  have all : s.queuedOn p = ((s.lane p).office ++ before) ++ j :: after := by simp [State.queuedOn, hp]
  obtain ⟨here, -⟩ := queued_once once all hj
  obtain ⟨rfl, rfl⟩ := Job.is_iff.mp hj
  refine ⟨queuedJob_eq_some once all hj, ?_⟩
  unfold State.withdraw
  rw [hp, dropFirst_behind (fun k hk => here k (List.mem_append_left _ (List.mem_append_right _ hk))) hj,
    dropFirst_of_none fun k hk => here k (List.mem_append_left _ (List.mem_append_left _ hk))]
  rfl

end

/-! ## CANCEL and ABORT JOB (O15) -/

theorem exec_cancel (h : s.Ready l) (number : Nat) : exec (.cancel l number) s = .next
    ((serveCancel l number (s.frameEnded l)).finish l 0x21 State.afterEvent) := by
  rw [exec_ready (.cancel l number) rfl (by decide) (.inr (by decide)) h]
  rfl

theorem exec_abortJob (h : s.Ready l) (number : Nat) : exec (.abortJob l number) s = .next
    ((serveAbortJob l number (s.frameEnded l)).finish l 0x22 State.afterEvent) := by
  rw [exec_ready (.abortJob l number) rfl (by decide) (.inr (by decide)) h]
  rfl

section
variable {number : Nat} (range : ¬(number < 1 ∨ 99999 < number))
include range

theorem cancel_inProgress (hp : (s.jobInProgress l number).isSome = true) :
    serveCancel l number (s.frameEnded l) = refuse (s.frameEnded l) .inProgress := by
  have progress : ((s.frameEnded l).jobInProgress l number).isSome = true := hp
  simp only [serveCancel, range, if_false, progress, if_true]

variable (hp : s.jobInProgress l number = none)
include hp

theorem cancel_notFound (hq : s.queuedJob l number = none) :
    serveCancel l number (s.frameEnded l) = refuse (s.frameEnded l) .notFound := by
  have progress : (s.frameEnded l).jobInProgress l number = none := hp
  have queue : (s.frameEnded l).queuedJob l number = none := hq
  simp only [serveCancel, range, if_false, progress, queue, Option.isSome_none, Bool.false_eq_true]

theorem cancel_queued {p : PrinterId} {j : Job} (hq : s.queuedJob l number = some (p, j)) :
    serveCancel l number (s.frameEnded l) = accept ((s.withdraw p j).frameEnded l) (be 3 number ++ be 4 j.total) := by
  have progress : (s.frameEnded l).jobInProgress l number = none := hp
  have queue : (s.frameEnded l).queuedJob l number = some (p, j) := hq
  simp only [serveCancel, range, if_false, progress, queue, Option.isSome_none, Bool.false_eq_true]
  rfl

theorem abortJob_notFound (hq : s.queuedJob l number = none) :
    serveAbortJob l number (s.frameEnded l) = refuse (s.frameEnded l) .notFound := by
  have progress : (s.frameEnded l).jobInProgress l number = none := hp
  have queue : (s.frameEnded l).queuedJob l number = none := hq
  simp only [serveAbortJob, range, if_false, progress, queue]

theorem abortJob_queued {p : PrinterId} {j : Job} (hq : s.queuedJob l number = some (p, j)) :
    serveAbortJob l number (s.frameEnded l) = accept ((s.abortQueued p j).frameEnded l) [Config.abortJobByte true] := by
  have progress : (s.frameEnded l).jobInProgress l number = none := hp
  have queue : (s.frameEnded l).queuedJob l number = some (p, j) := hq
  have commutes : (s.frameEnded l).abortQueued p j = (s.abortQueued p j).frameEnded l := by
    unfold State.abortQueued
    rw [show (s.frameEnded l).withdraw p j = (s.withdraw p j).frameEnded l from rfl, State.frameEnded_handOver, State.frameEnded_raise]
  simp only [serveAbortJob, range, if_false, progress, queue, commutes]

end

/-- ABORT JOB on a job in progress: it ends now, or at its next form boundary (R100). -/
theorem abortJob_inProgress {number : Nat} (range : ¬(number < 1 ∨ 99999 < number)) {p : PrinterId} {g : Progress}
    (hg : s.inProgress p = some g) (hp : s.jobInProgress l number = some (p, g.job)) :
    serveAbortJob l number (s.frameEnded l) =
      if g.job.state = .suspended then accept ((s.endJob p .aborted).frameEnded l) [Config.abortJobByte true]
      else accept ((s.markProgress p (some { g with job := { g.job with abortMark := true } })).frameEnded l)
        [Config.abortJobByte false] := by
  have progress : (s.frameEnded l).jobInProgress l number = some (p, g.job) := hp
  simp only [serveAbortJob, range, if_false, progress, State.frameEnded_endJob, State.markAbort, State.frameEnded_inProgress, hg,
    State.frameEnded_markProgress]

/-- A job taken from its lane ends ABORTED: its outcome joins its window's list, and ISSUE FAILED is raised (R96, R100, R188). -/
theorem handOver_eq (s : State) (o : Outcome) : s.handOver o = if o.session = officeLine then s else
    s.putLine o.session { s.line o.session with
      outcomes := if (s.line o.session).outcomes.length < 8 then (s.line o.session).outcomes ++ [o]
        else (s.line o.session).outcomes.drop ((s.line o.session).outcomes.length - 7) ++ [o] } := by
  have join (list : List Outcome) : joinOutcome list o = if list.length < 8 then list ++ [o] else list.drop (list.length - 7) ++ [o] := by
    unfold joinOutcome
    split
    · rw [show list.length + 1 - 8 = 0 by omega]; rfl
    · rw [show list.length + 1 - 8 = list.length - 7 by omega, List.drop_append_of_le_length (by omega)]
  unfold State.handOver
  rw [join]

theorem Job.is_eq_named (j : Job) (n : SessionId) (number : Nat) : j.is n number = decide (j.session = n ∧ j.issue = number) := by
  simp [Job.is, Bool.decide_and, beq_eq_decide]

/-- Settles O15: the job that a number names, in progress or queued once, is found, and ends or is marked. -/
theorem jobsAreWithdrawn : Obligations.JobsAreWithdrawn := by
  refine ⟨fun s l number h => ⟨fun hr => ?_, fun h1 h2 => ?_⟩, fun s l number h => ⟨fun hr => ?_, fun h1 h2 => ?_⟩⟩
  · rw [exec_cancel h]
    exact congrArg _ (Served.finish_of_refuse (if_pos hr))
  · have range : ¬(number < 1 ∨ 99999 < number) := by omega
    rw [exec_cancel h]
    simp only [← Job.is_eq_named]
    refine ⟨fun ⟨p, hp⟩ => ?_, fun none => ⟨fun hq => ?_, fun once p => ⟨fun before j after hp hj => ?_, fun before j after hp hj => ?_⟩⟩⟩
    · exact congrArg _ (Served.finish_of_refuse (cancel_inProgress range (jobInProgress_isSome hp)))
    · exact congrArg _ (Served.finish_of_refuse (cancel_notFound range (jobInProgress_eq_none none) (queuedJob_eq_none hq)))
    · obtain ⟨queued, e⟩ := withdraw_office once hj hp
      rw [cancel_queued range (jobInProgress_eq_none none) queued, e]
      obtain ⟨rfl, rfl⟩ := Job.is_iff.mp hj
      exact congrArg _ (Served.finish_of_accept rfl)
    · obtain ⟨queued, e⟩ := withdraw_window once hj hp
      rw [cancel_queued range (jobInProgress_eq_none none) queued, e]
      obtain ⟨rfl, rfl⟩ := Job.is_iff.mp hj
      exact congrArg _ (Served.finish_of_accept rfl)
  · rw [exec_abortJob h]
    exact congrArg _ (Served.finish_of_refuse (if_pos hr))
  · have range : ¬(number < 1 ∨ 99999 < number) := by omega
    rw [exec_abortJob h]
    simp only [← Job.is_eq_named]
    refine ⟨fun p others g hg hn => ?_, fun none => ⟨fun hq => ?_, fun once p => ⟨fun before j after hp hj => ?_,
      fun before j after hp hj => ?_⟩⟩⟩
    · rw [abortJob_inProgress range hg (jobInProgress_eq_some hg hn others)]
      congr 1
      split
      · exact Served.finish_of_accept rfl
      · exact Served.finish_of_accept rfl
    · exact congrArg _ (Served.finish_of_refuse (abortJob_notFound range (jobInProgress_eq_none none) (queuedJob_eq_none hq)))
    · obtain ⟨queued, e⟩ := withdraw_office once hj hp
      rw [abortJob_queued range (jobInProgress_eq_none none) queued, State.abortQueued, e, handOver_eq]
      obtain ⟨rfl, rfl⟩ := Job.is_iff.mp hj
      exact congrArg _ (Served.finish_of_accept rfl)
    · obtain ⟨queued, e⟩ := withdraw_window once hj hp
      rw [abortJob_queued range (jobInProgress_eq_none none) queued, State.abortQueued, e, handOver_eq]
      obtain ⟨rfl, rfl⟩ := Job.is_iff.mp hj
      exact congrArg _ (Served.finish_of_accept rfl)

end Sys2Proof.Machine

/-! # The calendar: stamps count its seconds one to one -/

namespace Sys2Proof.Machine

open Sys2Proof Sys2Proof.Machine

/-! ## Days -/

/-- The days from 1 January 2000 to a date (R201). -/
def Date.number (d : Date) : Nat := daysBeforeYear d.year + daysBeforeMonth d.year d.month + (d.day - 1)

theorem DateTime.toStamp_eq (x : DateTime) :
    x.toStamp = ((x.date.number * 24 + x.time.hour) * 60 + x.time.minute) * 60 + x.time.second := rfl

theorem daysBeforeMonth_succ (year : Nat) {month : Nat} (h : 1 ≤ month) :
    daysBeforeMonth year (month + 1) = daysBeforeMonth year month + monthLength year month := by
  obtain ⟨m, rfl⟩ : ∃ m, month = m + 1 := ⟨month - 1, by omega⟩
  rfl

theorem daysBeforeMonth_mono (year : Nat) {m n : Nat} (hm : 1 ≤ m) (h : m ≤ n) : daysBeforeMonth year m ≤ daysBeforeMonth year n := by
  induction n, h using Nat.le_induction with
  | base => exact le_rfl
  | succ n h ih =>
    rw [daysBeforeMonth_succ year (hm.trans h)]
    exact ih.trans (Nat.le_add_right _ _)

/-- The days of a year: those before a 13th month (R191). -/
theorem daysBeforeMonth_thirteen (year : Nat) : daysBeforeMonth year 13 = if year % 4 = 0 then 366 else 365 := by
  simp only [daysBeforeMonth, monthLength, isLeap, beq_iff_eq]
  split <;> rfl

theorem daysBeforeYear_succ {year : Nat} (h : 2000 ≤ year) :
    daysBeforeYear (year + 1) = daysBeforeYear year + daysBeforeMonth year 13 := by
  rw [daysBeforeMonth_thirteen]
  unfold daysBeforeYear
  split <;> omega

theorem daysBeforeYear_mono {y z : Nat} (h : y ≤ z) : daysBeforeYear y ≤ daysBeforeYear z := by
  unfold daysBeforeYear
  omega

/-- The months that `monthAndDay` passes are those whose days it takes off. -/
theorem monthAndDay_days (year : Nat) : ∀ fuel month days, 1 ≤ month →
    daysBeforeMonth year (monthAndDay year fuel month days).1 + ((monthAndDay year fuel month days).2 - 1) =
      daysBeforeMonth year month + days
  | 0, month, days, _ => rfl
  | fuel + 1, month, days, h => by
    unfold monthAndDay
    split
    · rfl
    · rw [monthAndDay_days year fuel (month + 1) _ (by omega), daysBeforeMonth_succ year h]
      omega

/-- The date of a day is that many days after 1 January 2000 (R201). -/
theorem number_dateOfDays {days : Nat} (h : days < 36525) : (dateOfDays days).number = days := by
  obtain ⟨year, before, e⟩ : ∃ year, daysBeforeYear year ≤ days ∧
      dateOfDays days = ⟨year, (monthAndDay year 11 1 (days - daysBeforeYear year)).1,
        (monthAndDay year 11 1 (days - daysBeforeYear year)).2⟩ := by
    refine ⟨_, ?_, rfl⟩
    unfold daysBeforeYear
    split <;> omega
  have split := monthAndDay_days year 11 1 (days - daysBeforeYear year) le_rfl
  rw [e, Date.number]
  rw [show daysBeforeMonth year 1 = 0 from rfl] at split
  dsimp only
  omega

section
variable {d : Date} (h : d.valid = true)
include h

/-- A date lies within its month. -/
theorem Date.within_month : daysBeforeMonth d.year d.month + (d.day - 1) < daysBeforeMonth d.year (d.month + 1) := by
  obtain ⟨-, hm, hd⟩ := (Date.valid_iff d).mp h
  rw [daysBeforeMonth_succ d.year hm.1]
  omega

/-- A date lies within its year. -/
theorem Date.within_year : d.number < daysBeforeYear (d.year + 1) := by
  obtain ⟨hy, hm, -⟩ := (Date.valid_iff d).mp h
  have month := Date.within_month h
  have year := daysBeforeMonth_mono d.year (m := d.month + 1) (n := 13) (by omega) (by omega)
  rw [daysBeforeYear_succ hy.1, Date.number]
  omega

theorem Date.number_lt : d.number < 36525 :=
  (Date.within_year h).trans_le (daysBeforeYear_mono (z := 2100) (by
    obtain ⟨hy, -⟩ := (Date.valid_iff d).mp h
    omega))

end

/-- Two dates of one number are one date. -/
theorem Date.number_injective {d e : Date} (hd : d.valid = true) (he : e.valid = true) (h : d.number = e.number) : d = e := by
  have year_le : ∀ {d e : Date}, d.valid = true → d.number = e.number → e.year ≤ d.year := fun {d e} hd h => by
    by_contra hlt
    have h1 := Date.within_year hd
    have h2 := daysBeforeYear_mono (y := d.year + 1) (z := e.year) (by omega)
    have h3 : daysBeforeYear e.year ≤ e.number := by unfold Date.number; omega
    omega
  have hy : d.year = e.year := Nat.le_antisymm (year_le he h.symm) (year_le hd h)
  have month_le : ∀ {d e : Date}, d.valid = true → d.number = e.number → d.year = e.year → e.month ≤ d.month :=
    fun {d e} hd h hy => by
      by_contra hlt
      have h1 := Date.within_month hd
      have h2 := daysBeforeMonth_mono d.year (m := d.month + 1) (n := e.month) (by omega) (by omega)
      unfold Date.number at h
      rw [hy] at h h1 h2
      omega
  have hm : d.month = e.month := Nat.le_antisymm (month_le he h.symm hy.symm) (month_le hd h hy)
  obtain ⟨-, -, h1⟩ := (Date.valid_iff d).mp hd
  obtain ⟨-, -, h2⟩ := (Date.valid_iff e).mp he
  have hday : d.day = e.day := by
    unfold Date.number at h
    rw [hy, hm] at h
    omega
  cases d
  cases e
  simp_all

theorem dateOfDays_number {d : Date} (h : d.valid = true) : dateOfDays d.number = d :=
  Date.number_injective (dateOfDays_valid _ (Date.number_lt h)) h (number_dateOfDays (Date.number_lt h))

/-- The next day is one later, and that after the last is the first (R191). -/
theorem Date.number_next {d : Date} (h : d.valid = true) : d.next.number = (d.number + 1) % 36525 := by
  have hlt := Date.number_lt (d.next_valid h)
  obtain ⟨hy, hm, hd⟩ := (Date.valid_iff d).mp h
  have hmonth := daysBeforeMonth_succ d.year hm.1
  have before := Date.number_lt h
  unfold Date.next at hlt ⊢
  split at hlt
  · rename_i hday
    rw [if_pos hday]
    unfold Date.number at hlt before ⊢
    dsimp only at hlt ⊢
    omega
  · rename_i hday
    rw [if_neg hday]
    split at hlt
    · rename_i hmon
      rw [if_pos hmon]
      unfold Date.number at hlt before ⊢
      dsimp only at hlt ⊢
      omega
    · rename_i hmon
      rw [if_neg hmon]
      have december : d.month = 12 := by omega
      have hyear := daysBeforeYear_succ hy.1
      have hmonth : daysBeforeMonth d.year 13 = daysBeforeMonth d.year 12 + monthLength d.year 12 :=
        daysBeforeMonth_succ d.year (by omega)
      rw [december] at hd hday
      split at hlt
      · rename_i hnext
        rw [if_pos hnext]
        unfold Date.number at hlt before ⊢
        rw [december] at before ⊢
        dsimp only at hlt ⊢
        rw [show daysBeforeMonth (d.year + 1) 1 = 0 from rfl] at hlt ⊢
        omega
      · rename_i hnext
        rw [if_neg hnext]
        have last : d.year = 2099 := by omega
        rw [last] at hd hday hmonth hyear
        have end_ : daysBeforeYear (2099 + 1) = 36525 := rfl
        have whole : d.number = 36524 := by
          unfold Date.number
          rw [december, last]
          omega
        rw [whole]
        rfl

/-! ## Seconds -/

theorem DateTime.ofStamp_of_lt {n : Nat} (h : n < 36525 * 86400) :
    DateTime.ofStamp n = some ⟨dateOfDays (n / 86400), ⟨n / 3600 % 24, n / 60 % 60, n % 60⟩⟩ := if_pos h

/-- The seconds of the calendar and their dates and times (R201). -/
theorem DateTime.ofStamp_exists {n : Nat} (h : n < 36525 * 86400) :
    ∃ x, DateTime.ofStamp n = some x ∧ x.date.valid = true ∧ x.time.valid = true ∧ x.toStamp = n := by
  refine ⟨_, DateTime.ofStamp_of_lt h, (DateTime.ofStamp_valid n _ (DateTime.ofStamp_of_lt h)).1,
    (DateTime.ofStamp_valid n _ (DateTime.ofStamp_of_lt h)).2, ?_⟩
  rw [DateTime.toStamp_eq, number_dateOfDays (by omega)]
  dsimp only
  omega

section
variable {x : DateTime} (hd : x.date.valid = true) (ht : x.time.valid = true)
include hd ht

theorem DateTime.toStamp_lt : x.toStamp < 36525 * 86400 := by
  have := Date.number_lt hd
  obtain ⟨h1, h2, h3⟩ := (TimeOfDay.valid_iff _).mp ht
  rw [DateTime.toStamp_eq]
  omega

theorem DateTime.ofStamp_toStamp : DateTime.ofStamp x.toStamp = some x := by
  obtain ⟨h1, h2, h3⟩ := (TimeOfDay.valid_iff _).mp ht
  rw [DateTime.ofStamp_of_lt (DateTime.toStamp_lt hd ht), DateTime.toStamp_eq]
  generalize hn : ((x.date.number * 24 + x.time.hour) * 60 + x.time.minute) * 60 + x.time.second = n
  rw [show n / 86400 = x.date.number by omega, show n / 3600 % 24 = x.time.hour by omega, show n / 60 % 60 = x.time.minute by omega,
    show n % 60 = x.time.second by omega, dateOfDays_number hd]

/-- A second later the stamp is one more, and past the last the first (R191, R201). -/
theorem DateTime.toStamp_next : x.next.toStamp = (x.toStamp + 1) % (36525 * 86400) := by
  have hlt := DateTime.toStamp_lt (x.next_valid hd ht).1 (x.next_valid hd ht).2
  have before := DateTime.toStamp_lt hd ht
  obtain ⟨h1, h2, h3⟩ := (TimeOfDay.valid_iff _).mp ht
  rw [DateTime.toStamp_eq] at before
  unfold DateTime.next at hlt ⊢
  iterate 3
    split
    · rename_i hc
      rw [if_pos hc, DateTime.toStamp_eq] at hlt
      rw [DateTime.toStamp_eq, DateTime.toStamp_eq]
      dsimp only at hlt ⊢
      omega
    rename_i hc
    rw [if_neg hc] at hlt
  rw [DateTime.toStamp_eq, DateTime.toStamp_eq]
  dsimp only
  rw [Date.number_next hd]
  omega

end
end Sys2Proof.Machine

/-! # The clock's second, and the lamps -/

namespace Sys2Proof.Machine

open Sys2Proof Sys2Proof.Machine

/-! ## No arbiter sets a lamp -/

/-- Two states whose printers' lamps are alike. -/
def State.LampsAs (s t : State) : Prop := ∀ q, (t.ctl q).lamp = (s.ctl q).lamp ∧ (t.ctl q).lampOn = (s.ctl q).lampOn

namespace State.LampsAs

variable {s t : State}

theorem refl (s : State) : s.LampsAs s := fun _ => ⟨rfl, rfl⟩

theorem of_controllers {u : State} (h : s.LampsAs t) (e : u.controllers = t.controllers) : s.LampsAs u := fun q => by
  rw [show u.ctl q = t.ctl q from congrArg (·[q]) e]
  exact h q

theorem mapCtl (h : s.LampsAs t) (p : PrinterId) (f : Controller → Controller) (hf : ∀ c, (f c).lamp = c.lamp ∧ (f c).lampOn = c.lampOn) :
    s.LampsAs (t.mapCtl p f) := fun q => by
  rw [State.mapCtl, State.putCtl_ctl]
  split
  · rename_i e
    rw [e, (hf _).1, (hf _).2]
    exact h p
  · exact h q

variable (p : PrinterId)

theorem setPrinterState (h : s.LampsAs t) (st : PrinterState) : s.LampsAs (t.setPrinterState p st) := by
  have entered : s.LampsAs (t.mapCtl p (·.enter st)) := h.mapCtl p _ fun _ => ⟨rfl, rfl⟩
  unfold State.setPrinterState
  dsimp only
  split
  · exact entered
  · exact entered.of_controllers (State.raise_controllers ..)

theorem sendOp (h : s.LampsAs t) (op : Operation) (purpose : Purpose) : s.LampsAs (t.sendOp p op purpose) := by
  unfold State.sendOp
  split
  · exact h.mapCtl p _ fun _ => ⟨rfl, rfl⟩
  · exact h.mapCtl p _ fun _ => ⟨rfl, rfl⟩

theorem hold (h : s.LampsAs t) (kind : FaultKind) (strip : Option StripRead) : s.LampsAs (t.hold p kind strip) :=
  (h.setPrinterState p .held).of_controllers (State.enterFault_controllers ..)

theorem endJob (h : s.LampsAs t) (r : JobResult) : s.LampsAs (t.endJob p r) := h.of_controllers (State.endJob_controllers ..)

theorem nextLine (h : s.LampsAs t) : s.LampsAs (t.nextLine p) := by
  unfold State.nextLine
  split
  · refine sendOp p (setPrinterState p (h.mapCtl p _ ?_) _) _ _
    exact fun _ => ⟨rfl, rfl⟩
  · exact (h.setPrinterState p _).sendOp p _ _

theorem formVerified (h : s.LampsAs t) : s.LampsAs (t.formVerified p) := by
  unfold State.formVerified
  split
  · split
    · exact (h.endJob p _).setPrinterState p _
    · refine nextLine p (mapCtl (h.of_controllers (State.putProgress_controllers ..)) p _ ?_)
      exact fun _ => ⟨rfl, rfl⟩
  · exact h

theorem positionForm (h : s.LampsAs t) : s.LampsAs (t.positionForm p) := by
  have reset : s.LampsAs (t.mapCtl p fun c => { c with usedAdvances := 0 }) := h.mapCtl p _ fun _ => ⟨rfl, rfl⟩
  unfold State.positionForm
  dsimp only
  split
  · exact reset.formVerified p
  all_goals
    refine sendOp p (setPrinterState p (reset.mapCtl p _ ?_) _) _ _
    exact fun _ => ⟨rfl, rfl⟩

theorem startPass (h : s.LampsAs t) : s.LampsAs (t.startPass p) := by
  unfold State.startPass
  split
  · exact h
  · split
    · exact (h.endJob p _).setPrinterState p _
    · split
      · exact (h.of_controllers (State.suspend_controllers ..)).hold p _ _
      · split
        · exact (h.setPrinterState p _).sendOp p _ _
        · exact h.positionForm p

theorem beginLoop (h : s.LampsAs t) : s.LampsAs (t.beginLoop p) := by
  unfold State.beginLoop
  split
  · exact h.startPass p
  · refine mapCtl (h.setPrinterState p _) p _ ?_
    exact fun _ => ⟨rfl, rfl⟩

theorem offer (h : s.LampsAs t) (j : Job) (rest : Lanes) : s.LampsAs (t.offer p j rest) := by
  unfold State.offer
  split
  · exact h.hold p _ _
  · split
    · exact h
    · rw [State.admitHead_eq]
      exact beginLoop p (h.of_controllers (State.noteRecords_controllers ..))

theorem arbiter (h : s.LampsAs t) : s.LampsAs (t.arbiter p) := by
  unfold State.arbiter
  split
  · exact h
  · split
    · split
      · exact h
      · split
        · exact h.hold p _ _
        · exact (h.of_controllers (State.mapJob_controllers ..)).beginLoop p
    · split
      · exact h.offer p _ _
      · exact h.offer p _ _
      · exact h

theorem arbiters (ps : List PrinterId) : ∀ {t : State}, s.LampsAs t → s.LampsAs (ps.foldl (fun t p => t.arbiter p) t) := by
  induction ps with
  | nil => exact fun h => h
  | cons p ps ih => exact fun h => ih (h.arbiter p)

theorem arbitrateAll (s : State) : s.LampsAs s.arbitrateAll := by
  unfold State.arbitrateAll
  split
  · exact arbiters _ (t := s.putDraws _) fun _ => ⟨rfl, rfl⟩
  · exact arbiters _ (refl s)

end State.LampsAs

/-! ## What an event leaves on the lamps (R132) -/

theorem afterEvent_ctl (s : State) (p : PrinterId) :
    s.afterEvent.ctl p = (s.arbitrateAll.ctl p).showLamp (s.arbitrateAll.lampNow p) := by
  simp [State.afterEvent, State.refreshLamps, State.pumpAll, State.ctl]

theorem showLamp_state (c : Controller) (lamp : Lamp) : (c.showLamp lamp).state = c.state := by
  unfold Controller.showLamp; split <;> rfl

/-- The lamp that an event leaves, by the printer's state and its pack as the event leaves them. -/
theorem afterEvent_lampNow (s : State) (p : PrinterId) : s.afterEvent.lampNow p = s.arbitrateAll.lampNow p := by
  unfold State.lampNow
  rw [afterEvent_ctl, showLamp_state]
  rfl

theorem afterEvent_lamp (s : State) (p : PrinterId) : (s.afterEvent.ctl p).lamp = s.afterEvent.lampNow p ∧
    (s.afterEvent.ctl p).lampOn =
      if s.afterEvent.lampNow p = (s.ctl p).lamp then (s.ctl p).lampOn else decide (s.afterEvent.lampNow p ≠ .off) := by
  obtain ⟨hl, ho⟩ := State.LampsAs.arbitrateAll s p
  rw [afterEvent_lampNow, afterEvent_ctl, showLamp_eq, ← hl, ← ho]
  split
  · rename_i e; exact ⟨e, (if_pos e.symm).symm⟩
  · rename_i e; exact ⟨rfl, (if_neg fun c => e c.symm).symm⟩

/-! ## The clock (O28) -/

theorem passes_eq (c : Clock) : c.passes = decide (c.now.next.time = ⟨c.rollHour, 0, 0⟩) := by
  simp [Clock.passes, beq_eq_decide]

theorem clockHeld_eq (s : State) : s.clockHeld = !decide (s.phase = .halted ∧ s.signature = .other) := by
  simp [State.clockHeld, Bool.decide_and, beq_eq_decide]

/-- A second, by whether it passes into the roll hour (R191, R192). -/
theorem secondPasses_eq (s : State) : s.secondPasses =
    if s.clock.passes then
      (State.raise { s with clock := { s.clock with
        now := s.clock.now.next, day := if s.clock.day = 9999 then 1 else s.clock.day + 1 } } .dayRoll .nothing).pumpAll
    else { s with clock := { s.clock with now := s.clock.now.next } } := by
  unfold State.secondPasses
  dsimp only
  split <;> rename_i h
  · simp only [State.runClock, Clock.tick, h, if_true, State.closeLines, dayAfter]
  · simp only [State.runClock, Clock.tick, h, Bool.false_eq_true, if_false]

theorem raise_notRunning {s : State} (h : s.phase ≠ .running) (c : NoticeClass) (sub : Subject) : s.raise c sub = s := if_neg h

/-- Settles O28: the second, the calendar, and the outputs. -/
theorem clockTicksAndRolls : Obligations.ClockTicksAndRolls := by
  refine ⟨fun s => ?_, ⟨fun n hn => DateTime.ofStamp_exists hn, fun n hn => if_neg (Nat.not_lt.mpr hn), fun x hd ht =>
    ⟨DateTime.toStamp_lt hd ht, DateTime.ofStamp_toStamp hd ht, (x.next_valid hd ht).1, (x.next_valid hd ht).2,
      DateTime.toStamp_next hd ht⟩, rfl⟩, fun s p => ?_, fun s => ⟨fun n => rfl, fun p hr => ?_⟩⟩
  · dsimp only
    rw [← passes_eq]
    refine ⟨?_, ?_, fun hp => ?_⟩
    · change execClockTick s = _
      rw [execClockTick, clockHeld_eq, secondPasses_eq]
      cases decide (s.phase = .halted ∧ s.signature = .other) <;> rfl
    · change execDayRoll s = _
      rw [execDayRoll, clockHeld_eq, secondPasses_eq]
      simp only [Bool.and_comm]
    · rw [raise_notRunning]
      exact hp
  · dsimp only
    rw [← lampNow_eq]
    exact afterEvent_lamp s p
  · change execLampFlash p s = _
    simp only [execLampFlash, State.printersRun, hr, if_true, State.mapCtl, Controller.flash]
    split
    · rfl
    · simp [State.putCtl, State.ctl]

end Sys2Proof.Machine

/-! # A window's request and the sessions of the others -/

namespace Sys2Proof.Machine

open Sys2Proof Sys2Proof.Machine

/-! ## What is the office's, and what is a session's -/

/-- What the requests of a window leave as it is: the settings, the packs and the clock (R181). -/
structure House where
  settings : Settings
  high : Nat
  low : Nat
  denominations : Vector Nat 12
  tolerance : Nat
  kinds : Vector StockKind 8
  packs : Vector (Option Pack) 64
  loaded : Vector (Option Slot) 4

def State.house (s : State) : House :=
  ⟨s.settings, s.till.high, s.till.low, s.till.denominations, s.till.tolerance, s.stock.kinds, s.stock.packs, s.stock.loaded⟩

/-- What of a line the requests of the others leave as it is. -/
structure OwnLine where
  mask : BitVec 16
  body : List Byte
  outcomes : List Outcome
  deferred : Option Deferred

def LineState.own (ln : LineState) : OwnLine := ⟨ln.mask, ln.body, ln.outcomes, ln.deferred⟩

/-- The state is changed for the session of one line at most (R44, R155, R181). -/
structure State.Apart (l : Line) (s t : State) : Prop where
  house : t.house = s.house
  session : ∀ n : SessionId, n ≠ l → t.session n = s.session n
  drawer : ∀ n : SessionId, n ≠ l → t.drawers[n] = s.drawers[n]
  line : ∀ n : Line, n ≠ l → (t.line n).own = (s.line n).own

/-- The job in progress on a printer, if there is one, has no abort mark. -/
def State.Unmarked (s : State) (p : PrinterId) : Prop := ∀ g, s.inProgress p = some g → g.job.abortMark = false

theorem LineState.pump_own (ln : LineState) (r : StartResult) : (ln.pump r).own = ln.own := by
  unfold LineState.pump; repeat' split
  all_goals rfl

theorem LineState.receive_own (ln : LineState) (c : NoticeClass) : (ln.receive c).own = ln.own := by
  unfold LineState.receive; split <;> rfl

namespace State.Apart

variable {l : Line} {s t : State}

theorem refl (l : Line) (s : State) : s.Apart l s := ⟨rfl, fun _ _ => rfl, fun _ _ => rfl, fun _ _ => rfl⟩

theorem trans {u : State} (h : s.Apart l t) (k : t.Apart l u) : s.Apart l u where
  house := k.house.trans h.house
  session n hn := (k.session n hn).trans (h.session n hn)
  drawer n hn := (k.drawer n hn).trans (h.drawer n hn)
  line n hn := (k.line n hn).trans (h.line n hn)

/-! ### The writers -/

theorem rest {u : State} (h : s.Apart l t) (house : u.house = t.house := by rfl)
    (sessions : u.till.sessions = t.till.sessions := by rfl) (drawers : u.drawers = t.drawers := by rfl)
    (lines : u.lines = t.lines := by rfl) : s.Apart l u :=
  h.trans ⟨house, fun n _ => congrArg (·[n]) sessions, fun n _ => congrArg (·[n]) drawers,
    fun n _ => congrArg (fun v : Vector LineState 7 => v[n].own) lines⟩

theorem lines (h : s.Apart l t) (v : Vector LineState 7) (hv : ∀ n : Line, n ≠ l → v[n].own = (t.line n).own) :
    s.Apart l { t with lines := v } :=
  h.trans ⟨rfl, fun _ _ => rfl, fun _ _ => rfl, hv⟩

theorem putLine (h : s.Apart l t) (x : LineState) : s.Apart l (t.putLine l x) :=
  h.lines _ fun n hn => by rw [show (t.lines.set l x)[n] = (t.putLine l x).line n from rfl, State.putLine_line, if_neg hn]

theorem putSession (h : s.Apart l t) (x : Session) : s.Apart l (t.putSession l x) :=
  h.trans ⟨rfl, fun n hn => by rw [State.putSession_session, if_neg hn], fun _ _ => rfl, fun _ _ => rfl⟩

theorem pulse (h : s.Apart l t) : s.Apart l (t.pulse l) :=
  h.trans ⟨rfl, fun _ _ => rfl, fun n hn => by
    simp only [State.pulse, State.putDrawer_drawers, Fin.getElem_fin]
    exact Vector.getElem_set_ne _ _ fun e => hn (Fin.ext e.symm), fun _ _ => rfl⟩

/-! ### The lines -/

theorem frameEnded (h : s.Apart l t) : s.Apart l (t.frameEnded l) := h.putLine _

theorem queueReply (h : s.Apart l t) (r : Reply) : s.Apart l (t.queueReply l r) := h.putLine _

theorem pump (h : s.Apart l t) : s.Apart l (t.pump l) := h.putLine _

theorem pumpAll (h : s.Apart l t) : s.Apart l t.pumpAll := by
  refine h.lines _ fun n _ => ?_
  simp only [Fin.getElem_fin, Vector.getElem_ofFn, Fin.eta]
  exact LineState.pump_own ..

theorem raise (h : s.Apart l t) (c : NoticeClass) (sub : Subject) : s.Apart l (t.raise c sub) := by
  unfold State.raise
  split
  · refine h.lines _ fun n _ => ?_
    simp only [Fin.getElem_fin, Vector.getElem_ofFn, Fin.eta]
    split
    · exact LineState.receive_own ..
    · rfl
  · exact h

theorem handOver (h : s.Apart l t) {o : Outcome} (ho : o.session = l) : s.Apart l (t.handOver o) := by
  unfold State.handOver
  split
  · exact h
  · rw [ho]; exact h.putLine _

/-! ### The session of the line -/

theorem drawerNoticed (h : s.Apart l t) (n : SessionId) (before : DrawerState) : s.Apart l (t.drawerNoticed n before) := by
  unfold State.drawerNoticed
  split
  · exact h
  · split
    · exact h.raise _ _
    · exact h.raise _ _
    · exact h

/-- The session is written with its estimate, the notice of its drawer state and the pulse follow (R60, R62, R63). -/
theorem estimate (h : s.Apart l t) (x : Session) (e : Nat) (before : DrawerState) :
    s.Apart l (((t.putSession l x).updateEstimate l e before).pulse l) := by
  rw [State.updateEstimate_eq]
  exact ((h.putSession _).drawerNoticed l before).pulse

theorem countKind (h : s.Apart l t) (k : Kind) (f : KindCounters → KindCounters) : s.Apart l (t.countKind l k f) := h.putSession _

theorem releaseCharge (h : s.Apart l t) {j : Job} (hj : j.session = l) : s.Apart l (t.releaseCharge j) := by
  unfold State.releaseCharge
  rw [hj]
  exact h.putSession _

/-! ### The records -/

theorem noteRecords (h : s.Apart l t) : s.Apart l t.noteRecords := by
  unfold State.noteRecords
  dsimp only
  split
  · exact (h.rest (u := t.putStock _)).raise _ _
  · exact h.rest

theorem addRecord (h : s.Apart l t) (r : ExceptionRecord) : s.Apart l (t.addRecord r) := noteRecords h.rest

theorem voidRecords (n : SessionId) (cs : List Coupon) : ∀ {t : State}, s.Apart l t → s.Apart l (t.voidRecords n cs) := by
  induction cs with
  | nil => exact fun h => h
  | cons c cs ih => exact fun h => ih (h.addRecord _)

variable (p : PrinterId)

theorem mapJob (h : s.Apart l t) (f : Job → Job) : s.Apart l (t.mapJob p f) := by
  unfold State.mapJob
  split
  · exact h
  · exact h.rest

theorem addJobRecord (h : s.Apart l t) (slot : Slot) (first span : Nat) (reason : Reason) :
    s.Apart l (t.addJobRecord p slot first span reason) := by
  unfold State.addJobRecord
  split
  · exact h
  · dsimp only
    exact noteRecords (mapJob p h.rest _)

theorem undoCoupons (k : Kind) (cs : List Coupon) : ∀ {t : State}, s.Apart l t → s.Apart l (t.undoCoupons p l k cs) := by
  induction cs with
  | nil => exact fun h => h
  | cons c cs ih => exact fun h => ih ((h.addJobRecord p _ _ _ _).countKind _ _)

theorem dropJob (h : s.Apart l t) : s.Apart l (t.dropJob p) := by
  unfold State.dropJob
  split
  · exact h
  · exact noteRecords h.rest

/-- A job of the line's session that ABORT JOB ends: no form in hand is lost, so no pack's cursor moves (R95, R98, R100). -/
theorem endJob (h : s.Apart l t) {g : Progress} (hg : t.inProgress p = some g) (hj : g.job.session = l) :
    s.Apart l (t.endJob p .aborted) := by
  rw [endJob_eq hg, State.formsUndone, if_neg (by decide), State.ended, hj]
  exact ((((h.undoCoupons p _ _).releaseCharge hj).dropJob p).handOver hj).raise _ _

/-! ### The printers -/

theorem mapCtl (h : s.Apart l t) (f : Controller → Controller) : s.Apart l (t.mapCtl p f) := h.rest

theorem setPrinterState (h : s.Apart l t) (st : PrinterState) : s.Apart l (t.setPrinterState p st) := by
  unfold State.setPrinterState
  dsimp only
  split
  · exact h.mapCtl p _
  · exact (h.mapCtl p _).raise _ _

theorem sendOp (h : s.Apart l t) (op : Operation) (w : Purpose) : s.Apart l (t.sendOp p op w) := by
  unfold State.sendOp
  split
  · exact h.mapCtl p _
  · exact h.mapCtl p _

theorem setEntries (h : s.Apart l t) (es : List FaultEntry) : s.Apart l (t.setEntries es) := by
  unfold State.setEntries
  split
  · exact h
  · exact h.rest

theorem enterFault (h : s.Apart l t) (kind : FaultKind) (strip : Option StripRead) : s.Apart l (t.enterFault p kind strip) := by
  unfold State.enterFault
  split
  · exact (h.rest (u := t.putLog _)).raise _ _
  · dsimp only
    split
    · exact (h.setEntries _).raise _ _
    · exact h.setEntries _

theorem held (h : s.Apart l t) (kind : FaultKind) (strip : Option StripRead) :
    s.Apart l ((t.setPrinterState p .held).enterFault p kind strip) := (h.setPrinterState p _).enterFault p kind strip

/-! ### The arbiters -/

theorem nextLine (h : s.Apart l t) : s.Apart l (t.nextLine p) := by
  unfold State.nextLine
  split
  · exact ((h.mapCtl p _).setPrinterState p _).sendOp p _ _
  · exact (h.setPrinterState p _).sendOp p _ _

theorem formVerified (h : s.Apart l t) (hm : t.Unmarked p) : s.Apart l (t.formVerified p) := by
  unfold State.formVerified
  split
  · rename_i g _ _ hg _
    rw [if_neg (by rw [hm g hg]; decide)]
    exact nextLine p (mapCtl p h.rest _)
  · exact h

theorem positionForm (h : s.Apart l t) (hm : t.Unmarked p) : s.Apart l (t.positionForm p) := by
  have reset : s.Apart l (t.mapCtl p fun c => { c with usedAdvances := 0 }) := h.mapCtl p _
  unfold State.positionForm
  dsimp only
  split
  · exact reset.formVerified p hm
  · exact ((reset.mapCtl p _).setPrinterState p _).sendOp p _ _
  · exact ((reset.mapCtl p _).setPrinterState p _).sendOp p _ _

theorem suspend (h : s.Apart l t) : s.Apart l (t.suspend p) := by
  have suspended : s.Apart l (t.mapJob p fun j => { j with state := .suspended }) := h.mapJob p _
  unfold State.suspend State.markForm
  split
  · exact suspended
  · exact suspended.rest

theorem startPass (h : s.Apart l t) (hm : t.Unmarked p) : s.Apart l (t.startPass p) := by
  unfold State.startPass
  split
  · exact h
  · rename_i g hg
    rw [if_neg (by rw [hm g hg]; decide)]
    split
    · exact (h.suspend p).held p _ _
    · split
      · exact (h.setPrinterState p _).sendOp p _ _
      · exact h.positionForm p hm

theorem loopBegun (h : s.Apart l t) (hm : t.Unmarked p) : s.Apart l (t.loopBegun p) := by
  unfold State.loopBegun
  split
  · exact h.startPass p hm
  · exact h.rest

theorem taken (h : s.Apart l t) (j : Job) (rest : Lanes) : s.Apart l (t.taken p j rest) := by
  unfold State.taken
  dsimp only
  split
  · exact State.Apart.raise h.rest _ _
  · exact h.rest

theorem offered (h : s.Apart l t) {j : Job} (hj : j.abortMark = false) (rest : Lanes) : s.Apart l (t.offered p j rest) := by
  unfold State.offered
  split
  · exact h.held p _ _
  · split
    · exact h
    · refine (h.taken p j rest).loopBegun p fun g hg => ?_
      rw [taken_inProgress] at hg
      obtain rfl := Option.some.inj hg
      exact hj

/-- While no mark is unsettled an arbiter ends no job: what it does is the printers' own (R90-R93). -/
theorem arbiter (h : s.Apart l t) (hm : t.MarksSettled) : s.Apart l (t.arbiter p) := by
  by_cases hi : (t.ctl p).state = .idle
  · cases hg : t.inProgress p with
    | some g =>
      rw [arbiter_job hi hg]
      split
      · exact h
      · rename_i hs
        split
        · exact h.held p _ _
        · refine loopBegun p h.rest fun x hx => ?_
          rw [State.putProgress_inProgress, if_pos rfl] at hx
          obtain rfl := Option.some.inj hx
          exact hm.2 p g hg (not_not.mp hs)
    | none =>
      cases ho : (t.lane p).office with
      | cons j rest =>
        rw [arbiter_office hi hg ho]
        exact h.offered p (hm.1 p j (by simp [ho])) _
      | nil =>
        cases hw : (t.lane p).window with
        | cons j rest =>
          rw [arbiter_window hi hg ho hw]
          exact h.offered p (hm.1 p j (by simp [hw])) _
        | nil => rw [arbiter_empty hi hg ho hw]; exact h
  · rw [arbiter_not_idle hi]; exact h

theorem arbiters (ps : List PrinterId) : ∀ {t : State}, s.Apart l t → t.MarksSettled →
    s.Apart l (ps.foldl (fun t p => t.arbiter p) t) ∧ (ps.foldl (fun t p => t.arbiter p) t).MarksSettled := by
  induction ps with
  | nil => exact fun h hm => ⟨h, hm⟩
  | cons p ps ih => exact fun h hm => ih (h.arbiter p hm) ((arbiter_done p hm).1.marks hm)

theorem afterEvent (h : s.Apart l t) (hm : t.MarksSettled) : s.Apart l t.afterEvent ∧ t.afterEvent.MarksSettled := by
  obtain ⟨order, -, horder⟩ := arbitrateAll_order t
  have acted : s.Apart l t.arbitrateAll ∧ t.arbitrateAll.MarksSettled := by
    rw [horder]
    split
    · exact arbiters order (t := t.putDraws _) h.rest hm
    · exact h.arbiters order hm
  exact ⟨pumpAll (t := t.arbitrateAll.refreshLamps) acted.1.rest, acted.2⟩

end State.Apart

/-! ## The requests of a window -/

/-- A window line reaches its own session alone (R44, R155). -/
theorem reachSession_own {l : Line} (hl : l ≠ officeLine) {session : Nat} {n : SessionId} (h : reachSession l session = .ok n) : n = l := by
  unfold reachSession at h
  split at h
  · cases h
  · split at h
    · rename_i hn
      obtain rfl := Except.ok.inj h
      exact hn.resolve_left hl
    · cases h

theorem ownedSession_own {s : State} {l : Line} (hl : l ≠ officeLine) {session : Nat} {n : SessionId}
    (h : s.ownedSession l session = .ok n) : n = l := by
  unfold State.ownedSession at h
  split at h
  · cases h
  · rename_i m hm
    split at h
    · cases h
    · split at h
      · cases h
      · obtain rfl := Except.ok.inj h
        exact reachSession_own hl hm

section
variable (l : Line) (u : State)

/-! ### Requests behind which no arbiter acts -/

theorem apart_signOn (clerk float : Nat) : u.Apart l (serveSignOn l clerk float u).state := by
  unfold serveSignOn
  split
  · exact .refl l u
  · split
    · exact .refl l u
    · exact (State.Apart.refl l u).estimate _ _ _

theorem apart_void (issue : Nat) : u.Apart l (serveVoid l issue u).state := by
  unfold serveVoid
  dsimp only
  split
  · exact .refl l u
  · exact .refl l u
  · split
    · exact .refl l u
    · split
      · exact .refl l u
      · rename_i e _
        have recorded := (State.Apart.refl l u).voidRecords l e.coupons
        split
        · exact .refl l u
        · split
          · exact .refl l u
          · split
            · exact .refl l u
            · dsimp only [accept]
              split
              · exact recorded.estimate _ _ _
              · exact recorded.putSession _

theorem apart_readTill (session : Nat) : u.Apart l (serveReadTill l session u).state := by
  unfold serveReadTill
  split
  · exact .refl l u
  · exact .refl l u

theorem apart_readJournal (session position : Nat) : u.Apart l (serveReadJournal l session position u).state := by
  unfold serveReadJournal
  split
  · exact .refl l u
  · dsimp only
    split
    · exact .refl l u
    · split
      · exact .refl l u
      · split
        · exact .refl l u
        · exact .refl l u

theorem apart_writeBody (bytes : List Byte) : u.Apart l (serveWriteBody l bytes u).state := by
  unfold serveWriteBody
  split
  · exact .refl l u
  · exact (State.Apart.refl l u).putLine _

theorem apart_readFaults (start : Nat) : u.Apart l (serveReadFaults l start u).state := by
  unfold serveReadFaults
  split
  · exact .refl l u
  · exact .refl l u

variable (hl : l ≠ officeLine)
include hl

theorem apart_cashupBegin (session : Nat) : u.Apart l (serveCashupBegin l session u).state := by
  unfold serveCashupBegin
  split
  · exact .refl l u
  · rename_i n hn
    obtain rfl := reachSession_own hl hn
    dsimp only
    split
    · exact .refl n u
    · exact .refl n u
    · split
      · exact .refl n u
      · exact ((State.Apart.refl n u).putSession _).pulse

theorem apart_declareCash (session index count : Nat) : u.Apart l (serveDeclareCash l session index count u).state := by
  unfold serveDeclareCash
  split
  · exact .refl l u
  · rename_i n hn
    obtain rfl := ownedSession_own hl hn
    split
    · split
      · exact .refl n u
      · exact (State.Apart.refl n u).putSession _
    · exact .refl n u

theorem apart_declareCard (session total : Nat) : u.Apart l (serveDeclareCard l session total u).state := by
  unfold serveDeclareCard
  split
  · exact .refl l u
  · rename_i n hn
    obtain rfl := ownedSession_own hl hn
    split
    · exact .refl n u
    · exact (State.Apart.refl n u).putSession _

theorem apart_declareWarrants (session count total : Nat) : u.Apart l (serveDeclareWarrants l session count total u).state := by
  unfold serveDeclareWarrants
  split
  · exact .refl l u
  · rename_i n hn
    obtain rfl := ownedSession_own hl hn
    split
    · exact .refl n u
    · exact (State.Apart.refl n u).putSession _

theorem apart_cashupCommit (session : Nat) : u.Apart l (serveCashupCommit l session u).state := by
  unfold serveCashupCommit
  split
  · exact .refl l u
  · rename_i n hn
    obtain rfl := ownedSession_own hl hn
    split
    · exact .refl n u
    · exact State.Apart.raise (State.Apart.rest ((State.Apart.refl n u).putSession _)) _ _

theorem apart_cashupAbandon (session : Nat) : u.Apart l (serveCashupAbandon l session u).state := by
  unfold serveCashupAbandon
  split
  · exact .refl l u
  · rename_i n hn
    obtain rfl := reachSession_own hl hn
    dsimp only
    split
    · exact .refl n u
    · split
      · exact .refl n u
      · exact (State.Apart.refl n u).putSession _

end

/-! ### Requests behind which the arbiters act: the marks stay settled -/

/-- The state is changed for the session of one line at most, and the abort marks are settled as they were. -/
structure State.ApartSettled (l : Line) (s t : State) : Prop where
  apart : s.Apart l t
  marks : s.MarksSettled → t.MarksSettled

theorem State.ApartSettled.refl (l : Line) (s : State) : s.ApartSettled l s := ⟨.refl l s, id⟩

theorem marksSettled_of_frames {s t : State} (lanes : t.lanes = s.lanes) (progress : t.progress = s.progress) (h : s.MarksSettled) :
    t.MarksSettled := by
  unfold State.MarksSettled State.lane State.inProgress at h ⊢
  rw [lanes, progress]
  exact h

/-- The lanes of one printer are changed, and hold no marked job. -/
theorem marksSettled_putLane {s : State} (h : s.MarksSettled) (p : PrinterId) {x : Lanes}
    (hx : ∀ j ∈ x.office ++ x.window, j.abortMark = false) : (s.putLane p x).MarksSettled := by
  refine ⟨fun q j hj => ?_, h.2⟩
  rw [State.putLane_lane] at hj
  split at hj
  · exact hx j hj
  · exact h.1 q j hj

/-- The job in progress of one printer is gone, or is no SUSPENDED one. -/
theorem marksSettled_progress {s t : State} (h : s.MarksSettled) (lanes : t.lanes = s.lanes) (p : PrinterId)
    (others : ∀ q, q ≠ p → t.inProgress q = s.inProgress q) (own : ∀ g, t.inProgress p = some g → g.job.state ≠ .suspended) :
    t.MarksSettled := by
  refine ⟨fun q j hj => h.1 q j ?_, fun q g hg hs => ?_⟩
  · unfold State.lane at hj ⊢; rwa [lanes] at hj
  · by_cases hq : q = p
    · subst hq; exact absurd hs (own g hg)
    · rw [others q hq] at hg; exact h.2 q g hg hs

section
variable (l : Line) (u : State)

/-- No window line has a deferred request to stop (R181, R182). -/
theorem settled_abort (hd : (u.line l).deferred = none) : u.ApartSettled l (serveAbort l u).state := by
  unfold serveAbort
  rw [hd]
  exact .refl l u

theorem settled_acceptIssue (x : IssueTerms) (p : PrinterId) : u.ApartSettled l (u.acceptIssue l x p) where
  apart := State.Apart.rest (State.Apart.putSession (.refl l u) _)
  marks h := by
    refine marksSettled_putLane (marksSettled_of_frames rfl rfl h) p fun j hj => ?_
    have joined : j ∈ (u.lane p).office ++ (u.lane p).window ∨ j = u.newJob l x p := by
      unfold Lanes.join at hj
      split at hj <;> simp only [List.mem_append, List.mem_singleton] at hj ⊢ <;> tauto
    rcases joined with hj | rfl
    · exact h.1 p j hj
    · rfl

theorem settled_issue (kind passengers base index tender coupons : Nat) (named : Option Nat) (text : List Byte) :
    u.ApartSettled l (serveIssue l kind passengers base index tender coupons named text u).state := by
  unfold serveIssue
  split
  · exact .refl l u
  · dsimp only
    split
    · exact .refl l u
    · exact .refl l u
    · split
      · exact .refl l u
      · split
        · exact .refl l u
        · split
          · exact .refl l u
          · split
            · exact .refl l u
            · split
              · exact .refl l u
              · exact settled_acceptIssue l u _ _

variable {l u} {issue : Nat} {p : PrinterId} {j : Job}

theorem settled_withdraw (hj : j.session = l) : u.ApartSettled l (u.withdraw p j) where
  apart := State.Apart.releaseCharge (State.Apart.rest (.refl l u)) hj
  marks h := by
    refine marksSettled_of_frames (s := u.putLane p _) rfl rfl (marksSettled_putLane h p fun i hi => h.1 p i ?_)
    simp only [List.mem_append] at hi ⊢
    exact hi.imp (dropFirst_mem _ _ i) (dropFirst_mem _ _ i)

theorem settled_cancel : u.ApartSettled l (serveCancel l issue u).state := by
  unfold serveCancel
  split
  · exact .refl l u
  · split
    · exact .refl l u
    · split
      · exact .refl l u
      · rename_i hq
        exact settled_withdraw (State.Dues.queuedJob_some hq).2.1

theorem settled_abortQueued (hj : j.session = l) : u.ApartSettled l (u.abortQueued p j) where
  apart := ((settled_withdraw hj).apart.handOver hj).raise _ _
  marks h := by
    unfold State.abortQueued
    exact marksSettled_of_frames (s := u.withdraw p j) (by simp) (by simp) ((settled_withdraw hj).marks h)

variable {g : Progress} (hg : u.inProgress p = some g)
include hg

theorem settled_endJob (hj : g.job.session = l) : u.ApartSettled l (u.endJob p .aborted) where
  apart := (State.Apart.refl l u).endJob p hg hj
  marks h := by
    have gone := fun q => (endJob_eq hg .aborted).symm ▸ ended_inProgress (formsUndone_recorded hg .aborted).1 .aborted q
    exact marksSettled_progress h (by simp) p (fun q hq => (gone q).trans (if_neg hq))
      fun x hx => by rw [(gone p).trans (if_pos rfl)] at hx; cases hx

theorem settled_markAbort (hs : g.job.state ≠ .suspended) : u.ApartSettled l (u.markAbort p) := by
  unfold State.markAbort
  rw [hg]
  refine ⟨State.Apart.rest (.refl l u), fun h => marksSettled_progress h rfl p (fun q hq => ?_) fun x hx => ?_⟩
  · rw [State.markProgress_inProgress, if_neg hq]
  · rw [State.markProgress_inProgress, if_pos rfl] at hx
    obtain rfl := Option.some.inj hx
    exact hs

omit hg

theorem settled_abortJob : u.ApartSettled l (serveAbortJob l issue u).state := by
  unfold serveAbortJob
  split
  · exact .refl l u
  · split
    · rename_i hp
      obtain ⟨g, hg, rfl, hi⟩ := jobInProgress_some hp
      split
      · exact settled_endJob hg (Job.is_iff.mp hi).1
      · rename_i hs
        exact settled_markAbort hg hs
    · rename_i hq
      exact settled_abortQueued (State.Dues.queuedJob_some hq).2.1
    · exact .refl l u

end

/-! ## What a window's request leaves alone (O60) -/

section
variable {i : Instr} {l : Line} {code : Byte} {rest : List Byte} (e : requestBody i = some (l, code :: rest)) {s : State}
include e

/-- A request behind which no arbiter acts. -/
theorem apart_request (hclose : ∀ t, s.Apart l t → s.Apart l (closeRequest i l t))
    (hserve : (s.frameEnded l).Apart l (serveRequest i (s.frameEnded l)).state) : s.Apart l (takeRequest i s) := by
  rw [takeRequest_eq i l code rest e]
  have frame := (State.Apart.refl l s).frameEnded
  exact State.request_keeps (.refl l s) frame (fun t r h => h.queueReply r) (fun t h => h.pump) hclose fun _ => frame.trans hserve

/-- A request behind which the arbiters act. -/
theorem apart_event (hm : s.MarksSettled)
    (hserve : (s.frameEnded l).lineTest l code = none → (s.frameEnded l).ApartSettled l (serveRequest i (s.frameEnded l)).state) :
    s.Apart l (takeRequest i s) := by
  rw [takeRequest_eq i l code rest e]
  have frame : s.Apart l (s.frameEnded l) := (State.Apart.refl l s).frameEnded
  have kept : s.Apart l (s.request l code (closeRequest i l) (serveRequest i)) ∧
      (s.request l code (closeRequest i l) (serveRequest i)).MarksSettled := by
    refine State.request_keeps (P := fun t => s.Apart l t ∧ t.MarksSettled) ⟨.refl l s, hm⟩ ⟨frame, hm⟩
      (fun t r h => ⟨h.1.queueReply r, h.2⟩) (fun t h => ⟨h.1.pump, h.2⟩) (fun t h => ?_)
      fun ht => ⟨frame.trans (hserve ht).apart, (hserve ht).marks hm⟩
    rcases closeRequest_cases i l with hc | hc | hc <;> rw [hc]
    · exact ⟨h.1.pump, h.2⟩
    · exact ⟨h.1.pumpAll, h.2⟩
    · exact h.1.afterEvent h.2
  exact kept.1

end

/-- A window line's request changes the state for its own session at most (R44, R155, R181). -/
theorem apart_takeRequest {i : Instr} {l : Line} {code : Byte} {rest : List Byte} (e : requestBody i = some (l, code :: rest))
    (hl : l ≠ officeLine) {s : State} (hm : s.MarksSettled) (hd : (s.line l).deferred = none) : s.Apart l (takeRequest i s) := by
  by_cases hoffice : code.toNat ∈ officeCodes
  · exact apart_event e hm fun ht => absurd ((State.lineTest_none ht).2.2 hoffice) hl
  · have frame : ((s.frameEnded l).line l).deferred = none := by rw [State.frameEnded_line, if_pos rfl]; exact hd
    have e' := e
    cases i <;> simp only [requestBody, Option.some.injEq, Prod.mk.injEq, List.cons_append, List.cons.injEq, reduceCtorEq] at e' <;>
      obtain ⟨rfl, rfl, -⟩ := e'
    case readNotices l => exact apart_request e (fun _ h => h.pump) (State.Apart.putLine (.refl l _) _)
    case setNoticeMask l mask => exact apart_request e (fun _ h => h.pump) (State.Apart.putLine (.refl l _) _)
    case readOutcomes l => exact apart_request e (fun _ h => h.pump) (State.Apart.putLine (.refl l _) _)
    case readClock l => exact apart_request e (fun _ h => h.pump) (.refl l _)
    case signOn l clerk float => exact apart_request e (fun _ h => h.pumpAll) (apart_signOn l _ clerk float)
    case void l issue => exact apart_request e (fun _ h => h.pumpAll) (apart_void l _ issue)
    case readTill l session => exact apart_request e (fun _ h => h.pump) (apart_readTill l _ session)
    case readJournal l session position => exact apart_request e (fun _ h => h.pump) (apart_readJournal l _ session position)
    case writeBody l bytes => exact apart_request e (fun _ h => h.pump) (apart_writeBody l _ bytes)
    case readPrinters l => exact apart_request e (fun _ h => h.pump) (State.Apart.rest (.refl l _))
    case readFaults l start => exact apart_request e (fun _ h => h.pump) (apart_readFaults l _ start)
    case cashupBegin l session => exact apart_request e (fun _ h => h.pump) (apart_cashupBegin l _ hl session)
    case declareCash l session index count => exact apart_request e (fun _ h => h.pump) (apart_declareCash l _ hl session index count)
    case declareCard l session total => exact apart_request e (fun _ h => h.pump) (apart_declareCard l _ hl session total)
    case declareWarrants l session count total =>
      exact apart_request e (fun _ h => h.pump) (apart_declareWarrants l _ hl session count total)
    case cashupCommit l session => exact apart_request e (fun _ h => h.pumpAll) (apart_cashupCommit l _ hl session)
    case cashupAbandon l session => exact apart_request e (fun _ h => h.pump) (apart_cashupAbandon l _ hl session)
    case abort l => exact apart_event e hm fun _ => settled_abort l _ frame
    case issue l _ _ _ _ _ _ _ _ => exact apart_event e hm fun _ => settled_issue l _ _ _ _ _ _ _ _ _
    case cancel l issue => exact apart_event e hm fun _ => settled_cancel
    case abortJob l issue => exact apart_event e hm fun _ => settled_abortJob
    all_goals exact absurd (by decide) hoffice

/-- Settles O60: what a window's request changes is its own session's, or the printers'. -/
theorem windowReachesOwnSession : Obligations.WindowReachesOwnSession := by
  intro i l body e hl s t hm hb ht
  obtain ⟨code, rest, rfl⟩ := requestBody_cons i l body e
  rw [exec_request i s (by rw [e]; rfl)] at ht
  cases ht
  have hd := ((State.repliesBounded_iff.mp hb.2) l).2 hl
  obtain ⟨house, session, drawer, line⟩ := apart_takeRequest e hl hm hd
  simp only [State.house, State.settings, House.mk.injEq, Settings.mk.injEq] at house
  refine ⟨by simp only [house, and_self], fun n hn => ⟨session n hn, drawer n hn, ?_⟩⟩
  simpa only [LineState.own, OwnLine.mk.injEq] using line n hn

end Sys2Proof.Machine

/-! # What a line reads and writes of its own, and the clock (O25) -/

namespace Sys2Proof.Machine

open Sys2Proof Sys2Proof.Machine

section
variable {s : State} {l : Line}

/-- A write of a line's own fields does not meet the end of its frame. -/
theorem State.frameEnded_putLine_own (f : LineState → LineState)
    (hf : ∀ ln, f { ln with receiver := .waitLead } = { f ln with receiver := .waitLead }) :
    (s.frameEnded l).putLine l (f ((s.frameEnded l).line l)) = (s.putLine l (f (s.line l))).frameEnded l := by
  simp [State.frameEnded, hf]

/-- A field of its line that a request reads is the same at its frame's end. -/
theorem State.frameEnded_line_own {α : Type} (f : LineState → α) (hf : ∀ ln, f { ln with receiver := .waitLead } = f ln) :
    f ((s.frameEnded l).line l) = f (s.line l) := by
  rw [State.frameEnded_line, if_pos rfl, hf]

theorem exec_readNotices (h : s.Ready l) : exec (.readNotices l) s = .next (
    (s.putLine l { s.line l with pendingSet := 0 }).said l 0x01 .ok
      (be 2 (s.line l).pendingSet.toNat ++ [if s.startResult = .storeKept then 0 else 1])) := by
  have code : byteOf s.startResult.code = if s.startResult = .storeKept then 0 else 1 := by cases s.startResult <;> rfl
  rw [exec_ready _ rfl (by decide) (.inr (by decide)) h, ← code]
  refine congrArg Host.Outcome.next (Served.finish_of_said ?_)
  exact congrArg₂ accept (State.frameEnded_putLine_own (fun ln => { ln with pendingSet := 0 }) fun _ => rfl)
    (State.frameEnded_line_own (fun ln => be 2 ln.pendingSet.toNat ++ [byteOf s.startResult.code]) fun _ => rfl)

theorem exec_setNoticeMask (h : s.Ready l) (mask : BitVec 16) : exec (.setNoticeMask l mask) s = .next (
    (s.putLine l { s.line l with mask := mask }).said l 0x02 .ok (be 2 mask.toNat ++ be 2 (s.line l).pendingSet.toNat)) := by
  rw [exec_ready _ rfl (by decide) (.inr (by decide)) h]
  refine congrArg Host.Outcome.next (Served.finish_of_said ?_)
  exact congrArg₂ accept (State.frameEnded_putLine_own (fun ln => { ln with mask := mask }) fun _ => rfl)
    (State.frameEnded_line_own (fun ln => be 2 mask.toNat ++ be 2 ln.pendingSet.toNat) fun _ => rfl)

theorem exec_readOutcomes (h : s.Ready l) : exec (.readOutcomes l) s = .next (
    (s.putLine l { s.line l with outcomes := [] }).said l 0x03 .ok
      (byteOf (s.line l).outcomes.length :: (s.line l).outcomes.flatMap Outcome.bytes)) := by
  rw [exec_ready _ rfl (by decide) (.inr (by decide)) h]
  refine congrArg Host.Outcome.next (Served.finish_of_said ?_)
  exact congrArg₂ accept (State.frameEnded_putLine_own (fun ln => { ln with outcomes := [] }) fun _ => rfl)
    (State.frameEnded_line_own (fun ln => byteOf ln.outcomes.length :: ln.outcomes.flatMap Outcome.bytes) fun _ => rfl)

theorem flagByte_eq (b : Bool) : flagByte b = if b then 1 else 0 := by cases b <;> rfl

theorem exec_readClock (h : s.Ready l) : exec (.readClock l) s = .next (s.said l 0x05 .ok
    (be 4 s.clock.now.toStamp ++ be 2 s.clock.day ++ [byteOf s.clock.rollHour, if s.clock.isSet then 1 else 0])) := by
  rw [exec_ready _ rfl (by decide) (.inr (by decide)) h, ← flagByte_eq]
  exact congrArg Host.Outcome.next (Served.finish_of_said rfl)

theorem exec_writeBody (h : s.Ready l) (bytes : List Byte) : exec (.writeBody l bytes) s = .next (
    if 192 < bytes.length then s.said l 0x16 .badParameter []
    else (s.putLine l { s.line l with body := bytes }).said l 0x16 .ok [byteOf bytes.length]) := by
  rw [exec_ready _ rfl (by decide) (.inr (by decide)) h]
  refine congrArg Host.Outcome.next ?_
  split <;> rename_i hlen
  · exact Served.finish_of_refuse (if_pos hlen)
  · refine Served.finish_of_said ((if_neg hlen).trans ?_)
    exact congrArg (accept · _) (State.frameEnded_putLine_own (fun ln => { ln with body := bytes }) fun _ => rfl)

/-! ## SET CLOCK (R194) -/

theorem exec_setClock_out (h : s.Ready officeLine) {stamp : Nat} (hs : 36525 * 86400 ≤ stamp) (day rollHour : Nat) :
    exec (.setClock officeLine stamp day rollHour) s = .next (s.said officeLine 0x06 .badParameter []) := by
  have none : DateTime.ofStamp stamp = none := if_neg (Nat.not_lt.mpr hs)
  rw [exec_ready _ rfl (by decide) (.inl rfl) h]
  refine congrArg Host.Outcome.next (Served.finish_of_refuse ?_)
  simp only [serveRequest, serveSetClock, none]

theorem exec_setClock (h : s.Ready officeLine) {now : DateTime} (hd : now.date.valid = true) (ht : now.time.valid = true)
    (day rollHour : Nat) : exec (.setClock officeLine now.toStamp day rollHour) s = .next (
      if day < 1 ∨ 9999 < day ∨ 23 < rollHour then s.said officeLine 0x06 .badParameter []
      else (((s.putClock ⟨now, day, rollHour, true⟩).raise .clockSet .nothing).answered officeLine 0x06 .ok
        (be 4 now.toStamp ++ be 2 day ++ [byteOf rollHour, 1])).pumpAll) := by
  rw [exec_ready _ rfl (by decide) (.inl rfl) h]
  refine congrArg Host.Outcome.next ?_
  have served : serveRequest (.setClock officeLine now.toStamp day rollHour) (s.frameEnded officeLine) =
      if day < 1 ∨ 9999 < day ∨ 23 < rollHour then refuse (s.frameEnded officeLine) .badParameter
      else accept (((s.putClock ⟨now, day, rollHour, true⟩).raise .clockSet .nothing).frameEnded officeLine)
        (be 4 now.toStamp ++ be 2 day ++ [byteOf rollHour, 1]) := by
    simp only [serveRequest, serveSetClock, DateTime.ofStamp_toStamp hd ht, State.frameEnded_putClock, State.frameEnded_raise]
    rfl
  split <;> rename_i hc
  · exact Served.finish_of_refuse (served.trans (if_pos hc))
  · exact Served.finish_of_accept (served.trans (if_neg hc))

end

/-- Settles O25, request by request. -/
theorem lineReadsAndWrites : Obligations.LineReadsAndWrites :=
  ⟨fun _ _ h => ⟨exec_readNotices h, exec_setNoticeMask h, exec_readOutcomes h, exec_readClock h, exec_writeBody h⟩,
    fun _ _ day rollHour h => ⟨fun hs => exec_setClock_out h hs day rollHour, fun _ hd ht => exec_setClock h hd ht day rollHour⟩⟩

end Sys2Proof.Machine

/-! # The part halts, and stays silent (O29) -/

namespace Sys2Proof.Machine

open Sys2Proof Sys2Proof.Machine

/-- A halted part as PFAIL, RST or a collapse of the supply leaves it: outputs inactive, lines and printers silent (R195). -/
structure State.Silent (s : State) : Prop where
  phase : s.phase = .halted
  drawers : s.drawers = Vector.replicate 7 false
  ctl : ∀ p, s.ctl p = (s.ctl p).halted
  line : ∀ l, s.line l = (s.line l).halted

/-- All that may change in a silent part until start-up: the clock, the signature word, the inputs and the lines. -/
def State.SameBut (s t : State) : Prop :=
  t = { s with clock := t.clock, signature := t.signature, pfail := t.pfail, rst := t.rst, lines := t.lines }

theorem State.SameBut.refl (s : State) : s.SameBut s := rfl

namespace State.Silent

variable {s : State} (h : s.Silent)
include h

/-! ## Writes that a silent part has made already -/

theorem controllers : Vector.ofFn (fun p : PrinterId => (s.ctl p).halted) = s.controllers :=
  Vector.ext fun i hi => by rw [Vector.getElem_ofFn]; exact (h.ctl ⟨i, hi⟩).symm

theorem lines : Vector.ofFn (fun l : Line => (s.line l).halted) = s.lines :=
  Vector.ext fun i hi => by rw [Vector.getElem_ofFn]; exact (h.line ⟨i, hi⟩).symm

theorem halt : s.halt = s := by
  unfold State.halt
  rw [h.controllers, h.lines, ← h.phase, ← h.drawers]

theorem frameEnded (l : Line) : s.frameEnded l = s := by
  have same : ({ s.line l with receiver := .waitLead } : LineState) = s.line l := by rw [h.line l]; rfl
  rw [State.frameEnded, same]
  simp [State.putLine, State.line]

theorem sending (l : Line) : (s.line l).sending = none := by rw [h.line l]; rfl

theorem drawerPulseEnd (n : SessionId) : s.putDrawer n false = s := by
  have same : s.drawers.set n false = s.drawers := by rw [h.drawers]; revert n; decide
  rw [State.putDrawer, same]

theorem not_printersRun : s.printersRun = false := by rw [State.printersRun, h.phase]

theorem printerEvent (f : State → State) : s.printerEvent f = s := by simp [State.printerEvent, h.not_printersRun]

theorem dropFrame (p : PrinterId) : s.dropFrame p = s := by simp [State.dropFrame, h.not_printersRun]

/-- A transmitter with nothing to send sends nothing. -/
theorem pumpAll (c : Clock) : { s with clock := c }.pumpAll = { s with clock := c } := by
  have idle : ∀ l : Line, (s.line l).pump s.startResult = s.line l := fun l => by rw [h.line l]; rfl
  have same : Vector.ofFn (fun l : Line => (s.line l).pump s.startResult) = s.lines :=
    Vector.ext fun i hi => by rw [Vector.getElem_ofFn]; exact idle ⟨i, hi⟩
  exact congrArg (fun v => { s with clock := c, lines := v }) same

/-- In a halted part the clock alone moves with a second (R191, R192, R199). -/
theorem secondPasses : s.secondPasses = { s with clock := s.clock.tick } := by
  have quiet : State.raise { s with clock := s.clock.tick } .dayRoll .nothing = { s with clock := s.clock.tick } :=
    raise_notRunning (by simp [h.phase]) _ _
  unfold State.secondPasses
  dsimp only
  split
  · rw [State.runClock, quiet, State.closeLines, h.pumpAll]
  · rfl

/-! ## A command that finds the part silent -/

/-- Until start-up a command leaves the lines as they are, save the body buffers that PFAIL empties, and all else but the clock,
the signature word and the inputs (R195, R196). -/
theorem exec {c : Instr} (hc : ∀ straps stage, c ≠ .startUp straps stage) {t : State} (e : Machine.exec c s = .next t) :
    s.SameBut t ∧ ∀ l, t.line l = if c = .pfailAsserted then { s.line l with body := [] } else s.line l := by
  have unchanged : ∀ {u : State}, c ≠ .pfailAsserted → u = s →
      s.SameBut u ∧ ∀ l, u.line l = if c = .pfailAsserted then { s.line l with body := [] } else s.line l :=
    fun hne hu => by rw [hu]; exact ⟨.refl s, fun l => (if_neg hne).symm⟩
  have ticked : c ≠ .pfailAsserted → ∀ b : Bool, s.SameBut (if b then s.secondPasses else s) ∧
      ∀ l, (if b then s.secondPasses else s).line l = if c = .pfailAsserted then { s.line l with body := [] } else s.line l :=
    fun hne b => by
      cases b
      · exact unchanged hne rfl
      · rw [if_pos rfl, h.secondPasses]; exact ⟨rfl, fun l => (if_neg hne).symm⟩
  by_cases hr : (requestBody c).isSome
  · obtain ⟨⟨l, body⟩, hb⟩ := Option.isSome_iff_exists.mp hr
    obtain ⟨code, rest, rfl⟩ := requestBody_cons c l body hb
    rw [exec_request c s hr] at e
    cases e
    refine unchanged (by rintro rfl; cases hb) ?_
    rw [takeRequest_eq c l code rest hb, State.request_halted _ _ _ _ _ h.phase]
  · cases c <;> first | (exact absurd rfl hr) | skip
    case startUp straps stage => exact absurd rfl (hc straps stage)
    case pfailAsserted =>
      cases e
      rw [h.halt]
      exact ⟨rfl, fun l => by simp [State.line]⟩
    case rstAsserted =>
      cases e
      rw [h.halt]
      exact ⟨rfl, fun _ => rfl⟩
    case backupSupplyLost how =>
      cases how <;> cases e
      · exact ⟨rfl, fun _ => rfl⟩
      · rw [h.halt]; exact ⟨rfl, fun _ => rfl⟩
    case clockTick => cases e; exact ticked (by simp) _
    case dayRoll => cases e; exact ticked (by simp) _
    case unknownRequest l code =>
      cases e
      refine unchanged (by simp) ?_
      rw [State.request_halted _ _ _ _ _ h.phase]
      exact ite_self _
    case rejected l first => cases e; exact unchanged (by simp) (if_pos h.phase)
    case gapTimer l => cases e; exact unchanged (by simp) (h.frameEnded l)
    case frameSent l => cases e; exact unchanged (by simp) (by simp only [State.frameSent, h.sending])
    case printerFrameDiscarded p => cases e; exact unchanged (by simp) (h.dropFrame p)
    case printerLineGap p => cases e; exact unchanged (by simp) (h.dropFrame p)
    case drawerPulseEnd n => cases e; exact unchanged (by simp) (h.drawerPulseEnd n)
    case lampFlash p => cases e; exact unchanged (by simp) (if_neg (by simp [h.not_printersRun]))
    case requestLineByteArrives l b => cases e; exact unchanged (by simp) (if_pos h.phase)
    case printerLineByteArrives p b => cases e; exact unchanged (by simp) (if_neg (by simp [h.not_printersRun]))
    all_goals cases e; exact unchanged (by simp) (h.printerEvent _)

end State.Silent

/-- Settles O29: what each halt leaves, and that a silent part stays silent. -/
theorem partHalts : Obligations.PartHalts := by
  refine ⟨fun s => ⟨?_, rfl, rfl, rfl⟩, fun c s t hphase hdrawers hctl hline hc e => ?_⟩
  · have emptied : (Vector.ofFn fun l : Line => { s.halt.line l with body := [] }) =
        Vector.ofFn fun l : Line => { (s.line l).halted with body := [] } := by simp only [State.halt_line]
    exact congrArg (fun v => Host.Outcome.next { s.halt with pfail := true, lines := v }) emptied
  · obtain ⟨same, lines⟩ := State.Silent.exec ⟨hphase, hdrawers, hctl, hline⟩ hc e
    rw [same]
    exact ⟨hphase, rfl, rfl, fun l => lines l, rfl, rfl, rfl, rfl, rfl, rfl, rfl, rfl, rfl, rfl, rfl, rfl⟩

end Sys2Proof.Machine

/-! # The strip read in the coupon loop (O41) -/

namespace Sys2Proof.Machine

open Sys2Proof Sys2Proof.Machine

/-! ## Forms, jobs and entries do not look at the controllers -/

namespace CtlFree

variable (p : PrinterId)

theorem mapJob (f : Job → Job) : CtlFree (·.mapJob p f) := fun s v => by
  beta_reduce
  unfold State.mapJob
  rw [show (s.withCtls v).inProgress p = s.inProgress p from rfl]
  split <;> rfl

theorem markForm (b : Bool) : CtlFree (·.markForm p b) := fun s v => by
  beta_reduce
  unfold State.markForm
  rw [show (s.withCtls v).inProgress p = s.inProgress p from rfl]
  split <;> rfl

theorem suspend : CtlFree (·.suspend p) := (mapJob p _).comp (markForm p false)

theorem countKind (n : SessionId) (k : Kind) (f : KindCounters → KindCounters) : CtlFree (·.countKind n k f) := fun _ _ => rfl

theorem releaseCharge (j : Job) : CtlFree (·.releaseCharge j) := fun _ _ => rfl

theorem moveCursor (slot : Slot) (serial : Nat) : CtlFree (·.moveCursor slot serial) := fun s v => by
  beta_reduce
  unfold State.moveCursor
  rw [show (s.withCtls v).pack slot = s.pack slot from rfl]
  split
  · rfl
  · rename_i k _
    split
    · dsimp only
      rw [show (s.withCtls v).kind k.kind = s.kind k.kind from rfl]
      split
      · exact (raise _ _).of_eq rfl
      · rfl
    · rfl

theorem addJobRecord (slot : Slot) (first span : Nat) (reason : Reason) : CtlFree (·.addJobRecord p slot first span reason) :=
  fun s v => by
    beta_reduce
    unfold State.addJobRecord
    rw [show (s.withCtls v).inProgress p = s.inProgress p from rfl]
    split
    · rfl
    · exact noteRecords.of_eq ((mapJob p _).of_eq rfl)

theorem failForm (slot : Slot) (first span : Nat) (reason : Reason) : CtlFree (·.failForm p slot first span reason) :=
  fun s v => by
    beta_reduce
    unfold State.failForm
    rw [show (s.withCtls v).inProgress p = s.inProgress p from rfl]
    split
    · rfl
    · exact ((((addJobRecord p slot first span reason).comp (moveCursor slot _)).comp (countKind _ _ _)).comp (mapJob p _)) s v

theorem undoCoupons (n : SessionId) (k : Kind) (cs : List Coupon) : CtlFree (·.undoCoupons p n k cs) := by
  induction cs with
  | nil => exact fun _ _ => rfl
  | cons c cs ih => exact ((addJobRecord p c.slot c.serial 1 .incomplete).comp (countKind n k _)).comp ih

theorem loseForm : CtlFree (·.loseForm p) := fun s v => by
  beta_reduce
  unfold State.loseForm
  rw [show (s.withCtls v).inProgress p = s.inProgress p from rfl, show (s.withCtls v).loadedPack p = s.loadedPack p from rfl]
  split
  · split
    · exact (((addJobRecord p _ _ 1 .lost).comp (moveCursor _ _)).comp (countKind _ _ _)) s v
    · rfl
  · rfl

theorem endJob (r : JobResult) : CtlFree (·.endJob p r) := fun s v => by
  beta_reduce
  cases hg : s.inProgress p with
  | none =>
    have hg' : (s.withCtls v).inProgress p = none := hg
    simp [State.endJob, hg, hg']
  | some g =>
    have ended : CtlFree (·.ended p g.job r) := (((releaseCharge g.job).comp (dropJob p)).comp (handOver _)).comp (raise _ _)
    have undone : CtlFree (·.formsUndone p g r) := by
      unfold State.formsUndone
      split
      · exact (undoCoupons p _ _ _).comp (loseForm p)
      · exact undoCoupons p _ _ _
    rw [endJob_eq hg, endJob_eq (s := s.withCtls v) hg]
    exact (undone.comp ended) s v

theorem endAtBoundary : CtlFree (·.endAtBoundary p) := fun s v => by
  beta_reduce
  unfold State.endAtBoundary
  rw [show (s.withCtls v).inProgress p = s.inProgress p from rfl]
  split
  · rfl
  · split
    · exact endJob p .failures s v
    · split
      · exact endJob p .aborted s v
      · rfl

theorem setEntries (es : List FaultEntry) : CtlFree (·.setEntries es) := fun s v => by
  beta_reduce
  unfold State.setEntries
  rw [show (s.withCtls v).log = s.log from rfl]
  split <;> rfl

theorem enterFault (kind : FaultKind) (strip : Option StripRead) : CtlFree (·.enterFault p kind strip) := fun s v => by
  beta_reduce
  unfold State.enterFault
  rw [show (s.withCtls v).openEntry p = s.openEntry p from rfl]
  split
  · exact (raise _ _).of_eq rfl
  · rename_i e _
    dsimp only
    split
    · exact (raise _ _).of_eq (setEntries _ s v)
    · exact setEntries _ s v

end CtlFree

/-! ## A fault and a hold do not look at the sensors -/

namespace SensorBlind

variable {p : PrinterId}

theorem ite {c : State → Prop} [DecidablePred c] (hc : ∀ s x, c (s.sensed p x) ↔ c s) {f g : State → State}
    (hf : SensorBlind p f) (hg : SensorBlind p g) : SensorBlind p fun s => if c s then f s else g s := fun s x => by
  by_cases h : c s
  · simp only [hc, h, if_true, hf s x]
  · simp only [hc, h, if_false, hg s x]

theorem self : SensorBlind p fun s => s := fun _ _ => rfl

theorem hold (kind : FaultKind) (strip : Option StripRead) : SensorBlind p (·.hold p kind strip) :=
  (setPrinterState .held).comp ((CtlFree.enterFault p kind strip).blind p)

theorem spoilForm : SensorBlind p (·.spoilForm p) := fun s x => by
  beta_reduce
  have lines : ((s.sensed p x).ctl p).linesSent = (s.ctl p).linesSent := by simp
  unfold State.spoilForm
  rw [show (s.sensed p x).inProgress p = s.inProgress p from rfl, show (s.sensed p x).loadedPack p = s.loadedPack p from rfl, lines]
  split
  · split
    · exact (((CtlFree.failForm p _ _ 1 .spoiled).blind p).comp (mapCtl (fun c => { c with position := .unknown }) fun _ _ => rfl)) s x
    · rfl
  · rfl

theorem faultLoad : SensorBlind p (·.faultLoad p) := fun s x => by
  beta_reduce
  have load : ((s.sensed p x).ctl p).load = (s.ctl p).load := by simp
  unfold State.faultLoad
  rw [load]
  split
  · rfl
  · exact ((mapCtl (fun c => { c with load := none }) fun _ _ => rfl).comp ((CtlFree.endDeferred .aborted []).blind p)) s x

theorem physicalFault (k : FaultKind) : SensorBlind p (·.physicalFault p k) := fun s x => by
  beta_reduce
  have mid : (s.sensed p x).midForm p = s.midForm p := by simp [State.midForm, State.sensed]
  have suspends : SensorBlind p fun t => if s.midForm p then (t.spoilForm p).suspend p else t :=
    ite (fun _ _ => .rfl) (spoilForm.comp ((CtlFree.suspend p).blind p)) self
  have stops : SensorBlind p (·.mapCtl p fun c => c.haltWork.takeFault k) := mapCtl _ fun _ _ => rfl
  have shows : SensorBlind p fun t => if (t.ctl p).state = .offline then t else t.setPrinterState p .fault :=
    ite (fun _ _ => by simp) self (setPrinterState .fault)
  have ends : SensorBlind p fun t => if s.midForm p then t.endAtBoundary p else t :=
    ite (fun _ _ => .rfl) ((CtlFree.endAtBoundary p).blind p) self
  have all := ((((suspends.comp stops).comp shows).comp ((CtlFree.enterFault p k none).blind p)).comp ends).comp faultLoad
  rw [physicalFault_eq, physicalFault_eq, State.faultShows, State.faultShows, State.faultSuspends, State.faultSuspends, mid]
  exact all s x

end SensorBlind

section
variable {s : State} {p : PrinterId}

/-! ## What a row leaves, and the controller the set is judged on -/

/-- A failed form counts in the job in progress (R52, R80). -/
theorem failForm_inProgress {g : Progress} (hg : s.inProgress p = some g) (slot : Slot) (first span : Nat) (reason : Reason) :
    (s.failForm p slot first span reason).inProgress p = some { g with job := { g.job with
      reservation := g.job.reservation - 1, failures := g.job.failures + 1 } } := by
  have record : (s.addJobRecord p slot first span reason).inProgress p =
      some { g with job := { g.job with reservation := g.job.reservation - 1 } } := by
    rw [addJobRecord_eq hg, State.notedLow_inProgress]
    simp
  have counted : ((((s.addJobRecord p slot first span reason).moveCursor slot (first + span)).countKind g.job.session g.job.kind
      fun c => { c with failed := bump c.failed 1 })).inProgress p =
        some { g with job := { g.job with reservation := g.job.reservation - 1 } } :=
    (inProgress_of_progress (by simp) p).trans record
  simp only [State.failForm, hg, State.mapJob, counted, State.putProgress_inProgress, if_true]

/-- A form that cannot be read after three reads: UNREADABLE, and the job's end if it is due (R113). -/
def State.formUnreadable (s : State) (p : PrinterId) (slot : Slot) (k : Pack) (d : Controller) : State :=
  ((s.putCtl p d).failForm p slot k.cursor 1 .unreadable).endAtBoundary p

/-- A strange form: the position UNKNOWN, the job suspended, the printer HELD (R113). -/
def State.formStrange (s : State) (p : PrinterId) (kind : FaultKind) (strip : StripRead) (d : Controller) : State :=
  (((s.putCtl p { d with position := .unknown }).suspend p).hold p kind (some strip)).endAtBoundary p

/-- A gap passed over: the SKIPPED record, the position VERIFIED, the job ended or suspended, the printer HELD (R113). -/
def State.gapPassed (s : State) (p : PrinterId) (g : Progress) (slot : Slot) (strip : StripRead) (d : Controller) : State :=
  let u := (s.putCtl p d).failForm p slot strip.expected (strip.serial - strip.expected) .skipped
  let u := u.putCtl p { u.ctl p with position := .verified }
  let u := if 3 ≤ g.job.failures + 1 then u.endJob p .failures else u.suspend p
  (u.hold p .stockGap (some strip)).endAtBoundary p

theorem strangeForm_eq (kind : FaultKind) (strip : StripRead) (d : Controller) :
    (s.putCtl p d).strangeForm p kind strip = (s.formStrange p kind strip d, .nothing) := by
  simp [State.strangeForm, State.formStrange, State.mapCtl]

theorem gapForm_eq {g : Progress} (hg : s.inProgress p = some g) (slot : Slot) (strip : StripRead) (d : Controller) :
    (s.putCtl p d).gapForm p slot strip = (s.gapPassed p g slot strip d, .nothing) := by
  have job : (((s.putCtl p d).failForm p slot strip.expected (strip.serial - strip.expected) .skipped).mapCtl p
      fun c => { c with position := .verified }).inProgress p = some { g with job := { g.job with
        reservation := g.job.reservation - 1, failures := g.job.failures + 1 } } :=
    failForm_inProgress (s := s.putCtl p d) hg slot _ _ _
  unfold State.gapForm
  dsimp only
  rw [job]
  rfl

/-- An update that does not look at the sensors, on the controller an answer begins with, before or behind its set. -/
theorem SensorBlind.sensed_putCtl {f : State → State} (hf : SensorBlind p f) (d : Controller) (x : Sensors) :
    (f (s.putCtl p d)).sensed p x = f (s.putCtl p { d with sensors := some x }) := by
  rw [← hf, State.putCtl_sensed]

theorem formUnreadable_sensed (slot : Slot) (k : Pack) (d : Controller) (x : Sensors) :
    (s.formUnreadable p slot k d).sensed p x = s.formUnreadable p slot k { d with sensors := some x } :=
  (((CtlFree.failForm p slot k.cursor 1 .unreadable).comp (CtlFree.endAtBoundary p)).blind p).sensed_putCtl d x

theorem formStrange_sensed (kind : FaultKind) (strip : StripRead) (d : Controller) (x : Sensors) :
    (s.formStrange p kind strip d).sensed p x = s.formStrange p kind strip { d with sensors := some x } :=
  ((((CtlFree.suspend p).blind p).comp (SensorBlind.hold kind (some strip))).comp
    ((CtlFree.endAtBoundary p).blind p)).sensed_putCtl { d with position := .unknown } x

theorem gapPassed_sensed (g : Progress) (slot : Slot) (strip : StripRead) (d : Controller) (x : Sensors) :
    (s.gapPassed p g slot strip d).sensed p x = s.gapPassed p g slot strip { d with sensors := some x } :=
  have judged : SensorBlind p fun u => if 3 ≤ g.job.failures + 1 then u.endJob p .failures else u.suspend p :=
    SensorBlind.ite (fun _ _ => .rfl) ((CtlFree.endJob p .failures).blind p) ((CtlFree.suspend p).blind p)
  ((((((CtlFree.failForm p slot strip.expected (strip.serial - strip.expected) .skipped).blind p).comp
    (SensorBlind.mapCtl (fun c => { c with position := .verified }) fun _ _ => rfl)).comp judged).comp
      (SensorBlind.hold .stockGap (some strip))).comp ((CtlFree.endAtBoundary p).blind p)).sensed_putCtl d x

theorem putCtl_judged {c d : Controller} (h : d.JudgedAs c) : ((s.putCtl p d).ctl p).JudgedAs c := by
  rwa [State.putCtl_ctl, if_pos rfl]

theorem hold_judged {c : Controller} (kind : FaultKind) (strip : Option StripRead) (h : (s.ctl p).JudgedAs c) :
    ((s.hold p kind strip).ctl p).JudgedAs c := by
  refine (CtlFree.enterFault p kind strip).judged ?_
  rw [setPrinterState_ctl, if_pos rfl]
  exact ⟨by simp [Controller.enter], h.sensors, by simp [Controller.enter, h.waiting]⟩

theorem physicalFault_judged {c : Controller} (k : FaultKind) (h : (s.ctl p).JudgedAs c) :
    ((s.physicalFault p k).ctl p).JudgedAs c := by
  refine ⟨?_, (physicalFault_sensors k).trans h.sensors, physicalFault_waiting k h.waiting⟩
  obtain ⟨state, -⟩ := stricken_faultedFrom (s.ctl p) k (s.formAtRisk p)
  rw [physicalFault_ctl, state]
  split <;> simp

theorem formUnreadable_judged {c d : Controller} (slot : Slot) (k : Pack) (h : d.JudgedAs c) :
    ((s.formUnreadable p slot k d).ctl p).JudgedAs c :=
  ((CtlFree.failForm p slot k.cursor 1 .unreadable).comp (CtlFree.endAtBoundary p)).judged (putCtl_judged h)

theorem formStrange_judged {c d : Controller} (kind : FaultKind) (strip : StripRead) (h : d.JudgedAs c) :
    ((s.formStrange p kind strip d).ctl p).JudgedAs c :=
  (CtlFree.endAtBoundary p).judged (hold_judged kind _ ((CtlFree.suspend p).judged
    (putCtl_judged ⟨h.present, h.sensors, h.waiting⟩)))

theorem gapPassed_judged {c d : Controller} (g : Progress) (slot : Slot) (strip : StripRead) (h : d.JudgedAs c) :
    ((s.gapPassed p g slot strip d).ctl p).JudgedAs c := by
  refine (CtlFree.endAtBoundary p).judged (hold_judged .stockGap _ ?_)
  have failed := ((CtlFree.failForm p slot strip.expected (strip.serial - strip.expected) .skipped)).judged
    (putCtl_judged (s := s) (p := p) h)
  have verified := putCtl_judged (s := (s.putCtl p d).failForm p slot strip.expected (strip.serial - strip.expected) .skipped)
    (p := p) (c := c) (d := { ((s.putCtl p d).failForm p slot strip.expected (strip.serial - strip.expected) .skipped).ctl p with
      position := .verified }) ⟨failed.present, failed.sensors, failed.waiting⟩
  split
  · exact (CtlFree.endJob p .failures).judged verified
  · exact (CtlFree.suspend p).judged verified

/-! ## The strip, row by row (R113, R114) -/

section
variable {g : Progress} {slot : Slot} {k : Pack} (hg : s.inProgress p = some g) (hk : s.loadedPack p = some (slot, k))
include hg hk

theorem loopStrip_noForm (d : Controller) (x : Sensors) :
    (s.putCtl p d).loopStrip p (.noForm x) = ((s.putCtl p d).physicalFault p .noForms, .nothing) := by
  simp only [State.loopStrip, State.putCtl_inProgress, hg, show (s.putCtl p d).loadedPack p = some (slot, k) from hk]

theorem loopStrip_bad (d : Controller) (a b : Byte) (serial : Nat) (x : Sensors) :
    (s.putCtl p d).loopStrip p (.strip false a b serial x) =
      if d.badReads < 2 then (s.putCtl p { d with badReads := d.badReads + 1 }, .readAgain)
      else if d.formKind = .newForm then (s.formUnreadable p slot k d, .waste)
      else (s.putCtl p d, .feed .newForm) := by
  simp only [State.loopStrip, State.putCtl_inProgress, hg, show (s.putCtl p d).loadedPack p = some (slot, k) from hk,
    Bool.not_false, if_true, State.badStrip, State.putCtl_ctl, State.mapCtl, State.putCtl_putCtl]
  split
  · rfl
  · cases d.formKind <;> rfl

/-- A good strip with other letters than the kind of the job has. -/
theorem loopStrip_wrongStock (d : Controller) {a b : Byte}
    (hn : a ≠ (s.kind g.job.kind).letter1 ∨ b ≠ (s.kind g.job.kind).letter2) (serial : Nat) (x : Sensors) :
    (s.putCtl p d).loopStrip p (.strip true a b serial x) = (s.formStrange p .wrongStock ⟨k.cursor, a, b, serial⟩ d, .nothing) := by
  rw [← strangeForm_eq]
  simp only [State.loopStrip, State.putCtl_inProgress, hg, show (s.putCtl p d).loadedPack p = some (slot, k) from hk,
    Bool.not_true, Bool.false_eq_true, if_false, State.putCtl_kind, hn, if_true]

/-- A good strip with the letters of the kind of the job is judged by its serial. -/
theorem loopStrip_serial (d : Controller) (serial : Nat) (x : Sensors) :
    (s.putCtl p d).loopStrip p (.strip true (s.kind g.job.kind).letter1 (s.kind g.job.kind).letter2 serial x) =
      (s.putCtl p d).serialRead p slot k ⟨k.cursor, (s.kind g.job.kind).letter1, (s.kind g.job.kind).letter2, serial⟩ := by
  simp only [State.loopStrip, State.putCtl_inProgress, hg, show (s.putCtl p d).loadedPack p = some (slot, k) from hk,
    Bool.not_true, Bool.false_eq_true, if_false, State.putCtl_kind, ne_eq, not_true, or_self]

end

theorem serialRead_expected {slot : Slot} {k : Pack} {strip : StripRead} (h : strip.serial = k.cursor) (d : Controller) :
    (s.putCtl p d).serialRead p slot k strip = (s.putCtl p { d with position := .verified }, .verified) := by
  simp [State.serialRead, h, State.mapCtl]

/-- A used form is one behind the cursor, read as a head form, with an advance left (R114). -/
def Controller.sawUsed (c : Controller) (k : Pack) (serial : Nat) : Bool :=
  decide (c.formKind = .headForm ∧ k.first ≤ serial ∧ serial < k.cursor ∧ c.usedAdvances < 2)

/-- A gap is of at most 8 forms, and ends within the pack (R113). -/
def Pack.showsGap (k : Pack) (serial : Nat) : Bool :=
  decide (k.cursor < serial ∧ serial ≤ k.cursor + 8 ∧ serial < k.first + k.count)

theorem serialRead_other {g : Progress} (hg : s.inProgress p = some g) {slot : Slot} {k : Pack} {strip : StripRead}
    (h : strip.serial ≠ k.cursor) (d : Controller) : (s.putCtl p d).serialRead p slot k strip =
      if d.sawUsed k strip.serial then (s.putCtl p { d with usedAdvances := d.usedAdvances + 1 }, .feed .headForm)
      else if k.showsGap strip.serial then (s.gapPassed p g slot strip d, .nothing)
      else (s.formStrange p .stockDisorder strip d, .nothing) := by
  have gap : k.showsGap strip.serial = true ↔
      k.cursor < strip.serial ∧ strip.serial ≤ k.cursor + 8 ∧ strip.serial ≤ k.last := by
    simp only [Pack.showsGap, decide_eq_true_eq, Pack.last]
    omega
  unfold State.serialRead
  rw [if_neg h, gapForm_eq hg, strangeForm_eq, State.putCtl_ctl, if_pos rfl]
  by_cases behind : d.formKind = .headForm ∧ k.first ≤ strip.serial ∧ strip.serial < k.cursor
  · have ahead : ¬ k.showsGap strip.serial = true := fun hc => absurd (gap.mp hc).1 (Nat.not_lt.mpr behind.2.2.le)
    have used : d.sawUsed k strip.serial = decide (d.usedAdvances < 2) := by simp [Controller.sawUsed, behind]
    rw [if_pos behind, if_neg ahead, used]
    simp [State.mapCtl]
  · have unused : ¬ d.sawUsed k strip.serial = true := fun hc => by
      obtain ⟨h1, h2, h3, -⟩ := of_decide_eq_true hc
      exact behind ⟨h1, h2, h3⟩
    rw [if_neg behind, if_neg unused]
    simp only [gap]

end

/-! ## The answer -/

/-- A printer at work that awaits the strip of the form at its head, with nothing behind it (R104, R113). -/
structure State.ReadsForm (s : State) (p : PrinterId) (once : Bool) (g : Progress) (slot : Slot) (k : Pack) : Prop where
  runs : s.phase = .running ∨ s.phase = .starting 7
  outstanding : (s.ctl p).outstanding = some ⟨.readStrip, .loop, once⟩
  waiting : (s.ctl p).waiting = []
  linked : (s.ctl p).linkLost = false
  busy : (s.ctl p).state.busy = true
  job : s.inProgress p = some g
  pack : s.loadedPack p = some (slot, k)

/-- The controller as the answer finds its operation ended (R105). -/
def State.read (s : State) (p : PrinterId) : Controller := { s.ctl p with outstanding := none, missed := 0 }

/-- That controller with the answer's sensor set kept. -/
def State.readWith (s : State) (p : PrinterId) (x : Sensors) : Controller := { s.read p with sensors := some x }

/-- The next line or EJECT of a form leaves nothing waiting. -/
theorem printBegun_waiting {s : State} {p : PrinterId} (g : Progress) (serial : Nat) (d : Controller) (h : d.waiting = []) :
    ((s.printBegun p g serial d).ctl p).waiting = [] := by
  unfold State.printBegun
  dsimp only
  split <;> simp [h]

/-- An operation of the loop sent on a printer (R104). -/
def State.loopSent (s : State) (p : PrinterId) (op : Operation) (st : PrinterState) (d : Controller) : State :=
  s.putCtl p { d with state := st, idleLift := false, outstanding := some ⟨op, .loop, false⟩, sending := some op.frame }

theorem busy_inService {st : PrinterState} (h : st.busy = true) : st.group = .inService := by
  cases st <;> first | rfl | cases h

/-- ADVANCE goes out from a printer in service with its line free, and nothing is behind it (R104, R112, R114). -/
theorem feed_ends (s : State) (p : PrinterId) (d : Controller) (h1 : d.outstanding = none) (h2 : d.waiting = [])
    (hin : d.state.group = .inService) (kind : FormKind) :
    ((s.putCtl p d).goOn p (.feed kind)).opEnded p = s.loopSent p .advance .feeding { d with formKind := kind } := by
  have sent : (s.putCtl p d).feed p kind = s.loopSent p .advance .feeding { d with formKind := kind } := by
    unfold State.feed
    rw [sendLoop_eq (c := { d with formKind := kind }) (by simp [State.mapCtl]) h1 h2 hin rfl rfl]
    simp [State.mapCtl, State.loopSent]
  rw [State.goOn, sent, State.opEnded_nil (by simp [State.loopSent, h2])]

/-- READ STRIP goes out once more in the state that the printer shows (R113). -/
theorem readAgain_ends (s : State) (p : PrinterId) (d : Controller) (h1 : d.outstanding = none) (h2 : d.waiting = []) :
    ((s.putCtl p d).goOn p .readAgain).opEnded p = s.putCtl p { d with
      outstanding := some ⟨.readStrip, .loop, false⟩, sending := some (Operation.frame .readStrip) } := by
  have sent : (s.putCtl p d).sendOp p .readStrip .loop = s.putCtl p { d with
      outstanding := some ⟨.readStrip, .loop, false⟩, sending := some (Operation.frame .readStrip) } := by
    rw [State.sendOp_free _ _ _ _ (by simpa using h1) (by simpa using h2)]
    simp [Controller.sendsOnce, show (Operation.readStrip == Operation.enquire) = false from rfl]
  rw [State.goOn, sent, State.opEnded_nil (by simp [h2])]

/-- A VERIFIED form: a marked job ends, else its first line goes out (R100, R112, R116). -/
theorem verified_ends {s : State} {p : PrinterId} {g : Progress} (hg : s.inProgress p = some g) {slot : Slot} {k : Pack}
    (hk : s.loadedPack p = some (slot, k)) (d : Controller) (h1 : d.outstanding = none) (h2 : d.waiting = [])
    (hin : d.state.group = .inService) : ((s.putCtl p d).goOn p .verified).opEnded p =
      if g.job.abortMark then ((s.putCtl p d).endJob p .aborted).setPrinterState p .idle else s.printBegun p g k.cursor d := by
  rw [State.goOn, formVerified_eq hg hk h1 h2 hin]
  split
  · refine State.opEnded_nil ?_
    rw [setPrinterState_ctl, if_pos rfl, (CtlFree.endJob p .aborted).ctl, State.putCtl_ctl, if_pos rfl]
    exact h2
  · exact State.opEnded_nil (printBegun_waiting g _ _ h2)

namespace State.ReadsForm

variable {s : State} {p : PrinterId} {once : Bool} {g : Progress} {slot : Slot} {k : Pack} (h : s.ReadsForm p once g slot k)
include h

theorem judged : (s.read p).JudgedAs (s.ctl p) :=
  ⟨fun e => absurd (h.busy.symm.trans (congrArg PrinterState.busy e)) (by simp [PrinterState.busy]), rfl, h.waiting⟩

/-- The answer, by what its result makes of the controller: behind a set without a sensor newly bad the next step, else the
faults of the sensors newly bad (R106, log entry 10). -/
theorem answered {a : StripAnswer} {x : Sensors} (ha : stripContent a = .sensors x) {R : Controller → State} {n : NextStep}
    (hr : (s.putCtl p (s.read p)).loopStrip p a = (R (s.read p), n))
    (hR : ∀ d x, (R d).sensed p x = R { d with sensors := some x }) (hc : ((R (s.read p)).ctl p).JudgedAs (s.ctl p)) :
    (Sensors.worsens x (s.ctl p).sensors = false → exec (.readStripAnswer p a) s =
      .next (((R (s.readWith p x)).goOn p n).opEnded p).afterEvent) ∧
    (Sensors.worsens x (s.ctl p).sensors = true → exec (.readStripAnswer p a) s =
      .next ((R (s.read p)).struck p x).afterEvent) := by
  obtain ⟨h1, h2⟩ := State.takeAnswer_split (o := ⟨.readStrip, .loop, once⟩) (result := fun u => u.stripRead p a .loop)
    h.linked rfl x hr hR hc
  rw [exec_readStripAnswer h.runs h.outstanding, ha]
  exact ⟨fun hx => by rw [h1 hx]; rfl, fun hx => by rw [h2 hx]; rfl⟩

/-- An answer with no next step. -/
theorem answered_nothing {a : StripAnswer} {x : Sensors} (ha : stripContent a = .sensors x) {R : Controller → State}
    (hr : (s.putCtl p (s.read p)).loopStrip p a = (R (s.read p), .nothing))
    (hR : ∀ d x, (R d).sensed p x = R { d with sensors := some x })
    (hc : ∀ {c d : Controller}, d.JudgedAs c → ((R d).ctl p).JudgedAs c) :
    (Sensors.worsens x (s.ctl p).sensors = false → exec (.readStripAnswer p a) s = .next (R (s.readWith p x)).afterEvent) ∧
    (Sensors.worsens x (s.ctl p).sensors = true → exec (.readStripAnswer p a) s =
      .next ((R (s.read p)).struck p x).afterEvent) := by
  obtain ⟨calm, worse⟩ := h.answered ha hr hR (hc h.judged)
  have waits : ((R (s.readWith p x)).ctl p).waiting = [] :=
    (hc (c := s.readWith p x) (d := s.readWith p x) ⟨h.judged.present, rfl, h.waiting⟩).waiting
  exact ⟨fun hx => by rw [calm hx, State.goOn_nothing, State.opEnded_nil waits], worse⟩

/-! ### The rows -/

theorem noForm (x : Sensors) :
    (Sensors.worsens x (s.ctl p).sensors = false → exec (.readStripAnswer p (.noForm x)) s =
      .next ((s.putCtl p (s.readWith p x)).physicalFault p .noForms).afterEvent) ∧
    (Sensors.worsens x (s.ctl p).sensors = true → exec (.readStripAnswer p (.noForm x)) s =
      .next (((s.putCtl p (s.read p)).physicalFault p .noForms).struck p x).afterEvent) :=
  h.answered_nothing rfl (R := fun d => (s.putCtl p d).physicalFault p .noForms) (loopStrip_noForm h.job h.pack _ x)
    (SensorBlind.physicalFault .noForms).sensed_putCtl fun hd => physicalFault_judged .noForms (putCtl_judged hd)

theorem wrongStock {a b : Byte} (hn : a ≠ (s.kind g.job.kind).letter1 ∨ b ≠ (s.kind g.job.kind).letter2) (serial : Nat)
    (x : Sensors) :
    (Sensors.worsens x (s.ctl p).sensors = false → exec (.readStripAnswer p (.strip true a b serial x)) s =
      .next (s.formStrange p .wrongStock ⟨k.cursor, a, b, serial⟩ (s.readWith p x)).afterEvent) ∧
    (Sensors.worsens x (s.ctl p).sensors = true → exec (.readStripAnswer p (.strip true a b serial x)) s =
      .next ((s.formStrange p .wrongStock ⟨k.cursor, a, b, serial⟩ (s.read p)).struck p x).afterEvent) :=
  h.answered_nothing rfl (R := s.formStrange p .wrongStock ⟨k.cursor, a, b, serial⟩) (loopStrip_wrongStock h.job h.pack _ hn serial x)
    (formStrange_sensed _ _) (formStrange_judged _ _)

/-- The bad strip: read again twice, then UNREADABLE for a new form, and a head form passed (R113, R114). -/
theorem bad (a b : Byte) (serial : Nat) (x : Sensors) :
    (Sensors.worsens x (s.ctl p).sensors = false → exec (.readStripAnswer p (.strip false a b serial x)) s = .next (
      if (s.ctl p).badReads < 2 then
        (s.putCtl p { s.readWith p x with
          badReads := (s.ctl p).badReads + 1, outstanding := some ⟨.readStrip, .loop, false⟩
          sending := some (Operation.frame .readStrip) }).afterEvent
      else match (s.ctl p).formKind with
        | .headForm => (s.loopSent p .advance .feeding { s.readWith p x with formKind := .newForm }).afterEvent
        | .newForm => (((((s.formUnreadable p slot k (s.readWith p x)).setPrinterState p .ejecting).sendOp p .eject
            .waste).opEnded p).afterEvent))) ∧
    (Sensors.worsens x (s.ctl p).sensors = true → exec (.readStripAnswer p (.strip false a b serial x)) s = .next ((
      if (s.ctl p).badReads < 2 then s.putCtl p { s.read p with badReads := (s.ctl p).badReads + 1 }
      else match (s.ctl p).formKind with
        | .headForm => s.putCtl p (s.read p)
        | .newForm => s.formUnreadable p slot k (s.read p)).struck p x).afterEvent) := by
  have row := loopStrip_bad h.job h.pack (s.read p) a b serial x
  by_cases hn : (s.ctl p).badReads < 2
  · rw [if_pos hn, if_pos hn]
    obtain ⟨calm, worse⟩ := h.answered rfl (R := fun d => s.putCtl p { d with badReads := d.badReads + 1 })
      (row.trans (if_pos hn)) (fun d x => State.putCtl_sensed ..) (putCtl_judged ⟨h.judged.present, rfl, h.waiting⟩)
    exact ⟨fun hx => (calm hx).trans (congrArg (fun t : State => Host.Outcome.next t.afterEvent) (readAgain_ends s p
      { s.readWith p x with badReads := (s.ctl p).badReads + 1 } rfl h.waiting)), worse⟩
  · rw [if_neg hn, if_neg hn]
    cases hf : (s.ctl p).formKind with
    | newForm =>
      exact h.answered rfl (R := s.formUnreadable p slot k) (n := .waste) ((row.trans (if_neg hn)).trans (if_pos hf))
        (formUnreadable_sensed slot k) (formUnreadable_judged slot k h.judged)
    | headForm =>
      have old : (s.read p).formKind ≠ .newForm := fun e => by cases hf.symm.trans e
      obtain ⟨calm, worse⟩ := h.answered rfl (R := s.putCtl p) ((row.trans (if_neg hn)).trans (if_neg old))
        (fun d x => State.putCtl_sensed ..) (putCtl_judged h.judged)
      exact ⟨fun hx => (calm hx).trans (congrArg (fun t : State => Host.Outcome.next t.afterEvent) (feed_ends s p
        (s.readWith p x) rfl h.waiting (busy_inService h.busy) .newForm)), worse⟩

/-- The expected serial: the form VERIFIED, a marked job ended or the first line sent (R100, R112, R113). -/
theorem expected (x : Sensors) :
    (Sensors.worsens x (s.ctl p).sensors = false → exec (.readStripAnswer p
        (.strip true (s.kind g.job.kind).letter1 (s.kind g.job.kind).letter2 k.cursor x)) s = .next (
      if g.job.abortMark then (((s.putCtl p { s.readWith p x with position := .verified }).endJob p .aborted).setPrinterState p
        .idle).afterEvent
      else (s.printBegun p g k.cursor { s.readWith p x with position := .verified }).afterEvent)) ∧
    (Sensors.worsens x (s.ctl p).sensors = true → exec (.readStripAnswer p
        (.strip true (s.kind g.job.kind).letter1 (s.kind g.job.kind).letter2 k.cursor x)) s =
      .next ((s.putCtl p { s.read p with position := .verified }).struck p x).afterEvent) := by
  have row := (loopStrip_serial h.job h.pack (s.read p) k.cursor x).trans (serialRead_expected rfl _)
  obtain ⟨calm, worse⟩ := h.answered rfl (R := fun d => s.putCtl p { d with position := .verified }) row
    (fun d x => State.putCtl_sensed ..) (putCtl_judged ⟨h.judged.present, rfl, h.waiting⟩)
  refine ⟨fun hx => ?_, worse⟩
  rw [calm hx, verified_ends h.job h.pack { s.readWith p x with position := .verified } rfl h.waiting (busy_inService h.busy)]
  split <;> rfl

/-- Another serial with those letters: a used form, a gap, else STOCK DISORDER (R113, R114). -/
theorem other {serial : Nat} (hn : serial ≠ k.cursor) (x : Sensors) :
    let strip : StripRead := ⟨k.cursor, (s.kind g.job.kind).letter1, (s.kind g.job.kind).letter2, serial⟩
    (Sensors.worsens x (s.ctl p).sensors = false → exec (.readStripAnswer p
        (.strip true (s.kind g.job.kind).letter1 (s.kind g.job.kind).letter2 serial x)) s = .next (
      if (s.ctl p).sawUsed k serial then
        (s.loopSent p .advance .feeding { s.readWith p x with
          formKind := .headForm, usedAdvances := (s.ctl p).usedAdvances + 1 }).afterEvent
      else if k.showsGap serial then (s.gapPassed p g slot strip (s.readWith p x)).afterEvent
      else (s.formStrange p .stockDisorder strip (s.readWith p x)).afterEvent)) ∧
    (Sensors.worsens x (s.ctl p).sensors = true → exec (.readStripAnswer p
        (.strip true (s.kind g.job.kind).letter1 (s.kind g.job.kind).letter2 serial x)) s = .next ((
      if (s.ctl p).sawUsed k serial then s.putCtl p { s.read p with usedAdvances := (s.ctl p).usedAdvances + 1 }
      else if k.showsGap serial then s.gapPassed p g slot strip (s.read p)
      else s.formStrange p .stockDisorder strip (s.read p)).struck p x).afterEvent) := by
  intro strip
  have row := (loopStrip_serial h.job h.pack (s.read p) serial x).trans (serialRead_other h.job (strip := strip) hn _)
  rw [show (s.read p).sawUsed k strip.serial = (s.ctl p).sawUsed k serial from rfl] at row
  split at row <;> rename_i hused
  · obtain ⟨calm, worse⟩ := h.answered rfl (R := fun d => s.putCtl p { d with usedAdvances := d.usedAdvances + 1 }) row
      (fun d x => State.putCtl_sensed ..) (putCtl_judged ⟨h.judged.present, rfl, h.waiting⟩)
    rw [if_pos hused, if_pos hused]
    exact ⟨fun hx => (calm hx).trans (congrArg (fun t : State => Host.Outcome.next t.afterEvent) (feed_ends s p
      { s.readWith p x with usedAdvances := (s.ctl p).usedAdvances + 1 } rfl h.waiting (busy_inService h.busy) .headForm)), worse⟩
  · rw [if_neg hused, if_neg hused]
    split at row <;> rename_i hgap
    · rw [if_pos (show k.showsGap serial = true from hgap), if_pos (show k.showsGap serial = true from hgap)]
      exact h.answered_nothing rfl (R := s.gapPassed p g slot strip) row (gapPassed_sensed g slot strip) (gapPassed_judged g slot strip)
    · rw [if_neg (show ¬ k.showsGap serial = true from hgap), if_neg (show ¬ k.showsGap serial = true from hgap)]
      exact h.answered_nothing rfl (R := s.formStrange p .stockDisorder strip) row (formStrange_sensed _ _) (formStrange_judged _ _)

end State.ReadsForm

/-! ## States and the abort boundary (R93, R95, R100, R126, R185) -/

/-- The number of a printer state's service group (R185). -/
def PrinterState.groupNumber : PrinterState → Nat
  | .absent => 1
  | .fault => 2
  | .held => 3
  | .offline => 4
  | _ => 0

theorem groupNumber_eq_iff (a b : PrinterState) : a.groupNumber = b.groupNumber ↔ a.group = b.group := by
  cases a <;> cases b <;> simp [PrinterState.groupNumber, PrinterState.group]

/-- What still waits when a printer leaves IDLE: all but an idle LIFT (R104, R122). -/
def Waiting.staysBehind : Waiting → Bool
  | .op _ .idleLift => false
  | _ => true

theorem Waiting.not_isIdleLift (w : Waiting) : (!w.isIdleLift) = w.staysBehind := by
  rcases w with _ | _ | ⟨op, purpose⟩
  · rfl
  · rfl
  · cases purpose <;> rfl

/-- A printer enters a state: the held flag, the idle-lift timer, an idle LIFT not yet sent, and the notice of a move between
service groups (R104, R109, R122, R185). -/
theorem setPrinterState_eq (s : State) (p : PrinterId) (st : PrinterState) :
    let c := s.ctl p
    let u := s.putCtl p { c with
      state := st
      held := c.held || decide (st = .held)
      idleLift := decide (st = .idle) && (if c.state = .idle then c.idleLift else decide (c.head = .engaged))
      waiting := if st = .idle then c.waiting else c.waiting.filter fun w => w.staysBehind }
    s.setPrinterState p st = if st.groupNumber = c.state.groupNumber then u else u.raise .printerChange (.printer p) := by
  simp only [State.setPrinterState, State.mapCtl, Controller.enter, beq_eq_decide, groupNumber_eq_iff, Waiting.not_isIdleLift]

theorem endAtBoundary_eq {s : State} {p : PrinterId} {g : Progress} (hg : s.inProgress p = some g) : s.endAtBoundary p =
    if 3 ≤ g.job.failures then s.endJob p .failures else if g.job.abortMark then s.endJob p .aborted else s := by
  simp only [State.endAtBoundary, hg]

theorem endAtBoundary_none {s : State} {p : PrinterId} (hg : s.inProgress p = none) : s.endAtBoundary p = s := by
  simp only [State.endAtBoundary, hg]

/-- Settles O41: the rows of the strip, and the states and ends they lead to. -/
theorem formStripIsJudged : Obligations.FormStripIsJudged := by
  refine ⟨fun s p hrun once ho hwait hl hbusy g hg slot k hk x => ?_, fun s p => ⟨setPrinterState_eq s p, fun _ _ => rfl,
    endAtBoundary_none, fun g hg => ⟨suspend_eq hg, endAtBoundary_eq hg⟩⟩⟩
  have h : s.ReadsForm p once g slot k := ⟨hrun, ho, hwait, hl, hbusy, hg, hk⟩
  exact ⟨fun hx => ⟨fun a b serial => (h.bad a b serial x).1 hx, (h.noForm x).1 hx,
      fun a b serial hn => (h.wrongStock hn serial x).1 hx, (h.expected x).1 hx, fun serial hn => (h.other hn x).1 hx⟩,
    fun hx => ⟨fun a b serial => (h.bad a b serial x).2 hx, (h.noForm x).2 hx,
      fun a b serial hn => (h.wrongStock hn serial x).2 hx, (h.expected x).2 hx, fun serial hn => (h.other hn x).2 hx⟩⟩

end Sys2Proof.Machine
